-- ==== Sys2Proof/Word.lean ====
section
/-! DEFINITION. The machine word of the register interface and the index types the spec counts with. -/

namespace Sys2Proof

/-- A 32-bit register word (R399). -/
abbrev Word := BitVec 32

/-- Pod index p, 0-15: 0 UA, 1 UB, 2-15 the D pods D1-D14 (R12). -/
abbrev PodIx := Fin 16

/-- Outlet index o, 0-3 (R134). -/
abbrev OutIx := Fin 4

/-- An eFuse path or budget consumer: 0-15 the pods, 16-19 outlet o + 16 (R113, R153, R169). -/
abbrev PathIx := Fin 20

/-- A power domain n, 0-23 (R332). -/
abbrev DomIx := Fin 24

/-- Master ID of a register access: 0 MP secure, 1 MP, 2 host, 3 SMBus, 4 manager, 5 JTAG (R380, R399). -/
abbrev Master := Fin 6

/-- Mailbox ring r, 0-5 (R361). -/
abbrev RingIx := Fin 6

/-- An upstream queue UQ_n, a shaper or a pacing queue (R212). -/
abbrev QueueIx := Fin 64

/-- A policer POL_m (R220). -/
abbrev PolIx := Fin 128

/-- A hub identifier in the cascade: 0 the manager or a stand-alone hub, 1-63 a worker (R260). -/
abbrev HubId := Fin 64

/-- An upstream pod, 0 UA and 1 UB (R12, R29). -/
abbrev UpIx := Fin 2

/-- A gate-list direction: 0 gates the upstream queues, 1 the pacing queues (R238). -/
abbrev DirIx := Fin 2

end Sys2Proof
end

