-- ==== Sys2Proof/Payload.lean ====
section
/-! DEFINITION. The data the commands carry: what a link, a partner, a sensor or a master presents to the block. -/

namespace Sys2Proof

/-- What a read of an error-correcting memory found (R307, R308): no error, a corrected one (that remains or not after the
write-back), an uncorrectable one (that recurs or not after rewriting). -/
inductive EccRead where
  | clean
  | corrected (hard : Bool)
  | uncorrectable (recurs : Bool)
  deriving DecidableEq, Repr

/-- One parity mismatch a scan or a read finds (R311): the register offset, the bits of the active copy and of the second
copy that are wrong. -/
structure ParityHit where
  off    : Nat
  active : Word
  second : Word
  deriving DecidableEq, Repr

/-- The answers of a TT (R182, R219). -/
inductive TtAnswer where
  | ack | nak | nyet | stall | error | noAnswer
  | data (bytes : Nat) (poisoned : Bool)
  deriving DecidableEq, Repr

/-- Link commands and directions on a SuperSpeed link (R24, R183, R184). -/
inductive LinkCmd where
  | lau | lxu | warmReset | toU1 | toU2 | toU3 | toU0 | ssDisabled
  deriving DecidableEq, Repr

/-- A partner termination seen on a CC pin (R34, R61); an Rp carries its level: 0 Default, 1 1.5 A, 2 3.0 A. -/
inductive Term where
  | open | ra | rd
  | rp (level : Fin 3)
  deriving DecidableEq, Repr

/-- The connection of a port's link (R199 SPEED): none, low, full, high speed, or SuperSpeed generation and lanes. -/
inductive Speed where
  | none | low | full | high | gen1x1 | gen2x1 | gen2x2
  deriving DecidableEq, Repr

/-- A received PD message as it stood on CC (R98): its header, its extended header and data as words, the retransmissions used. -/
structure PdFrame where
  header  : BitVec 16
  words   : List Word
  retries : Nat := 0
  deriving DecidableEq, Repr

/-- The object fields of a Request or EPR_Request (R74): position, operating and maximum operating current in 10 mA units,
PPS output voltage in 10 mV units, Capability Mismatch, EPR Mode Capable. -/
structure PdRdo where
  pos      : Nat
  opI      : Nat
  maxI     : Nat
  ppsV     : Nat
  mismatch : Bool
  eprCap   : Bool
  deriving DecidableEq, Repr

/-- One object of received Source_Capabilities (R83): a fixed supply with voltage in 10 mV and current in 10 mA units, or
another kind. -/
inductive SrcObject where
  | fixed (v i : Nat)
  | other
  deriving DecidableEq, Repr

/-- An answer on SOP' to Discover Identity (R71, R84): the cable's current handling 5 A, its V_CBL code 0-3, EPR Mode Capable,
active; NAK; BUSY. -/
inductive CableAnswer where
  | ack (fiveAmp : Bool) (vCbl : Fin 4) (eprCap active : Bool)
  | nak
  | busy
  deriving DecidableEq, Repr

/-- A partner's answer to the pod's own VDM (R93): an identity (Modal Operation with the Octalmya vendor ID), whether the SVID
is listed, the mode VDO, an Enter or Exit Mode ACK, NAK, BUSY. -/
inductive VdmAnswer where
  | identity (modal : Bool)
  | svids (listed : Bool)
  | modes (vdo : Word)
  | entered
  | exited
  | nak
  | busy
  deriving DecidableEq, Repr

/-- EPR_Mode actions of a sink (R81, R82). -/
inductive EprAction where
  | enter | exit
  deriving DecidableEq, Repr

/-- The PD messages the engine sends (R91). -/
inductive PdKind where
  | accept | reject | wait | psRdy | drSwap | vconnSwap | softReset | notSupported
  | sourceCaps | eprSourceCaps | request | sinkCaps | alert | eprMode | sourceInfo | revision
  | sourceCapsExt | status | manufacturerInfo | securityRequest | securityResponse | ppsStatus | sinkCapsExt
  | eprKeepAliveAck | vdm
  deriving DecidableEq, Repr

/-- BIST requests (R91). -/
inductive BistMode where
  | carrier | testData | sharedTest
  deriving DecidableEq, Repr

/-- One STATUS_WORD poll (R165): the word read, a packet error, no acknowledge. -/
inductive Poll where
  | word (w : BitVec 16)
  | pecError
  | noAck
  deriving DecidableEq, Repr

/-- The states of a SuperSpeed link (R199 SS_LTSSM), in the order of their codes. -/
inductive Ltssm where
  | ssDisabled | rxDetect | ssInactive | polling | u0 | u1 | u2 | u3 | recovery | hotReset | loopback | compliance
  deriving DecidableEq, Repr

/-- The kinds of device transaction packet (R181): ACK, NRDY, ERDY, STALL, and a Device Notification. -/
inductive TpKind where
  | ack | nrdy | erdy | stall | notification
  deriving DecidableEq, Repr

/-- Data-path violations (R195, R203): USB 2.0 babble, over-length data, unrequested data, TT over-length data. -/
inductive Violation where
  | babble | overLength | unrequested | ttOverLength
  deriving DecidableEq, Repr

/-- How received payload arrived (R190): whole, with a bad CRC-32, truncated. -/
inductive Arrival where
  | good | badCrc | truncated
  deriving DecidableEq, Repr

/-- A wake that reaches the hub from below (R186): a SuperSpeed U3 exit, a USB 2.0 resume, a connect, disconnect or
over-current event on a port. -/
inductive WakeKind where
  | ssU3Exit | usb2Resume | portEvent
  deriving DecidableEq, Repr

/-- One endpoint of a configuration descriptor (R192): number, direction (true IN), transfer type (0 control, 1 isochronous,
2 bulk, 3 interrupt), wMaxPacketSize, bInterval, the SuperSpeed companion's bMaxBurst, Mult, MaxStreams and wBytesPerInterval,
and dwBytesPerInterval of an enhanced isochronous companion. -/
structure EpDesc where
  num    : Nat
  dirIn  : Bool
  ttype  : Nat
  maxPkt : Nat
  burst  : Nat := 0
  mult   : Nat := 0
  interval   : Nat := 0
  maxStreams : Nat := 0
  wBpi   : Nat := 0
  dwBpi  : Option Nat := none
  deriving DecidableEq, Repr

/-- One alternate setting of an interface (R192): class, subclass, protocol and endpoints. -/
structure IfDesc where
  num   : Nat
  alt   : Nat
  cls   : Nat
  sub   : Nat
  proto : Nat
  eps   : List EpDesc
  deriving DecidableEq, Repr

/-- A device descriptor (R192). -/
structure DevDesc where
  vid   : Nat
  pid   : Nat
  cls   : Nat
  sub   : Nat
  proto : Nat
  bcd   : Nat
  deriving DecidableEq, Repr

/-- The control transfers the snoop records (R192); a configuration set carries whether it was read completely and whether it
is longer than 2,048 bytes. -/
inductive SnoopXfer where
  | setAddress (addr : Fin 128)
  | device (d : DevDesc)
  | config (value : Nat) (complete truncated : Bool) (ifs : List IfDesc)
  | setConfiguration (value : Nat)
  | setInterface (num alt : Nat)
  deriving DecidableEq, Repr

/-- A host request that acts on the reset or enable state of a port (R56, R91 of the hub class): PORT_RESET or BH_PORT_RESET
set, PORT_LINK_STATE set to another state than U3, PORT_ENABLE cleared, or one of these features cleared otherwise. -/
inductive PortReq where
  | reset | warmReset
  | linkState (target : Ltssm)
  | disable
  | clearOther
  /-- ClearPortFeature(PORT_SUSPEND) (R185) -/
  | resume
  /-- ClearPortFeature of a change bit, by its number in wPortChange -/
  | clearChange (bit : Fin 16)
  deriving DecidableEq, Repr

/-- A Seedbank record (R316); `data` holds bytes [16-31], the bytes past its end being 0. -/
structure Rec where
  tb    : BitVec 64 := 0
  devId : Nat := 0
  src   : Nat := 0
  code  : Nat := 0
  sev   : Nat := 0
  flags : Nat := 0
  data  : List Nat := []
  deriving DecidableEq, Repr

/-- The part of a received CSB frame beside its type and payload (R255): destination, sender, TURN, ACK_VALID, SEQ and ACK. -/
structure CsbHdr where
  dst      : Nat
  src      : Nat
  turn     : Bool
  ackValid : Bool
  seq      : Nat
  ack      : Nat
  deriving DecidableEq, Repr

/-- HELLO (R260, R261): the worker's die identifier, its present ID or 0, PREF_ID, tree ID, SUB_DEPTH, its floor in 0.25 W
units, GRANT_HOLD in s, T_MGR_LOSS in 100 ms units, firmware version, whether the link is a standby link, and the parent end
that offers the link (the hub that took the frame from the worker). -/
structure Hello where
  uid       : BitVec 64
  id        : Nat
  prefId    : Nat
  tree      : BitVec 64
  subDepth  : Nat
  floor     : Nat
  grantHold : Nat
  tMgrLoss  : Nat
  fwVer     : Word
  standby   : Bool
  parent    : Nat
  deriving DecidableEq, Repr

/-- ASSIGN (R260, R261): the identifier it answers, the ID, level and tree ID, the result code, primary or standby. -/
structure Assign where
  uid     : BitVec 64
  id      : Nat
  level   : Nat
  tree    : BitVec 64
  result  : Nat
  standby : Bool
  deriving DecidableEq, Repr

/-- LINK (R271): the subtree below a child is lost, or a worker moved to a new parent over its standby link, with its own subtree
(IDs, and levels below it), which the relays of the new path route to (R262). -/
inductive LinkNote where
  | lost (child : Nat)
  | moved (worker parent : Nat) (sub : List (Nat × Nat))
  deriving DecidableEq, Repr

/-- DEMAND (R264): per class, the sum of charges and refused claims; the sum of charges; B_EFF. In 0.25 W units. -/
structure Demand where
  cls     : Vector Nat 8
  charges : Nat
  bEff    : Nat
  deriving DecidableEq, Repr

/-- FW_OFFER (R269): image tag, version, length in bytes, SHA-256 digest. -/
structure FwOffer where
  tag     : Nat
  version : Word
  length  : Nat
  digest  : List Word
  deriving DecidableEq, Repr

/-- FW_STATUS (R269): the version already runs; ranges of missing blocks (first, count); ready; failed; running a version. -/
inductive FwReport where
  | done
  | missing (ranges : List (Nat × Nat))
  | ready
  | failed
  | running (version : Word)
  deriving DecidableEq, Repr

/-- The payload of a CSB frame by type (R256). -/
inductive CsbBody where
  | null
  | poll
  | hello (x : Hello)
  | assign (a : Assign)
  | link (k : LinkNote)
  | sync (t1 : Nat)
  | delayReq
  | delayResp (t4 : Nat)
  | grant (w : Nat)
  | demand (d : Demand)
  | grantAck (charges : Nat)
  | mbx (bytes : List (BitVec 8))
  | journal (first : Nat) (recs : List Rec)
  | journalAck (last : Nat)
  | fwOffer (o : FwOffer)
  | fwBlock (tag block : Nat) (data : List (BitVec 8))
  | fwStatus (k : FwReport)
  | fwActivate
  deriving DecidableEq, Repr

/-- A CSB frame to send (R255): destination, sender, payload. -/
structure CsbFrame where
  dst  : Nat
  src  : Nat
  body : CsbBody
  deriving DecidableEq, Repr

/-- A USB Type-C Authentication request as the responder sees it (R289). -/
inductive AuthRequest where
  | getDigests
  | getCertificate (slot offset length : Nat)
  | challenge (slot : Nat) (nonce : List Word)
  | malformed
  deriving DecidableEq, Repr

/-- A response the pod's initiator receives (R284): slot 0's digest where it is populated; one piece of the chain with the
chain's whole length; CHALLENGE_AUTH; ERROR; a malformed response. -/
inductive AuthAnswer where
  | digests (slot0 : Option (List Word))
  | certificate (bytes total : Nat)
  | challengeAuth
  | error
  | malformed
  deriving DecidableEq, Repr

/-- The worst error that the reads of MRAM showed, with the word it lies in (R307, R308). -/
structure MramRead where
  word : Nat := 0
  read : EccRead := .clean
  deriving DecidableEq, Repr

/-- The memory in which the MP meets an uncorrectable error (R307, R322): a word of SRAM banks 0-6, or of MRAM at an instruction
fetch. -/
inductive MpError where
  | sram (word : Nat)
  | fetch (word : Nat)
  deriving DecidableEq, Repr

/-- What the signature engine or a verification found (R284, R288, R294, R295, R298): everything verified; the validity
periods of a chain's certificates; the chain's root key hash; a signature or public key produced; the version and security
version of an image. -/
structure SigResult where
  ok      : Bool
  /-- what the reads of MRAM showed, and at which word (R307) -/
  mram    : MramRead := {}
  certs   : List (Nat × Nat) := []
  root    : List Word := []
  words   : List Word := []
  version : Word := 0
  secVer  : Nat := 0
  deriving DecidableEq, Repr

/-- A sink pod whose partner's VBUS fell, with the voltage in mV (R57, R471). -/
structure VbusDrop where
  pod : PodIx
  mv  : Nat
  deriving DecidableEq, Repr

/-- Readings of the two SBU pins in 100 Ohm units (R46, R51). -/
structure SbuRead where
  sbu1 : Nat
  sbu2 : Nat
  deriving DecidableEq, Repr

/-- A reply of the partner, and whether the hub asked for it (R91). -/
structure PdReply where
  frame : PdFrame
  asked : Bool
  deriving DecidableEq, Repr

/-- What the board shows at a thermal step (R126, R168): the die sensor in degrees, VIN_SNS in its 2 mV units. -/
structure BoardSense where
  dieTemp : Int
  vin     : Nat
  deriving DecidableEq, Repr

/-- What the reading of an alert gave (R163): the responder's STATUS_WORD, and whether RL_ALERT_N is still asserted after it. -/
structure AlertRead where
  status : BitVec 16
  still  : Bool
  deriving DecidableEq, Repr

/-- READ_VOUT and READ_IOUT of a slot (R169). -/
structure MonitorRead where
  vout : BitVec 16
  iout : BitVec 16
  deriving DecidableEq, Repr

/-- The data of a start-split (R182, R190): its length, how it came in, and what the Shell gives where it is read out at once. -/
structure SplitData where
  bytes   : Nat
  how     : Arrival
  payload : EccRead
  deriving DecidableEq, Repr

/-- An idle timer of a link that ended (R183): the U2 timer or the U1 timer, and whether the state is enabled. -/
structure IdleTimer where
  toU2    : Bool
  enabled : Bool
  deriving DecidableEq, Repr

/-- A register read: its width code, and the parity mismatches found on its edge, by the read itself in what it reads, by the
scanner elsewhere (R311, R406, R418). -/
structure ReadReq where
  size : Fin 4
  hits : List ParityHit := []
  deriving DecidableEq, Repr

/-- What the boot ROM found (R292, R294): the bank it verified is good, its version and security version, the key slots whose
blob failed. -/
structure BootResult where
  ok       : Bool
  /-- what the reads of MRAM showed, and at which word (R307) -/
  mram     : MramRead := {}
  version  : Word
  secVer   : Nat
  badSlots : List (Fin 32)
  deriving DecidableEq, Repr

end Sys2Proof
end

