-- ==== Sys2Proof/Syntax.lean ====
section
/-! DEFINITION. The commands of the block: one constructor per row of the table of operations and events, with the data each
brings to the block. -/

namespace Sys2Proof

/-- The commands and events the block takes, in the order of the table. -/
inductive Instr where
  /-- POWER_ON_RESET (R460): VDD_HUSK rises through the power-on reset threshold, and the whole device is held in reset. -/
  | powerOnReset
  /-- RST_N_RISE (R461): The rising edge of RST_N starts start-up: every domain is ON, the pods start unattached and the boot ROM runs. -/
  | rstNRise (casRole1 casRole0 refPresent : Bool)
  /-- RST_N_FALL (R463): RST_N taken low in service pulls every gate off, opens VCONN, floats CC and SBU and starts the discharge. -/
  | rstNFall
  /-- SUPPLY_UNDERVOLTAGE (R464): A core, PHY or I/O supply stays more than 10 % low for 5 µs while one of its domains is ON, and the device resets as under RST_N. -/
  | supplyUndervoltage (rail : Fin 10)
  /-- DIE_OVERTEMPERATURE (R464): The die reaches 150 °C, and the device resets and is held in reset until it cools below 135 °C. -/
  | dieOvertemperature
  /-- BOOT_VERIFY_DONE (R294): The boot ROM finishes verifying a bank and its security version, then runs it, falls back to the other bank, or stays in the boot ROM. -/
  | bootVerifyDone (r : BootResult)
  /-- UMURI_IN_SERVICE (R322): Umuri comes into service after a boot or restart, reads the hardware state back and sets UMURI_UP. -/
  | umuriInService
  /-- TC_TERMINATION_SEEN (R36): A partner termination appears on CC, and the pod enters AttachWait, or ignores an accessory or an unsupported termination. -/
  | tcTerminationSeen (p : PodIx) (cc1 cc2 : Term)
  /-- CHATTER_QUIET_EXPIRY (R39): 10 s pass without a chatter transition, and the extended debounce ends. -/
  | chatterQuietExpiry (p : PodIx)
  /-- DRP_TOGGLE (R36): The source or sink share of tDRP ends, and a DRP pod switches between Unattached.SRC and Unattached.SNK. -/
  | drpToggle (p : PodIx)
  /-- T_CC_DEBOUNCE_EXPIRY (R36): tCCDebounce (or the extended debounce) ends with the termination stable, and the moisture check starts. -/
  | tCcDebounceExpiry (p : PodIx) (vbusMv : Nat)
  /-- MOISTURE_CHECK_DONE (R47): A moisture check ends; its readings are classed and the pod attaches, or enters or stays in WET. -/
  | moistureCheckDone (p : PodIx) (r0 r1 r2 r3 : Nat) (vbusMv : Nat)
  /-- T_PD_DEBOUNCE_EXPIRY (R36): A termination stays lost for tPDDebounce, and the pod returns to an unattached state. -/
  | tPdDebounceExpiry (p : PodIx) (vbusMv : Nat)
  /-- T_DRP_TRY_EXPIRY (R36): tDRPTry ends in Try.SRC without Rd, and the pod enters TryWait.SNK. -/
  | tDrpTryExpiry (p : PodIx)
  /-- T_DRP_TRY_WAIT_EXPIRY (R36): Partner VBUS does not appear within tDRPTryWait, and the pod returns to Unattached.SNK. -/
  | tDrpTryWaitExpiry (p : PodIx)
  /-- PARTNER_VBUS_PRESENT (R471): Partner VBUS reaches 4.00 V at a sink pod's sense input, which can complete a sink attach. -/
  | partnerVbusPresent (p : PodIx)
  /-- SINK_VBUS_DISCONNECT (R471): Partner VBUS falls below the disconnect threshold of the present contract, and the sink pod detaches. -/
  | sinkVbusDisconnect (v : VbusDrop)
  /-- VBUS_BELOW_0V8 (R117): VBUS falls below 0.8 V, which lets an attach or CHECK_0V proceed and ends the discharge. -/
  | vbusBelow0v8 (x : PathIx)
  /-- VBUS_PRESENT_TIMEOUT (R40): VBUS stays at or above 0.8 V for 1 s in AttachWait.SRC, and VBUS_PRESENT is set and counted. -/
  | vbusPresentTimeout (p : PodIx)
  /-- T_ERROR_RECOVERY_EXPIRY (R36): tErrorRecovery elapses, and the pod returns to its unattached state. -/
  | tErrorRecoveryExpiry (p : PodIx)
  /-- WET_RECHECK (R50): The RECHK interval elapses in WET; a new check runs and three dry re-checks in a row leave WET. -/
  | wetRecheck (p : PodIx)
  /-- LIVE_SBU_CHECK (R51): The RECHK interval elapses in an attached state, and the SBU pins are measured. -/
  | liveSbuCheck (p : PodIx) (r2 r3 : Nat)
  /-- LIVE_SBU_CONFIRM (R51): The second reading, 100 ms after a wet one, enters WET with VCONN opened and VBUS switched off, or counts a transient. -/
  | liveSbuConfirm (p : PodIx) (r : SbuRead) (lockout : Bool)
  /-- LOCKOUT_EXPIRY (R36): T_LOCKOUT elapses, and the pod leaves LOCKOUT for its unattached state. -/
  | lockoutExpiry (p : PodIx)
  /-- LOCKOUT_CLR (R59): A write of LOCKOUT_CLR ends LOCKOUT at once. -/
  | lockoutClr (m : Master) (p : PodIx)
  /-- FORCE_DETACH (R59): A write of FORCE_DETACH sends the pod to ErrorRecovery, or is ignored in the states of R40. -/
  | forceDetach (m : Master) (p : PodIx)
  /-- REBASE (R63): A write of REBASE discards the pod's four moisture baselines. -/
  | rebase (m : Master) (p : PodIx)
  /-- VCONN_OC_TRIP (R42): VCONN current exceeds VCONN_ILIM; the switch opens and stays open until detach. -/
  | vconnOcTrip (p : PodIx)
  /-- HUSK_ATTACH_SENSE (R52): The Husk sees a partner termination in two consecutive samples on an unpowered pod and raises a wake. -/
  | huskAttachSense (p : PodIx) (cc1 cc2 : Term)
  /-- LINK_UP (R54): A pod's link reaches U0, or the USB 2.0 enabled state, and BH_AVAIL is set. -/
  | linkUp (p : PodIx) (speed : Speed)
  /-- DATA_LINK_LOSS (R55): A D pod's data link is lost while Rd and VB.ON hold; the pod enters BOUNCE_HOLD and starts the window. -/
  | dataLinkLoss (p : PodIx)
  /-- BOUNCE_HOLD_RECOVER (R56): The link returns at the same speed within the window; the hold ends and the deferred packets are forwarded. -/
  | bounceHoldRecover (p : PodIx) (speed : Speed)
  /-- BOUNCE_HOLD_EXPIRY (R56): The hold window expires, and the port reports a disconnect. -/
  | bounceHoldExpiry (p : PodIx)
  /-- DR_SWAP_RESPONSE_TIMEOUT (R19): The hub's DR_Swap gets no answer within tSenderResponse, and the pod becomes POWER_ONLY. -/
  | drSwapResponseTimeout (p : PodIx)
  /-- DR_SWAP_WAIT_RETRY (R91): 100 ms after a Wait answer, the hub sends DR_Swap again, at most three times. -/
  | drSwapWaitRetry (p : PodIx)
  /-- UPSTREAM_FS_RELEASE (R472): The ACTIVE pod's USB 2.0 connection is enabled at full speed without SuperSpeed; the pod is released as POWER_ONLY. -/
  | upstreamFsRelease (u : UpIx)
  /-- UPSTREAM_LINK_LOSS (R22): The ACTIVE pod loses both its SuperSpeed link and its USB 2.0 connection, and T_FAIL starts. -/
  | upstreamLinkLoss (u : UpIx)
  /-- UPSTREAM_RECOVERED (R23): The lost pod's connection returns, within T_FAIL or while it waits with FAIL_EN at 0, and the reconnection sequence runs on it. -/
  | upstreamRecovered (u : UpIx) (speed : Speed)
  /-- T_FAIL_EXPIRY (R23): T_FAIL expires; the hub fails over, releases the pod, keeps waiting, or leaves no pod ACTIVE. -/
  | tFailExpiry
  /-- SWITCH (R28): A write of SWITCH requests a commanded switch to the other upstream pod, or is refused with SWITCH_REFUSED. -/
  | switch (m : Master)
  /-- RECONNECT_CONNECT (R24): The new pod's PHY is ready; it presents its terminations and pull-up and becomes ACTIVE, and record 0x4101 is written. -/
  | reconnectConnect
  /-- PORT_POWER_REQUEST (R15): A Set or ClearPortFeature(PORT_POWER) is accepted and changes neither VBUS nor the contract. -/
  | portPowerRequest (port : Fin 15) (on : Bool)
  /-- PORT_RESET_REQUEST (R56): A hub request that sets or clears PORT_RESET, BH_PORT_RESET, PORT_LINK_STATE or PORT_ENABLE ends any hold and resets or disables the port. -/
  | portResetRequest (p : PodIx) (r : PortReq)
  /-- GET_PORT_STATUS (R56): GetPortStatus returns the port status, including the held status during a bounce hold. -/
  | getPortStatus (port : Fin 15)
  /-- PD_REQUEST_RECEIVED (R74): A Request or EPR_Request is checked and answered with Accept or Reject, with a budget claim where the charge rises. -/
  | pdRequestReceived (p : PodIx) (f : PdFrame) (r : PdRdo)
  /-- SRC_TRANSITION_EXPIRY (R75): tSrcTransition after Accept ends; the new voltage is requested, or PS_RDY is sent when the voltage does not change. -/
  | srcTransitionExpiry (p : PodIx)
  /-- REGULATOR_CONFIRM_TIMEOUT (R75): 250 ms pass without converter confirmation; the engine sends Hard Reset and sets REGULATOR_FAIL. -/
  | regulatorConfirmTimeout (p : PodIx)
  /-- REOFFER_TIMER (R76): T_REOFFER elapses with a changed list, and an upward re-offer is sent. -/
  | reofferTimer (p : PodIx)
  /-- SINK_TX_EXPIRY (R77): tSinkTx ends after Rp is set to SinkTxNG, and the pending Alert, capabilities or VCONN_Swap are sent. -/
  | sinkTxExpiry (p : PodIx)
  /-- PPS_TIMEOUT (R80): No PPS Request arrives within tPPSTimeout, and the engine sends Hard Reset. -/
  | ppsTimeout (p : PodIx)
  /-- EPR_MODE_RECEIVED (R81): An EPR_Mode Enter or Exit is received; entry is judged by the five conditions, or exit sends SPR capabilities. -/
  | eprModeReceived (p : PodIx) (f : PdFrame) (a : EprAction)
  /-- EPR_KEEPALIVE_RECEIVED (R82): An EPR_KeepAlive is received and answered with EPR_KeepAlive_Ack. -/
  | eprKeepaliveReceived (p : PodIx) (f : PdFrame)
  /-- EPR_KEEPALIVE_TIMEOUT (R82): No EPR_KeepAlive arrives within tSourceEPRKeepAlive, and the engine sends Hard Reset. -/
  | eprKeepaliveTimeout (p : PodIx)
  /-- SOURCE_CAPABILITIES_RECEIVED (R83): A sink pod selects an object from the received Source_Capabilities and sends its Request. -/
  | sourceCapabilitiesReceived (p : PodIx) (f : PdFrame) (objs : List SrcObject)
  /-- CABLE_DISCOVERY_START (R84): 2 ms after VCONN is on, the pod sends Discover Identity on SOP′. -/
  | cableDiscoveryStart (p : PodIx)
  /-- CABLE_IDENTITY_RESPONSE (R84): The cable answers on SOP′; its identity sets I_CBL and V_CBL, or a BUSY answer schedules another try. -/
  | cableIdentityResponse (p : PodIx) (f : PdFrame) (a : CableAnswer)
  /-- CABLE_DISCOVERY_TIMEOUT (R84): The cable does not answer within tVDMSenderResponse; the attempt ends and the first capabilities may go out. -/
  | cableDiscoveryTimeout (p : PodIx)
  /-- CABLE_DISCOVERY_RETRY (R84): tDiscoverIdentity, or 50 ms after BUSY, elapses, and another SOP′ attempt is made up to CBL_RETRY. -/
  | cableDiscoveryRetry (p : PodIx)
  /-- VCONN_SWAP_RECEIVED (R85): A partner's VCONN_Swap is accepted or rejected, and an accepted swap runs. -/
  | vconnSwapReceived (p : PodIx) (f : PdFrame)
  /-- VCONN_SWAP_TIMEOUT (R85): No partner PS_RDY arrives within tVCONNSourceTimeout during a swap, and the engine sends Hard Reset. -/
  | vconnSwapTimeout (p : PodIx)
  /-- VCONN_SWAP_SEND (R86): The engine sends its own VCONN_Swap when VCONN_PREF asks for a different VCONN state. -/
  | vconnSwapSend (p : PodIx)
  /-- VCONN_SWAP_WAIT_RETRY (R86): 100 ms after a Wait, VCONN_Swap is sent again, at most three times. -/
  | vconnSwapWaitRetry (p : PodIx)
  /-- VCONN_COLLISION_RETRY (R87): 100 ms after a crossing swap ends, an abandoned VCONN_Swap is retried once. -/
  | vconnCollisionRetry (p : PodIx)
  /-- HARD_RESET_RECEIVED (R89): Hard Reset signalling is received; any AMS is abandoned, VCONN opens and the reset sequence starts. -/
  | hardResetReceived (p : PodIx)
  /-- PS_HARD_RESET_EXPIRY (R89): tPSHardReset elapses after a Hard Reset; the source switches VBUS off and discharges it. -/
  | psHardResetExpiry (p : PodIx)
  /-- SRC_RECOVER_EXPIRY (R89): tSrcRecover elapses; the sequencer switches VBUS on again from VB.CHECK_0V. -/
  | srcRecoverExpiry (p : PodIx)
  /-- SINK_VBUS_RETURN_TIMEOUT (R89): VBUS has not returned within 1 s of a sink's Hard Reset, and the Type-C detach applies. -/
  | sinkVbusReturnTimeout (p : PodIx)
  /-- SOFT_RESET_RECEIVED (R89): A Soft_Reset is accepted and the message counters are reset. -/
  | softResetReceived (p : PodIx) (f : PdFrame)
  /-- SOFT_RESET_ACCEPT_TIMEOUT (R94): A Soft_Reset sent by the engine is not accepted within tSenderResponse, and Hard Reset is sent. -/
  | softResetAcceptTimeout (p : PodIx)
  /-- SEND_SOURCE_CAP_TIMER (R89): tTypeCSendSourceCap elapses without GoodCRC; capabilities are resent, and after nCapsCount the engine enters PDE.NO_PD. -/
  | sendSourceCapTimer (p : PodIx)
  /-- NO_REQUEST_TIMEOUT (R94): No Request arrives within tSenderResponse after capabilities while a contract stands, and Hard Reset is sent. -/
  | noRequestTimeout (p : PodIx)
  /-- TRANSMIT_FAILURE (R94): A message gets no GoodCRC after nRetryCount retransmissions; it counts as a violation answered by Soft_Reset or Hard Reset. -/
  | transmitFailure (p : PodIx) (header : BitVec 16)
  /-- VIOL_QUIET_EXPIRY (R95): An explicit contract stands for VIOL_QUIET without a violation, and both runs clear. -/
  | violQuietExpiry (p : PodIx)
  /-- PD_CRC_ERROR (R90): A message with a bad CRC is discarded without GoodCRC and counted. -/
  | pdCrcError (p : PodIx) (f : PdFrame)
  /-- MALFORMED_MESSAGE (R90): A malformed message is answered with Soft_Reset and counted as a violation. -/
  | malformedMessage (p : PodIx) (f : PdFrame)
  /-- UNEXPECTED_MESSAGE (R90): A valid message that is unexpected in the present state is answered with Soft_Reset and counted as a violation. -/
  | unexpectedMessage (p : PodIx) (f : PdFrame)
  /-- UNSUPPORTED_MESSAGE_RECEIVED (R90): A reserved or unsupported message type is answered with Not_Supported. -/
  | unsupportedMessageReceived (p : PodIx) (f : PdFrame)
  /-- ACCEPT_RECEIVED (R91): An Accept is received as the answer to the pod's own request. -/
  | acceptReceived (p : PodIx) (f : PdFrame)
  /-- REJECT_RECEIVED (R91): A Reject is received as an answer and ends the pod's request. -/
  | rejectReceived (p : PodIx) (f : PdFrame)
  /-- WAIT_RECEIVED (R91): A Wait is received as an answer, and a retry is scheduled. -/
  | waitReceived (p : PodIx) (f : PdFrame)
  /-- PING_RECEIVED (R91): A Ping is received and ignored. -/
  | pingReceived (p : PodIx) (f : PdFrame)
  /-- PS_RDY_RECEIVED (R91): A PS_RDY is received in a transition or a swap, which completes it and may set the sink switch request. -/
  | psRdyReceived (p : PodIx) (f : PdFrame)
  /-- GET_SOURCE_CAP_RECEIVED (R91): A Get_Source_Cap is answered with capabilities, or with Not_Supported on a sink-only pod. -/
  | getSourceCapReceived (p : PodIx) (f : PdFrame)
  /-- GET_SINK_CAP_RECEIVED (R91): A Get_Sink_Cap is answered with Sink_Capabilities on UA and UB, or with Not_Supported on D pods. -/
  | getSinkCapReceived (p : PodIx) (f : PdFrame)
  /-- DR_SWAP_RECEIVED (R91): A partner's DR_Swap is answered with Reject. -/
  | drSwapReceived (p : PodIx) (f : PdFrame)
  /-- PR_SWAP_RECEIVED (R91): A PR_Swap is answered with Reject. -/
  | prSwapReceived (p : PodIx) (f : PdFrame)
  /-- NOT_SUPPORTED_RECEIVED (R91): A Not_Supported is received and ends the AMS the pod started. -/
  | notSupportedReceived (p : PodIx) (f : PdFrame)
  /-- GET_SOURCE_CAP_EXTENDED_RECEIVED (R91): A Get_Source_Cap_Extended is answered with Source_Capabilities_Extended, or with Not_Supported. -/
  | getSourceCapExtendedReceived (p : PodIx) (f : PdFrame)
  /-- GET_STATUS_RECEIVED (R78): A Get_Status is answered with a Status message. -/
  | getStatusReceived (p : PodIx) (f : PdFrame)
  /-- GET_PPS_STATUS_RECEIVED (R91): A Get_PPS_Status is answered with PPS_Status during a PPS contract, otherwise with Not_Supported. -/
  | getPpsStatusReceived (p : PodIx) (f : PdFrame)
  /-- GET_SINK_CAP_EXTENDED_RECEIVED (R91): A Get_Sink_Cap_Extended is answered on UA and UB, or with Not_Supported on D pods. -/
  | getSinkCapExtendedReceived (p : PodIx) (f : PdFrame)
  /-- GET_SOURCE_INFO_RECEIVED (R91): A Get_Source_Info is answered with Source_Info, or with Not_Supported on a sink. -/
  | getSourceInfoReceived (p : PodIx) (f : PdFrame)
  /-- GET_REVISION_RECEIVED (R91): A Get_Revision is answered with Revision 3.2. -/
  | getRevisionReceived (p : PodIx) (f : PdFrame)
  /-- GET_MANUFACTURER_INFO_RECEIVED (R91): A Get_Manufacturer_Info is answered with the vendor and product IDs and "EX1402". -/
  | getManufacturerInfoReceived (p : PodIx) (f : PdFrame)
  /-- BIST_RECEIVED (R91): A BIST Carrier Mode or Test Data is carried out when BIST_EN is 1 and VBUS is at vSafe5V, otherwise ignored. -/
  | bistReceived (p : PodIx) (f : PdFrame) (mode : BistMode)
  /-- SINK_CAPABILITIES_RECEIVED (R91): A Sink_Capabilities message is captured. -/
  | sinkCapabilitiesReceived (p : PodIx) (f : PdFrame)
  /-- ALERT_RECEIVED (R91): An Alert from the partner is captured and journaled. -/
  | alertReceived (p : PodIx) (f : PdFrame)
  /-- REPLY_MESSAGE_RECEIVED (R91): Source_Info, Revision, Status, PPS_Status, Manufacturer_Info or extended capabilities answering the pod's request are captured. -/
  | replyMessageReceived (p : PodIx) (r : PdReply)
  /-- EPR_GET_SOURCE_CAP_RECEIVED (R91): An EPR_Get_Source_Cap is answered with EPR_Source_Capabilities on D pods, or with Not_Supported. -/
  | eprGetSourceCapReceived (p : PodIx) (f : PdFrame)
  /-- SECURITY_REQUEST_RECEIVED (R289): A Security_Request on UA or UB is passed to the security unit, which answers as responder. -/
  | securityRequestReceived (p : PodIx) (f : PdFrame) (q : AuthRequest)
  /-- SECURITY_RESPONSE_RECEIVED (R284): A Security_Response on a D pod is checked as the next step of device authentication. -/
  | securityResponseReceived (p : PodIx) (f : PdFrame) (a : AuthAnswer)
  /-- CABLE_RESET_RECEIVED (R91): Cable Reset signalling is ignored. -/
  | cableResetReceived (p : PodIx)
  /-- VDM_DISCOVER_IDENTITY_RECEIVED (R92): Discover Identity on SOP is answered with ACK and the hub's identity. -/
  | vdmDiscoverIdentityReceived (p : PodIx) (f : PdFrame)
  /-- VDM_DISCOVER_SVIDS_RECEIVED (R92): Discover SVIDs is answered with ACK listing the Octalmya SVID (UFP with CAS_EN), or with NAK. -/
  | vdmDiscoverSvidsReceived (p : PodIx) (f : PdFrame)
  /-- VDM_DISCOVER_MODES_RECEIVED (R92): Discover Modes is answered with the cascade mode VDO (UFP), or with NAK. -/
  | vdmDiscoverModesReceived (p : PodIx) (f : PdFrame) (svid : BitVec 16)
  /-- VDM_ENTER_MODE_RECEIVED (R93): An upstream pod answers Enter Mode with ACK when the cascade unit accepts a parent, otherwise with NAK. -/
  | vdmEnterModeReceived (p : PodIx) (f : PdFrame) (svid : BitVec 16) (mode : Nat)
  /-- ENTER_MODE_ACK_GOODCRC (R93): The UFP receives GoodCRC for its Enter Mode ACK and switches SBU to CSB. -/
  | enterModeAckGoodcrc (p : PodIx)
  /-- VDM_EXIT_MODE_RECEIVED (R93): Exit Mode is answered; SBU returns to open and the cascade unit is informed. -/
  | vdmExitModeReceived (p : PodIx) (f : PdFrame)
  /-- VDM_ATTENTION_RECEIVED (R92): An Attention VDM is captured and ignored. -/
  | vdmAttentionReceived (p : PodIx) (f : PdFrame)
  /-- VDM_SVID_COMMAND_RECEIVED (R92): An SVID-specific command is answered with NAK. -/
  | vdmSvidCommandReceived (p : PodIx) (f : PdFrame)
  /-- VDM_RESPONSE_RECEIVED (R93): An ACK, NAK or BUSY to the pod's own VDM advances, ends or retries the probe, and an Enter Mode ACK switches SBU to CSB. -/
  | vdmResponseReceived (p : PodIx) (f : PdFrame) (a : VdmAnswer)
  /-- VDM_BUSY_RETRY (R93): 50 ms after BUSY the VDM is sent again; a fourth BUSY ends the probe. -/
  | vdmBusyRetry (p : PodIx)
  /-- VDM_RESPONSE_TIMEOUT (R93): No VDM answer arrives within tVDMSenderResponse, and the probe ends. -/
  | vdmResponseTimeout (p : PodIx)
  /-- SEND_CAPS (R109): The SEND_CAPS command bit makes the engine send capabilities now. -/
  | sendCaps (m : Master) (p : PodIx)
  /-- SOFT_RST (R109): The SOFT_RST command bit makes the engine send Soft_Reset. -/
  | softRst (m : Master) (p : PodIx)
  /-- HARD_RST (R109): The HARD_RST command bit makes the engine send Hard Reset, counted in HR_RUN. -/
  | hardRst (m : Master) (p : PodIx)
  /-- VCONN_SWAP (R109): The VCONN_SWAP command bit makes the engine send VCONN_Swap once. -/
  | vconnSwap (m : Master) (p : PodIx)
  /-- CAS_EXIT (R109): The CAS_EXIT command bit leaves Edura Cascade mode. -/
  | casExit (m : Master) (p : PodIx)
  /-- EPR_EXIT (R109): The EPR_EXIT command bit leaves EPR mode. -/
  | eprExit (m : Master) (p : PodIx)
  /-- CAP_DATA_READ (R99): A 32-bit read of POD_p_CAP_DATA pops the head word, or returns Pip when the FIFO is empty. -/
  | capDataRead (m : Master) (p : PodIx)
  /-- CAP_FLUSH (R99): A write of CAP_FLUSH discards every stored item and orphans the rest of the item being pushed. -/
  | capFlush (m : Master) (p : PodIx) (rest : Nat)
  /-- T_0V_EXPIRY (R117): VBUS is not below 0.8 V within T_0V in CHECK_0V, and the sequencer trips BACKDRIVE. -/
  | t0vExpiry (x : PathIx)
  /-- WINDOW_QUALIFIED (R117): x_VSRC stays inside the window for 0.5 ms, and the sequencer enters INSERT_DELAY. -/
  | windowQualified (x : PathIx)
  /-- T_WIN_EXPIRY (R117): The converter is not inside the window within T_WIN, and the sequencer trips WINDOW_FAIL. -/
  | tWinExpiry (x : PathIx)
  /-- T_INS_EXPIRY (R117): The insertion delay ends, and the pre-charge gate is turned on. -/
  | tInsExpiry (x : PathIx)
  /-- PRECHARGE_REACHED (R117): VBUS reaches 90 % of V_TGT, and the sequencer enters RAMP and raises the main gate. -/
  | prechargeReached (x : PathIx)
  /-- T_PRE_EXPIRY (R124): 90 % is not reached within T_PRE, and the sequencer trips PRECHARGE_FAIL. -/
  | tPreExpiry (x : PathIx)
  /-- RAMP_COMPLETE (R117): The main gate is enhanced and VBUS is at 95 %; the sequencer enters VB.ON and the PD engine leaves WAIT_VBUS. -/
  | rampComplete (x : PathIx)
  /-- T_RAMP_EXPIRY (R122): The ramp has not completed at T_RAMP, and the sequencer trips RAMP_TIMEOUT. -/
  | tRampExpiry (x : PathIx)
  /-- FAST_TRIP (R122): Current exceeds I_FAST; both gates are pulled off within 500 ns and the sequencer trips SHORT or SHORT_AT_RAMP. -/
  | fastTrip (x : PathIx)
  /-- OVERCURRENT_TRIP (R122): Current stays above I_LIM for T_OC, and the sequencer trips OVERCURRENT. -/
  | overcurrentTrip (x : PathIx)
  /-- THERMAL_MODEL_UPDATE (R115, R125): Every 10 µs the FET temperature estimate is updated; uv is the sense voltage in µV. -/
  | thermalModelUpdate (x : PathIx) (uv : Int) (vbus vsrc : Nat) (b : BoardSense)
  /-- OV_TRIP (R122): VBUS stays above the window for 20 µs in ON, and the sequencer trips OV. -/
  | ovTrip (x : PathIx)
  /-- UV_TRIP (R122): VBUS stays below the window for T_UV in ON, unless the trip is suppressed, and the sequencer trips UV. -/
  | uvTrip (x : PathIx)
  /-- REVERSE_TRIP (R122): Reverse current stays above its threshold for 10 µs, and the sequencer trips REVERSE. -/
  | reverseTrip (x : PathIx)
  /-- GATES_OFF_CONFIRMED (R117): Both gates are confirmed off in TRIPPED; the sequencer backs off, or latches off at RETRY_MAX. -/
  | gatesOffConfirmed (x : PathIx)
  /-- BACKOFF_EXPIRY (R129): The retry backoff ends, and the sequencer enters COOL_DOWN. -/
  | backoffExpiry (x : PathIx)
  /-- COOL_DOWN_END (R117): The floor has elapsed and T_EST is at or below T_COOL; the sequencer retries from CHECK_0V or goes to OFF. -/
  | coolDownEnd (x : PathIx)
  /-- T_STABLE_EXPIRY (R130): The output stays in VB.ON for T_STABLE, and RETRY_CNT returns to 0. -/
  | tStableExpiry (x : PathIx)
  /-- LATCH_CLR (R132): A write of LATCH_CLR in LATCHED_OFF sends the sequencer to COOL_DOWN with RETRY_CNT at 0. -/
  | latchClr (m : Master) (x : PathIx)
  /-- RETRY_CLR (R130): A write of RETRY_CLR clears RETRY_CNT. -/
  | retryClr (m : Master) (x : PathIx)
  /-- DISCHARGE_TIMEOUT (R133): VBUS is still at or above 0.8 V 650 ms after the discharge started, and DSCH_FAIL is set. -/
  | dischargeTimeout (x : PathIx)
  /-- VOLTAGE_TRANSITION_END (R123): The converter is confirmed and VBUS lies inside the new window, and the voltage transition ends. -/
  | voltageTransitionEnd (x : PathIx)
  /-- OUTLET_PRESENCE_CHANGE (R134): OUT_o_PRES changes and holds for PRES_DEB; the outlet claims and turns on, or withdraws its request. -/
  | outletPresenceChange (o : OutIx) (pin : Bool)
  /-- BUDGET_RECOMPUTE (R155): Targets, cuts, sheds, marks, P_OFF and Rp levels are recomputed after a change of B, a charge, the warning or a BUDGET field. -/
  | budgetRecompute
  /-- RP_CHARGE_LOWER (R157): 60 ms (tSinkAdj) after Rp is lowered, the pod's charge is lowered. -/
  | rpChargeLower (p : PodIx)
  /-- VIN_WARNING_ASSERT (R158): VIN_SNS stays below VIN_WARN for VIN_DEB; the warning asserts and the brownout response starts. -/
  | vinWarningAssert (vin : Nat)
  /-- VIN_FAIL_ASSERT (R158): VIN_SNS stays below VIN_FAIL for VIN_DEB, and FAIL is set. -/
  | vinFailAssert (vin : Nat)
  /-- FAIL_SHED (R159): 0.1 ms after FAIL, every consumer of a class above FAIL_KEEP is shed. -/
  | failShed
  /-- EW_SHED (R159): T_EW_SHED after the warning, marked outlets and classes from BO_SHED_CLASS up are shed. -/
  | ewShed
  /-- BO_RESOLVE (R159): At T_BO_RESOLVE consumers still above their targets are shed until the charges fit. -/
  | boResolve
  /-- VIN_WARNING_CLEAR (R158): VIN_SNS stays above VIN_WARN + VIN_HYST for T_VIN_REC, the warning clears and restoring starts. -/
  | vinWarningClear (vin : Nat)
  /-- RESTORE_CLASS (R160): T_RESTORE × c after the start of restoring, the shed consumers of class c are restored where headroom allows. -/
  | restoreClass (c : Fin 8)
  /-- RLINK_REQUEST_START (R165): RLINK takes the next queued request and writes its PAGE, CLEAR_FAULTS, VOUT and OPERATION commands. -/
  | rlinkRequestStart (acks : Nat) (mode rev : BitVec 8)
  /-- RLINK_STATUS_POLL (R165): Every 100 µs RLINK reads STATUS_WORD of the slot under request. -/
  | rlinkStatusPoll (slot : Fin 32) (r : Poll) (pg : BitVec 8)
  /-- RLINK_REQUEST_DONE (R165): A request is confirmed by its status and power-good input, and its requester is told. -/
  | rlinkRequestDone (slot : Fin 32) (pg : BitVec 8)
  /-- RLINK_REQUEST_TIMEOUT (R165): TIMEOUT passes without confirmation; the attempt fails with result 2, 3 or 4 and is retried or reported. -/
  | rlinkRequestTimeout (slot : Fin 32) (pg : BitVec 8)
  /-- RLINK_ALERT (R163): RL_ALERT_N asserts; RLINK reads the Alert Response Address and the responder's STATUS_WORD, then journals and counts it. -/
  | rlinkAlert (addr : BitVec 7) (r : AlertRead)
  /-- RLINK_MONITOR_READ (R169): Every 10 ms one slot's READ_VOUT and READ_IOUT are read when RL_MON_EN is 1. -/
  | rlinkMonitorRead (r : MonitorRead) (pg : BitVec 8)
  /-- HOST_IN_REQUEST (R175): A host IN request for a D pod reserves cells and is forwarded, or waits in its pacing queue. -/
  | hostInRequest (p : PodIx) (addr : Fin 128) (ep : Fin 16) (numP : Nat)
  /-- DEVICE_DATA_PACKET (R179): A device data packet is stored whole, classified, policed and queued for upstream. -/
  | deviceDataPacket (p : PodIx) (addr : Fin 128) (ep : Fin 16) (bytes : Nat) (last : Bool) (how : Arrival) (tt : Bool)
  /-- DEVICE_TRANSACTION_PACKET (R181): A device transaction packet (ACK, NRDY, ERDY, STALL, notification) is queued with its endpoint, and NRDY or STALL releases the reservation. -/
  | deviceTransactionPacket (p : PodIx) (addr : Fin 128) (ep : Fin 16) (dirIn : Bool) (k : TpKind)
  /-- RESERVATION_IDLE_TIMEOUT (R176): 100 µs pass without data for an endpoint, and its reservation's unused remainder is released. -/
  | reservationIdleTimeout (p : PodIx) (addr : Fin 128) (ep : Fin 16)
  /-- HOST_OUT_DATA (R177): Host-to-device payload for a D pod is stored in the pod's reservation or the pool, or its header credit is withheld. -/
  | hostOutData (p : PodIx) (addr : Fin 128) (ep : Fin 16) (bytes : Nat) (how : Arrival)
  /-- CREDIT_HOLD_EXPIRY (R178): No room appears within 4 µs of a withheld credit, and the packet is discarded. -/
  | creditHoldExpiry
  /-- HOST_HEADER_PACKET (R187): A host header packet for a D pod is forwarded, or deferred according to the pod's link state. -/
  | hostHeaderPacket (p : PodIx) (addr : Fin 128) (ep : Fin 16) (dirIn : Bool)
  /-- ITP_RECEIVED (R180): An ITP on the active upstream is sent to every downstream link in U0 and disciplines the timebase. -/
  | itpReceived (delayed : Bool) (sinceNs : Nat)
  /-- START_OPPORTUNITY (R214): The upstream link is free in U0, and the scheduler selects and starts the head packet of an eligible queue. -/
  | startOpportunity (payload desc : EccRead)
  /-- PACKET_TX_COMPLETE (R174): A packet's last byte is sent on its egress link, and its cells are freed. -/
  | packetTxComplete (p : PodIx) (payload desc : EccRead)
  /-- TT_START_SPLIT (R182): A TT start-split is buffered, or answered NAK when the buffers are busy or pacing holds it. -/
  | ttStartSplit (p : PodIx) (addr : Fin 128) (ep : Fin 16) (dirIn periodic : Bool) (d : SplitData)
  /-- TT_COMPLETE_SPLIT (R219): A complete-split hands over TT data, or is answered NYET while the shaper or the gate holds it. -/
  | ttCompleteSplit (p : PodIx) (addr : Fin 128) (ep : Fin 16) (dirIn : Bool) (payload : EccRead)
  /-- CLEAR_TT_BUFFER (R182): CLEAR_TT_BUFFER clears the TT buffer for the named device, endpoint and direction. -/
  | clearTtBuffer (p : PodIx) (addr : Fin 128) (ep : Fin 16) (dirIn : Bool)
  /-- RESET_TT (R182): RESET_TT discards every buffer of the TT and resets it. -/
  | resetTt (p : PodIx)
  /-- GET_TT_STATE (R182): GET_TT_STATE is answered with STALL. -/
  | getTtState (p : PodIx)
  /-- STOP_TT (R182): STOP_TT is answered with STALL. -/
  | stopTt (p : PodIx)
  /-- LINK_IDLE_TIMEOUT (R183): A downstream link's U1 or U2 idle timeout expires, and the pod enters U1 or U2. -/
  | linkIdleTimeout (p : PodIx) (t : IdleTimer)
  /-- LGO_RECEIVED (R183): An LGO_U1 or LGO_U2 is accepted, or answered with LXU while packets or reservations are held. -/
  | lgoReceived (p : PodIx) (toU2 enabled : Bool)
  /-- PORT_LINK_STATE_U3 (R184): SetPortFeature(PORT_LINK_STATE, U3) sends the stored packets and then directs the link to U3. -/
  | portLinkStateU3 (p : PodIx)
  /-- UPSTREAM_U3_ENTRY (R184): The upstream link enters U3, and every downstream link is directed to U3 after its stored packets. -/
  | upstreamU3Entry
  /-- UPSTREAM_U3_EXIT (R184): The upstream link leaves U3, and the stored upstream-bound packets are sent in order. -/
  | upstreamU3Exit
  /-- USB2_IDLE_SUSPEND (R185): 3 ms without upstream USB 2.0 traffic suspend the hub, and SOFs stop downstream. -/
  | usb2IdleSuspend
  /-- PORT_SUSPEND (R185): SetPortFeature(PORT_SUSPEND) stops repeating to that port. -/
  | portSuspend (p : PodIx)
  /-- DEVICE_REMOTE_WAKE (R186): A device's wake or a port event is propagated upstream according to the link states and the wake mask. -/
  | deviceRemoteWake (p : PodIx) (k : WakeKind) (permitted : Bool)
  /-- SNOOP_TRANSFER_COMPLETE (R192): A snooped control transfer completes; its results go to the firewall and then to the Endpoint Map. -/
  | snoopTransferComplete (p : PodIx) (addr : Fin 128) (direct highSpeed snooped : Bool) (x : SnoopXfer)
  /-- BABBLE (R195): A data-path violation is answered and counted; at BABBLE_LIMIT within 1 s the port is disabled. -/
  | babble (p : PodIx) (v : Violation) (addr : Fin 128)
  /-- MAP_ENTRY_WRITE (R207): A master's write of an Endpoint Map entry takes effect in one CLK_PE cycle, subject to guarding. -/
  | mapEntryWrite (m : Master) (bankB : Bool) (idx : Fin 4064) (w : Word)
  /-- PACE_RELEASE (R223): The head of a pacing queue is released when its shaper, policer, cell and gate conditions hold. -/
  | paceRelease (n : QueueIx)
  /-- PACE_DEFER_EXPIRY (R224): A request held for T_PACE_DEFER is answered to the host with Deferred set. -/
  | paceDeferExpiry (n : QueueIx) (addr : Fin 128) (ep : Fin 16)
  /-- PACE_PASS_EXPIRY (R224): An unused 1 ms pass for an endpoint expires with no charge. -/
  | pacePassExpiry (addr : Fin 128) (ep : Fin 16)
  /-- TB_HOLDOVER_TIMEOUT (R236): 1 ms passes without a used ITP, and the timebase enters holdover. -/
  | tbHoldoverTimeout
  /-- GATE_SWITCH (R241): TB reaches S, and the operational gate list is replaced by the admin list. -/
  | gateSwitch (d : DirIx)
  /-- GATE_ENTRY_ADVANCE (R239): A gate-list entry's interval ends, and the next entry's gate states take effect. -/
  | gateEntryAdvance (d : DirIx)
  /-- CANCEL (R241): A write of CANCEL ends a pending gate switch and unlocks the admin list. -/
  | cancel (m : Master) (d : DirIx)
  /-- AUTO_WAIT_EXPIRY (R252): AUTO_WAIT runs out before a parent is accepted, and an AUTO hub becomes MANAGER. -/
  | autoWaitExpiry
  /-- CSB_BAD_FRAME (R255): A frame with a bad CRC, a Manchester violation, too long a LEN or an unknown type is discarded and counted. -/
  | csbBadFrame (p : PodIx)
  /-- CSB_NULL (R256): A NULL frame carries only an acknowledgement. -/
  | csbNull (p : PodIx) (hd : CsbHdr)
  /-- CSB_POLL (R257): A POLL frame from the parent grants the child a turn. -/
  | csbPoll (p : PodIx) (hd : CsbHdr)
  /-- CSB_HELLO (R260): The manager receives HELLO, assigns an ID by the rules, and answers with ASSIGN; a standby HELLO is judged. -/
  | csbHello (p : PodIx) (hd : CsbHdr) (x : Hello)
  /-- CSB_ASSIGN (R260): A worker receives ASSIGN and joins with its ID and level, or stays unjoined. -/
  | csbAssign (p : PodIx) (hd : CsbHdr) (a : Assign)
  /-- CSB_LINK (R271): The manager receives LINK and marks the subtree lost, or records a moved worker. -/
  | csbLink (p : PodIx) (hd : CsbHdr) (k : LinkNote)
  /-- CSB_SYNC (R263): A child records t2 on receiving SYNC. -/
  | csbSync (p : PodIx) (hd : CsbHdr) (t1 : Nat)
  /-- CSB_DELAY_REQ (R263): The parent records t4 on receiving DELAY_REQ and answers with DELAY_RESP. -/
  | csbDelayReq (p : PodIx) (hd : CsbHdr)
  /-- CSB_DELAY_RESP (R263): The child computes its offset and disciplines its timebase. -/
  | csbDelayResp (p : PodIx) (hd : CsbHdr) (t4 : Nat)
  /-- CSB_GRANT (R267): A worker writes GRANT, recomputes B and sends GRANT_ACK once its charges fit. -/
  | csbGrant (p : PodIx) (hd : CsbHdr) (w : Nat)
  /-- CSB_DEMAND (R265): The manager receives DEMAND and recomputes the grant targets. -/
  | csbDemand (p : PodIx) (hd : CsbHdr) (d : Demand)
  /-- CSB_GRANT_ACK (R266): The manager receives GRANT_ACK, lowers HELD and issues waiting raises. -/
  | csbGrantAck (p : PodIx) (hd : CsbHdr) (charges : Nat)
  /-- CSB_MBX (R377): An MBX frame carries a command to ring 4 on a worker, or a forwarded response to the manager. -/
  | csbMbx (p : PodIx) (hd : CsbHdr) (bytes : List (BitVec 8))
  /-- CSB_JOURNAL (R268): The manager stores forwarded journal records and answers with JOURNAL_ACK. -/
  | csbJournal (p : PodIx) (hd : CsbHdr) (first : Nat) (recs : List Rec)
  /-- CSB_JOURNAL_ACK (R268): A worker receives JOURNAL_ACK and releases acknowledged records from JCOL_PEND. -/
  | csbJournalAck (p : PodIx) (hd : CsbHdr) (last : Nat)
  /-- CSB_FW_OFFER (R269): A worker receives FW_OFFER, then answers DONE or clears its idle bank. -/
  | csbFwOffer (p : PodIx) (hd : CsbHdr) (o : FwOffer)
  /-- CSB_FW_BLOCK (R269): A worker writes a received firmware block into its idle bank. -/
  | csbFwBlock (p : PodIx) (hd : CsbHdr) (tag block : Nat) (data : List (BitVec 8))
  /-- CSB_FW_STATUS (R269): The manager receives FW_STATUS and repairs, records READY or FAILED, or starts the next batch. -/
  | csbFwStatus (p : PodIx) (hd : CsbHdr) (k : FwReport)
  /-- CSB_FW_ACTIVATE (R269): A worker receives FW_ACTIVATE and restarts its MP into the new bank. -/
  | csbFwActivate (p : PodIx) (hd : CsbHdr)
  /-- CSB_REPEAT_TIMEOUT (R256): A reliable frame is unacknowledged for 1 ms and is repeated; after three repeats link loss is declared. -/
  | csbRepeatTimeout (p : PodIx)
  /-- CSB_TURN_GRANT (R257): The parent grants the child a turn at least every 500 µs. -/
  | csbTurnGrant (p : PodIx)
  /-- CSB_TURN_LAPSE (R257): The child does not start within 20 µs, and the turn lapses. -/
  | csbTurnLapse (p : PodIx)
  /-- HELLO_RETRY (R260): An unjoined worker sends HELLO again every 10 s, or every 1 s after manager loss. -/
  | helloRetry
  /-- SYNC_INTERVAL (R263): SYNC_INT elapses, and the parent sends SYNC on the segment. -/
  | syncInterval (p : PodIx)
  /-- DEMAND_INTERVAL (R264): DEMAND_INT elapses, or 10 ms after a refused claim, and the worker sends DEMAND. -/
  | demandInterval
  /-- GRANT_REFRESH (R266): GRANT_REFRESH elapses, and the manager resends every GRANT. -/
  | grantRefresh
  /-- GRANT_ACK_TIMEOUT (R267): No GRANT_ACK arrives within T_GRANT_ACK, and ACK_LATE is set. -/
  | grantAckTimeout (w : HubId)
  /-- JOURNAL_FORWARD (R268): A worker sends eligible Seedbank records in JOURNAL frames within its rate limit. -/
  | journalForward
  /-- JOURNAL_REPEAT (R268): 100 ms after an unacknowledged JOURNAL frame, the worker repeats it. -/
  | journalRepeat
  /-- FW_ACTIVATE_TIMEOUT (R270): A worker does not report RUNNING within T_FW_ACT, and the distribution halts. -/
  | fwActivateTimeout (w : HubId)
  /-- LINK_SILENCE (R271): No frame arrives from the neighbour for T_LINK_LOSS, and link loss is declared. -/
  | linkSilence (p : PodIx)
  /-- MANAGER_LOSS (R271): No frame from the manager for T_MGR_LOSS; the worker holds its grant and enters timebase holdover. -/
  | managerLoss
  /-- GRANT_HOLD_EXPIRY (R271): GRANT_HOLD ends after manager loss, and the worker uses its floor budget. -/
  | grantHoldExpiry
  /-- WORKER_SILENCE (R271): The manager hears nothing from a worker for its T_MGR_LOSS and marks it lost. -/
  | workerSilence (w : HubId)
  /-- WORKER_HOLD_EXPIRY (R266): A lost worker's GRANT_HOLD ends, and its HELD falls to its floor. -/
  | workerHoldExpiry (w : HubId)
  /-- SIGNATURE_DONE (R288): The signature engine finishes a verification or signature, and the waiting step continues. -/
  | signatureDone (r : SigResult)
  /-- AUTH_TIMEOUT (R286): T_AUTH elapses, and AUTH_STATE becomes TIMEOUT. -/
  | authTimeout (p : PodIx)
  /-- RELEASE (R303): A write of RELEASE ends a POLICY disable and clears the blocked addresses. -/
  | release (m : Master) (p : PodIx)
  /-- REAUTH (R303): A write of REAUTH restarts authentication. -/
  | reauth (m : Master) (p : PodIx)
  /-- UTC_BASE_HI_WRITE (R285): A write of SEC_UTC_BASE_HI sets UTC_VALID. -/
  | utcBaseHiWrite (m : Master) (v : Word)
  /-- MF_AUTH_REQUEST (R289): An authentication request on MF EP0 is answered by the responder, or with ERROR Busy. -/
  | mfAuthRequest (q : AuthRequest)
  /-- DBG_REQ (R298): DBG_REQ over JTAG with a token is verified and starts the erase sequence, or is refused. -/
  | dbgReq (scope : Nat) (token : List Word)
  /-- EXTEST (R297): EXTEST is carried out, or refused while any eFuse sequencer is not in VB.OFF. -/
  | extest
  /-- SHELL_SCRUB (R309): Each SHELL_SCRUB_PER a Shell cell is read, corrected and written back. -/
  | shellScrub (word : Fin 17) (r : EccRead)
  /-- MP_SCRUB (R309): Each MP_SCRUB_PER a word of MP SRAM or ring memory is read, corrected and written back. -/
  | mpScrub (r : EccRead)
  /-- PARITY_SCAN (R311): The scanner checks both copies of configuration registers. -/
  | parityScan (hits : List ParityHit)
  /-- JOURNAL_RECORD (R315): A Seedbank record reaches the NVM unit and is stored, deferred, staged or dropped below JNL_MIN_SEV. -/
  | journalRecord
  /-- MRAM_STORE_COMPLETE (R318): An MRAM store finishes, and the next store can start. -/
  | mramStoreComplete
  /-- HOLDUP_MEASUREMENT (R319): Every 10 µs the hold-up energy is measured, and the oldest deferred store of each class is tried. -/
  | holdupMeasurement (pinMv : Nat)
  /-- RD_IDX (R317): A write of RD_IDX loads that record into the journal window. -/
  | rdIdx (m : Master) (idx : Nat) (r : EccRead)
  /-- MP_WATCHDOG_EXPIRY (R322): Umuri has not served the watchdog within MP_WDT_T, and the MP restarts. -/
  | mpWatchdogExpiry
  /-- MP_EXCEPTION (R322): An MP exception restarts the MP. -/
  | mpException
  /-- MP_ECC_ERROR (R322): An uncorrectable MP SRAM or instruction-fetch error restarts the MP. -/
  | mpEccError (x : MpError)
  /-- RESTART (R322): A write of RESTART resets the MP, aborts the rings and reruns the boot ROM. -/
  | restart (m : Master)
  /-- TGT (R343): A write of TGT in DOM_n_REQ requests a domain transition, at once or held for a plan. -/
  | tgt (m : Master) (n : DomIx) (tgt : Fin 4) (hold : Bool)
  /-- PLAN_GO (R343): A write of PLAN_GO runs every held domain request as one ordered plan. -/
  | planGo (m : Master)
  /-- DOMAIN_DRAINED (R334): Nothing remains in flight in a draining domain, and it enters ENTERING. -/
  | domainDrained (n : DomIx)
  /-- T_DRAIN_EXPIRY (R334): The domain is not drained within T_DRAIN, and entry is refused IN_FLIGHT. -/
  | tDrainExpiry (n : DomIx)
  /-- DOMAIN_COMMIT_POINT (R337): Clocks, isolation and retention are done, and the regulator or switch request that is the commit point is issued. -/
  | domainCommitPoint (n : DomIx)
  /-- DOMAIN_ENTRY_COMPLETE (R334): The domain reaches RET or OFF, and record 0x7001 is written. -/
  | domainEntryComplete (n : DomIx)
  /-- WAKE (R345): An enabled wake source exits its domains, or aborts an entry before its commit point. -/
  | wake (s : Fin 32)
  /-- DOMAIN_EXIT_COMPLETE (R340): Rails, switch, restore and clocks are done, the domain is ON and record 0x7002 is written. -/
  | domainExitComplete (n : DomIx) (lrcCycles : Nat)
  /-- EXIT_RAIL_RETRY (R340): Every 100 ms a failed rail request of an exit is retried. -/
  | exitRailRetry (n : DomIx)
  /-- SMBUS_WAKE_MATCH (R346): The matcher acknowledges SMB_ADDR while BUS is not ON, stretches SCL and raises wake source 16. -/
  | smbusWakeMatch
  /-- T_STRETCH_EXPIRY (R346): BUS is not ON within T_STRETCH, and SCL is released with the first data byte unacknowledged. -/
  | tStretchExpiry
  /-- HUSK_TIMER (R345): Every TMR_S seconds the Husk timer wakes the domains in TMR_DOM. -/
  | huskTimer
  /-- HUSK_FIFO_DATA_READ (R347): A read of HUSK_FIFO_DATA pops the head word of the wake-event FIFO. -/
  | huskFifoDataRead (m : Master)
  /-- FIFO_FLUSH (R347): A write of FIFO_FLUSH discards the wake-event FIFO's items. -/
  | fifoFlush (m : Master) (rest : Nat)
  /-- MP_CLK (R351): A write of MP_CLK moves the MP between FRC and CLK_MP, or is refused without PLL lock. -/
  | mpClk (m : Master) (pll : Bool)
  /-- CLOCK_MEASUREMENT (R351): Every 1 ms FRC and LRC are measured against REFCLK. -/
  | clockMeasurement (frcKhz lrcHz : Nat)
  /-- REFCLK_LOST (R352): 1 µs without a REFCLK edge switches the clocks to their FRC fallback and halts forwarding. -/
  | refclkLost
  /-- REFCLK_BACK (R352): REFCLK is present for 1 ms; the PLL relocks and the clocks return. -/
  | refclkBack
  /-- MF_COMMAND (R370): A bulk OUT transfer on EP1 or EP2 delivers one command message to ring 0 or ring 1. -/
  | mfCommand (urgent : Bool) (bytes : List (BitVec 8))
  /-- MF_RESPONSE_IN (R371): A bulk IN transfer returns the held response at the delivery pointer, or NRDY or NAK. -/
  | mfResponseIn (urgent : Bool)
  /-- MF_EP0_REWIND (R372): The REWIND vendor request resets the delivery pointer to the oldest held response. -/
  | mfEp0Rewind (wIndex : Nat)
  /-- MF_EP0_CLEAR (R372): The CLEAR vendor request clears the ring. -/
  | mfEp0Clear (wIndex : Nat)
  /-- MF_EP0_RING_STAT (R372): The RING_STAT vendor request returns both rings' status as a peek. -/
  | mfEp0RingStat (wIndex : Nat)
  /-- SMB_BLOCK_WRITE (R374): A Block Write to code 0x10 or 0x11 appends bytes to a command assembly. -/
  | smbBlockWrite (urgent : Bool) (bytes : List (BitVec 8)) (pecOk : Bool)
  /-- SMB_DISCARD_ASSEMBLY (R373): Send Byte 0x1F discards both partial assemblies. -/
  | smbDiscardAssembly
  /-- SMB_BLOCK_READ (R375): A Block Read of code 0x20 or 0x21 returns words of the head response item, or Pip. -/
  | smbBlockRead (urgent : Bool) (words : Fin 64)
  /-- SMB_CURSOR_RESET (R375): Send Byte 0x2E returns both read cursors to the start of their head responses. -/
  | smbCursorReset
  /-- SMB_ACK_TAG (R373): Write Word to code 0x30 or 0x31 acknowledges the held response with that tag. -/
  | smbAckTag (urgent : Bool) (tag : BitVec 16)
  /-- SMB_ACK_HEAD (R373): Send Byte 0x34 or 0x35 acknowledges the head response. -/
  | smbAckHead (urgent : Bool)
  /-- SMB_RING_STATUS (R373): Read Word 0x40 returns free slots and held responses of rings 2 and 3. -/
  | smbRingStatus
  /-- SMB_ASSEMBLY_TIMEOUT (R374): An assembly left incomplete for SMB_ASM_T is discarded. -/
  | smbAssemblyTimeout (urgent : Bool)
  /-- COMMAND_START (R381): Umuri takes the next startable command by tier and ring order, checks its class and runs it. -/
  | commandStart (reads : List EccRead)
  /-- JOB_COMPLETION (R368): A background job ends, and its completion response is stored. -/
  | jobCompletion
  /-- FORWARD_TIMEOUT (R391): No inner response arrives within T_FWD, and FORWARD completes with TIMEOUT. -/
  | forwardTimeout (job : Fin 8)
  /-- CLEAR (R369): A write of CLEAR in MBX_RING_r_CMD performs a ring clear. -/
  | clear (m : Master) (r : RingIx)
  /-- REWIND (R396): A write of REWIND in MBX_RING_r_CMD rewinds the delivery pointer or read cursor. -/
  | rewind (m : Master) (r : RingIx)
  /-- INFO_GET_VERSION (R387): Returns the chip ID, silicon revision, firmware version, interface version, boot bank and CSB_UID. -/
  | infoGetVersion (r : RingIx) (tag : BitVec 16) (arg : List (BitVec 8))
  /-- INFO_GET_CAPS (R387): Returns the ring, slot and payload limits, permitted classes and served families. -/
  | infoGetCaps (r : RingIx) (tag : BitVec 16) (arg : List (BitVec 8))
  /-- INFO_RESP_ACK (R366): The MBX hardware frees held responses by tag or up to a sequence number, with no response. -/
  | infoRespAck (r : RingIx) (tag : BitVec 16) (arg : List (BitVec 8))
  /-- INFO_RING_STAT (R387): Returns the status of both rings of the transport. -/
  | infoRingStat (r : RingIx) (tag : BitVec 16) (arg : List (BitVec 8))
  /-- INFO_ECHO (R387): Returns the payload bytes unchanged. -/
  | infoEcho (r : RingIx) (tag : BitVec 16) (arg : List (BitVec 8))
  /-- INFO_JOB_STAT (R387): Returns the job state for a tag. -/
  | infoJobStat (r : RingIx) (tag : BitVec 16) (arg : List (BitVec 8))
  /-- REG_READ (R387): Reads n words from consecutive addresses with the ring's master ID. -/
  | regRead (r : RingIx) (tag : BitVec 16) (arg : List (BitVec 8))
  /-- REG_WRITE (R387): Writes n words to consecutive addresses and reports denied words. -/
  | regWrite (r : RingIx) (tag : BitVec 16) (arg : List (BitVec 8))
  /-- REG_WRITE_MASKED (R387): Performs masked read-modify-writes of up to 19 registers. -/
  | regWriteMasked (r : RingIx) (tag : BitVec 16) (arg : List (BitVec 8))
  /-- REG_READ_MULTI (R387): Reads n words from listed addresses. -/
  | regReadMulti (r : RingIx) (tag : BitVec 16) (arg : List (BitVec 8))
  /-- MBX_COMMIT (R387): Commits the named groups and reports those withheld. -/
  | mbxCommit (r : RingIx) (tag : BitVec 16) (arg : List (BitVec 8))
  /-- MBX_COMMIT_STAT (R387): Returns COMMIT_STAT. -/
  | mbxCommitStat (r : RingIx) (tag : BitVec 16) (arg : List (BitVec 8))
  /-- SNAPSHOT_TAKE (R387): Takes a snapshot and returns SNAP_STAT. -/
  | snapshotTake (r : RingIx) (tag : BitVec 16) (arg : List (BitVec 8))
  /-- SNAPSHOT_READ (R387): Returns SNAP_STAT and n counters from the holding region. -/
  | snapshotRead (r : RingIx) (tag : BitVec 16) (arg : List (BitVec 8))
  /-- PORT_STATUS (R388): Returns a pod's TC, PD, VB, link and firewall status. -/
  | portStatus (r : RingIx) (tag : BitVec 16) (arg : List (BitVec 8))
  /-- PORT_OUTLET_STATUS (R388): Returns an outlet's sequencer status, measurements and info. -/
  | portOutletStatus (r : RingIx) (tag : BitVec 16) (arg : List (BitVec 8))
  /-- PORT_ENABLE (R388): Sets TC_EN of a pod with a single-group commit. -/
  | portEnable (r : RingIx) (tag : BitVec 16) (arg : List (BitVec 8))
  /-- PORT_DETACH (R388): Writes FORCE_DETACH for a pod. -/
  | portDetach (r : RingIx) (tag : BitVec 16) (arg : List (BitVec 8))
  /-- PORT_LOCKOUT_CLEAR (R388): Writes LOCKOUT_CLR for a pod. -/
  | portLockoutClear (r : RingIx) (tag : BitVec 16) (arg : List (BitVec 8))
  /-- PORT_LATCH_CLEAR (R388): Writes LATCH_CLR for a pod or an outlet. -/
  | portLatchClear (r : RingIx) (tag : BitVec 16) (arg : List (BitVec 8))
  /-- PORT_RETRY_CLEAR (R388): Writes RETRY_CLR for a pod or an outlet. -/
  | portRetryClear (r : RingIx) (tag : BitVec 16) (arg : List (BitVec 8))
  /-- PORT_REBASE (R388): Writes REBASE for a pod. -/
  | portRebase (r : RingIx) (tag : BitVec 16) (arg : List (BitVec 8))
  /-- PORT_OUTLET_SET (R388): Sets an outlet's enable, status mode, V_SET and I_SET with a single-group commit. -/
  | portOutletSet (r : RingIx) (tag : BitVec 16) (arg : List (BitVec 8))
  /-- PORT_UPSTREAM_SWITCH (R388): Writes SWITCH, waits for it to clear and returns UPSEL_STAT. -/
  | portUpstreamSwitch (r : RingIx) (tag : BitVec 16) (arg : List (BitVec 8))
  /-- PD_ACTION (R388): Issues one POD_p_PDE_CMD command and returns PE_STATE. -/
  | pdAction (r : RingIx) (tag : BitVec 16) (arg : List (BitVec 8))
  /-- PD_CAPTURE_CTRL (R388): Writes a pod's capture control. -/
  | pdCaptureCtrl (r : RingIx) (tag : BitVec 16) (arg : List (BitVec 8))
  /-- PD_CAPTURE_READ (R388): Pops up to n words from a pod's capture FIFO. -/
  | pdCaptureRead (r : RingIx) (tag : BitVec 16) (arg : List (BitVec 8))
  /-- BUDGET_STATUS (R388): Returns the budget status, grant and per-consumer charges. -/
  | budgetStatus (r : RingIx) (tag : BitVec 16) (arg : List (BitVec 8))
  /-- BUDGET_SET (R388): Sets LOCAL_CAP, BO_BUDGET or FLOOR_BUDGET with a single-group commit. -/
  | budgetSet (r : RingIx) (tag : BitVec 16) (arg : List (BitVec 8))
  /-- BUDGET_SET_CLASS (R388): Sets a consumer's priority class with a single-group commit. -/
  | budgetSetClass (r : RingIx) (tag : BitVec 16) (arg : List (BitVec 8))
  /-- SCHED_QUEUE_STAT (R389): Returns a queue's status, deficit, tokens and pacing state. -/
  | schedQueueStat (r : RingIx) (tag : BitVec 16) (arg : List (BitVec 8))
  /-- SCHED_SHAPE (R389): Sets a queue's shaper with a single-group commit. -/
  | schedShape (r : RingIx) (tag : BitVec 16) (arg : List (BitVec 8))
  /-- SCHED_POLICE (R389): Sets a policer with a single-group commit. -/
  | schedPolice (r : RingIx) (tag : BitVec 16) (arg : List (BitVec 8))
  /-- SCHED_POLICER_STAT (R389): Returns a policer's tokens and status. -/
  | schedPolicerStat (r : RingIx) (tag : BitVec 16) (arg : List (BitVec 8))
  /-- SCHED_MAP_WRITE (R389): Writes Endpoint Map entries to a bank, subject to guarding. -/
  | schedMapWrite (r : RingIx) (tag : BitVec 16) (arg : List (BitVec 8))
  /-- SCHED_MAP_READ (R389): Returns n Endpoint Map entries from a bank. -/
  | schedMapRead (r : RingIx) (tag : BitVec 16) (arg : List (BitVec 8))
  /-- SCHED_MAP_FLIP (R389): Flips the map banks with a single-group commit and returns MAP_STAT. -/
  | schedMapFlip (r : RingIx) (tag : BitVec 16) (arg : List (BitVec 8))
  /-- GATE_LOAD (R389): Writes admin gate-list entries, refused while a switch is pending. -/
  | gateLoad (r : RingIx) (tag : BitVec 16) (arg : List (BitVec 8))
  /-- GATE_APPLY (R389): Applies the admin gate list with a single-group commit and returns S and ADJ_K. -/
  | gateApply (r : RingIx) (tag : BitVec 16) (arg : List (BitVec 8))
  /-- GATE_CANCEL (R389): Cancels a pending gate switch. -/
  | gateCancel (r : RingIx) (tag : BitVec 16) (arg : List (BitVec 8))
  /-- GATE_STATUS (R389): Returns the gate list state and the timebase. -/
  | gateStatus (r : RingIx) (tag : BitVec 16) (arg : List (BitVec 8))
  /-- SEC_ATTEST (R300): Produces a signed attestation report over a nonce, in two parts. -/
  | secAttest (r : RingIx) (tag : BitVec 16) (arg : List (BitVec 8))
  /-- SEC_POLICY_LOAD (R390): Stages part of a policy image in MP SRAM. -/
  | secPolicyLoad (r : RingIx) (tag : BitVec 16) (arg : List (BitVec 8))
  /-- SEC_POLICY_APPLY (R378): Verifies a staged policy image and runs its commands on ring 5 as master ID 0. -/
  | secPolicyApply (r : RingIx) (tag : BitVec 16) (arg : List (BitVec 8))
  /-- SEC_FWL_RELEASE (R390): Writes RELEASE for a pod. -/
  | secFwlRelease (r : RingIx) (tag : BitVec 16) (arg : List (BitVec 8))
  /-- SEC_REAUTH (R390): Writes REAUTH for a pod. -/
  | secReauth (r : RingIx) (tag : BitVec 16) (arg : List (BitVec 8))
  /-- SEC_ROOT_SET (R390): Stores a root digest and its valid bit. -/
  | secRootSet (r : RingIx) (tag : BitVec 16) (arg : List (BitVec 8))
  /-- SEC_KEY_GENERATE (R390): Generates a key in a slot and stores its sealed blob. -/
  | secKeyGenerate (r : RingIx) (tag : BitVec 16) (arg : List (BitVec 8))
  /-- SEC_KEY_IMPORT (R390): Imports a public key into a slot. -/
  | secKeyImport (r : RingIx) (tag : BitVec 16) (arg : List (BitVec 8))
  /-- SEC_KEY_ERASE (R390): Erases a key slot other than slot 0. -/
  | secKeyErase (r : RingIx) (tag : BitVec 16) (arg : List (BitVec 8))
  /-- SEC_CERT_STORE (R390): Stores part of an OEM certificate chain. -/
  | secCertStore (r : RingIx) (tag : BitVec 16) (arg : List (BitVec 8))
  /-- SEC_VER_RAISE (R390): Raises SEC_VER_MIN, up to the running security version. -/
  | secVerRaise (r : RingIx) (tag : BitVec 16) (arg : List (BitVec 8))
  /-- SEC_DEBUG_OPEN (R390): Opens debug with a verified token, running the erase sequence as a job. -/
  | secDebugOpen (r : RingIx) (tag : BitVec 16) (arg : List (BitVec 8))
  /-- SEC_UTC_SET (R390): Writes UTC_BASE from the present UTC time and the timebase, and sets UTC_VALID. -/
  | secUtcSet (r : RingIx) (tag : BitVec 16) (arg : List (BitVec 8))
  /-- DOM_REQUEST (R390): Requests a domain transition and completes at its end. -/
  | domRequest (r : RingIx) (tag : BitVec 16) (arg : List (BitVec 8))
  /-- DOM_PLAN_GO (R390): Runs the held domain plan as a job. -/
  | domPlanGo (r : RingIx) (tag : BitVec 16) (arg : List (BitVec 8))
  /-- DOM_STATUS (R390): Returns DOM_STAT and every domain's state. -/
  | domStatus (r : RingIx) (tag : BitVec 16) (arg : List (BitVec 8))
  /-- JOURNAL_INFO (R390): Returns JNL_STAT and DEFER_STAT. -/
  | journalInfo (r : RingIx) (tag : BitVec 16) (arg : List (BitVec 8))
  /-- JOURNAL_READ (R390): Returns n Seedbank records from an index. -/
  | journalRead (r : RingIx) (tag : BitVec 16) (arg : List (BitVec 8)) (reads : List EccRead)
  /-- JOURNAL_SET_MIN_SEV (R390): Sets JNL_MIN_SEV with a single-group commit. -/
  | journalSetMinSev (r : RingIx) (tag : BitVec 16) (arg : List (BitVec 8))
  /-- FW_STATUS (R390): Returns FW_STAT and the versions of both banks. -/
  | fwStatus (r : RingIx) (tag : BitVec 16) (arg : List (BitVec 8))
  /-- FW_BEGIN (R390): Marks the idle bank WRITING for a new image. -/
  | fwBegin (r : RingIx) (tag : BitVec 16) (arg : List (BitVec 8))
  /-- FW_WRITE (R390): Takes 128 bytes of the image and stores a page when both halves are held. -/
  | fwWrite (r : RingIx) (tag : BitVec 16) (arg : List (BitVec 8))
  /-- FW_VERIFY (R321): Verifies the idle bank as a job and marks it VERIFIED or BAD. -/
  | fwVerify (r : RingIx) (tag : BitVec 16) (arg : List (BitVec 8))
  /-- FW_ACTIVATE (R321): Stores the active-bank name and restarts the MP into the verified bank. -/
  | fwActivate (r : RingIx) (tag : BitVec 16) (arg : List (BitVec 8))
  /-- FW_RESTART (R390): Stores OK and then restarts the MP. -/
  | fwRestart (r : RingIx) (tag : BitVec 16) (arg : List (BitVec 8))
  /-- CASCADE_STATUS (R390): Returns the cascade, system, firmware and grant status. -/
  | cascadeStatus (r : RingIx) (tag : BitVec 16) (arg : List (BitVec 8))
  /-- CASCADE_WORKER_STAT (R390): Returns per-worker status, grant, demand and limits. -/
  | cascadeWorkerStat (r : RingIx) (tag : BitVec 16) (arg : List (BitVec 8))
  /-- CASCADE_FORWARD (R391): Forwards an inner command to a worker and completes with its response. -/
  | cascadeForward (r : RingIx) (tag : BitVec 16) (arg : List (BitVec 8))
  /-- CASCADE_SET_LIMITS (R390): Sets a worker's W_MIN and W_MAX with a single-group commit. -/
  | cascadeSetLimits (r : RingIx) (tag : BitVec 16) (arg : List (BitVec 8))
  /-- CASCADE_FW_DISTRIBUTE (R269): Starts distributing a firmware bank to the named workers. -/
  | cascadeFwDistribute (r : RingIx) (tag : BitVec 16) (arg : List (BitVec 8))
  /-- CASCADE_FORGET (R390): Removes a lost worker from the manager's accounting. -/
  | cascadeForget (r : RingIx) (tag : BitVec 16) (arg : List (BitVec 8))
  /-- COMMIT (R403): A write of COMMIT copies the shadows of the named pending groups into the active copies at one CLK_PE edge. -/
  | commit (m : Master) (mask : BitVec 16)
  /-- SNAPSHOT (R419): A write of SNAPSHOT TAKE copies every counter and the timebase into the holding region at one edge. -/
  | snapshot (m : Master)
  /-- RC_READ (R406): An active-view read clears the RC bits in the lanes it covers. -/
  | rcRead (m : Master) (addr : Nat) (q : ReadReq)
  /-- MEAS_READ (R407): An active-view read of a measurement register clears its VALID bit. -/
  | measRead (m : Master) (addr : Nat) (size : Fin 4)
  /-- TIME_TB_LO_READ (R407): A read of TIME_TB_LO latches the upper timebase word into TIME_TB_HI. -/
  | timeTbLoRead (m : Master)
  /-- REGISTER_WRITE (R416): A write to a register without a row of its own, through any view or alias, is checked for alignment, guarding, domain and lock and then applied. -/
  | registerWrite (m : Master) (addr : Nat) (size : Fin 4) (v : BitVec 64)
  /-- CC_TERMINATION_LOST (R36): The partner's Rd or Rp disappears from the CC pin, which starts tPDDebounce in AttachWait, Attached or BOUNCE_HOLD. -/
  | ccTerminationLost (p : PodIx) (cc1 cc2 : Term)
  /-- CURRENT_ABOVE_I_LIM (R122): The sensed current rises above I_LIM (or falls back) in RAMP or ON, which sets or clears OC_TIMING and starts or stops T_OC. -/
  | currentAboveILim (x : PathIx) (above : Bool)
  /-- VBUS_OUTSIDE_WINDOW (R122): VBUS leaves or re-enters the window, or falls below 95 % of V_TGT, in VB.ON, which starts T_UV or sets UV_HELD and deasserts PG within 2 µs. -/
  | vbusOutsideWindow (x : PathIx) (below below95 : Bool)
  /-- TOKEN_ACCRUAL (R217): Every 10 ns each shaper and policer with non-zero RATE accrues tokens up to its burst, which can make a queue eligible or a pacing head releasable. -/
  | tokenAccrual
  /-- REGISTER_READ (R416): A master's read without a row of its own is checked for reservation, alignment, guarding, domain state and parity, with ACC_FAULT, SEC_DENY_CNT, ACC_OFF or a held parity decision as effects. -/
  | registerRead (m : Master) (addr : Nat) (q : ReadReq)
  /-- PLL_UNLOCK (R357): The main PLL loses lock while BUS is ON, and PLL_UNLOCK is set. -/
  | pllUnlock
  /-- VDD_HUSK_LOSS (R464): VDD_HUSK falls below the power-on reset threshold in service, and the device resets as under R463. -/
  | vddHuskLoss
  /-- OVERTEMPERATURE_RELEASE (R464): The die cools below 135 °C after an overtemperature reset, and the reset is released. -/
  | overtemperatureRelease
  /-- DEVICE_CONNECT (R37): The link logic detects a device on a pod (receiver terminations or a D+/D− pull-up) and the port reports a connection, or holds it at 0 on a secure port. -/
  | deviceConnect (p : PodIx) (superSpeed : Bool)
  deriving DecidableEq, Repr

end Sys2Proof
end

