-- ==== Sys2Proof/Decode.lean ====
section
/-! DEFINITION. The command a table word spells. The block has no instruction decoder: its commands are events and accesses,
and no row of the table gives bits. -/

namespace Sys2Proof

/-- The command a word spells by the table's bits: the table gives bits to no row, so no word spells one. -/
def decodeTableWord (_nbits _w : Nat) : Option Instr := none

end Sys2Proof
end

