-- ==== Sys2Proof/Machine/RegMap.lean ====
section
/-! DEFINITION. The register map (chapter 16): for every register offset of the active view, which of its bits are buffered
(RWB), plain (RW), self-clearing commands, guarded (G) and read-to-clear (RC), and its value after reset. The masks come from
the field tables of the owning chapters, the offsets and reset words from R422, R425-R430. -/

namespace Sys2Proof.Machine

/-- The access masks and the reset word of one 32-bit register (R424): buffered bits, plain writable bits, self-clearing
command bits, guarded bits, read-to-clear bits. Bits in none of them are RO or reserved. -/
structure RegInfo where
  rwb   : Word
  rw    : Word
  sc    : Word
  g     : Word
  rc    : Word
  reset : Word
  deriving DecidableEq, Repr

/-- POD_p registers of a D pod, by offset from the block base (R428): masks from the field tables of R59-R66, R101-R110, R141-R148, R198-R201, R303. -/
def podRegsD : List (Nat × RegInfo) :=
 [(0x0, ⟨0xFFFFF11, 0x0, 0x60, 0x0, 0x0, 0x6A40A13⟩),
  (0x4, ⟨0xFFFFFFFF, 0x0, 0x0, 0x0, 0x0, 0x32454555⟩),
  (0x8, ⟨0x0, 0x0, 0x0, 0x0, 0x0, 0x0⟩),
  (0xC, ⟨0x0, 0x0, 0x0, 0x0, 0x7FF, 0x0⟩),
  (0x10, ⟨0x2FFFFFF1, 0x0, 0x10000000, 0x0, 0x0, 0x214428F1⟩),
  (0x14, ⟨0x0, 0x0, 0x0, 0x0, 0x40000, 0x0⟩),
  (0x18, ⟨0x0, 0x0, 0x0, 0x0, 0x40000, 0x0⟩),
  (0x1C, ⟨0x0, 0x0, 0x0, 0x0, 0x40000, 0x0⟩),
  (0x20, ⟨0x0, 0x0, 0x0, 0x0, 0x40000, 0x0⟩),
  (0x24, ⟨0x0, 0x0, 0x0, 0x0, 0x0, 0x0⟩),
  (0x28, ⟨0x0, 0x0, 0x0, 0x0, 0x0, 0x0⟩),
  (0x2C, ⟨0x0, 0x0, 0x0, 0x0, 0x0, 0x0⟩),
  (0x30, ⟨0x0, 0x0, 0x0, 0x0, 0x0, 0x0⟩),
  (0x34, ⟨0xFF, 0x0, 0x0, 0x0, 0x0, 0x14⟩),
  (0x38, ⟨0x0, 0x0, 0x0, 0x0, 0x0, 0x0⟩),
  (0x200, ⟨0xFFF07FF, 0x0, 0x0, 0x0, 0x0, 0xA3079F⟩),
  (0x204, ⟨0xFF0F, 0x0, 0x0, 0x0, 0x0, 0x8C0F⟩),
  (0x208, ⟨0x0, 0x0, 0x0, 0x0, 0x0, 0x0⟩),
  (0x20C, ⟨0xFFFFF, 0x0, 0x0, 0x0, 0x0, 0x3AA9A⟩),
  (0x210, ⟨0x3FFFF, 0x0, 0x0, 0x0, 0x0, 0xA633⟩),
  (0x214, ⟨0x0, 0x0, 0x0, 0x0, 0x0, 0x0⟩),
  (0x218, ⟨0x0, 0x0, 0x0, 0x0, 0x0, 0x0⟩),
  (0x21C, ⟨0x0, 0x0, 0x0, 0x0, 0x0, 0x0⟩),
  (0x220, ⟨0x0, 0x0, 0x0, 0x0, 0x0, 0x0⟩),
  (0x224, ⟨0x0, 0x0, 0x0, 0x0, 0x0, 0x0⟩),
  (0x228, ⟨0x0, 0x0, 0x0, 0x0, 0xFFFFF, 0x0⟩),
  (0x22C, ⟨0x0, 0x0, 0x3F, 0x0, 0x0, 0x0⟩),
  (0x240, ⟨0x0, 0x0, 0x0, 0x0, 0x0, 0x0⟩),
  (0x244, ⟨0x0, 0x0, 0x0, 0x0, 0x0, 0x0⟩),
  (0x248, ⟨0x0, 0x0, 0x0, 0x0, 0x0, 0x0⟩),
  (0x24C, ⟨0x0, 0x0, 0x0, 0x0, 0x0, 0x0⟩),
  (0x250, ⟨0x0, 0x0, 0x0, 0x0, 0x0, 0x0⟩),
  (0x254, ⟨0x0, 0x0, 0x0, 0x0, 0x0, 0x0⟩),
  (0x258, ⟨0x0, 0x0, 0x0, 0x0, 0x0, 0x0⟩),
  (0x25C, ⟨0x0, 0x0, 0x0, 0x0, 0x0, 0x0⟩),
  (0x400, ⟨0x3FF1FF7, 0x0, 0x0, 0x0, 0x0, 0x1551043⟩),
  (0x404, ⟨0xFFFF3FFF, 0x0, 0x0, 0x0, 0x0, 0x3232050A⟩),
  (0x408, ⟨0xFFFFFFFF, 0x0, 0x0, 0x0, 0x0, 0x514321E⟩),
  (0x40C, ⟨0xFF0F, 0x0, 0x0, 0x0, 0x0, 0x1404⟩),
  (0x410, ⟨0xFFFFFFFF, 0x0, 0x0, 0x0, 0x0, 0x2990028⟩),
  (0x414, ⟨0xFFFF, 0xFF0000, 0x0, 0x0, 0x0, 0x196496⟩)] ++
 [(0x418, ⟨0x3FF, 0x0, 0x0, 0x0, 0x0, 0x32⟩),
  (0x41C, ⟨0x0, 0x0, 0x3, 0x0, 0x0, 0x0⟩),
  (0x420, ⟨0x0, 0x0, 0x0, 0x0, 0x0, 0x0⟩),
  (0x424, ⟨0x0, 0x0, 0x0, 0x0, 0x80000000, 0x0⟩),
  (0x428, ⟨0x0, 0x0, 0x0, 0x0, 0x80000000, 0x0⟩),
  (0x42C, ⟨0x0, 0x0, 0x0, 0x0, 0x0, 0x0⟩),
  (0x430, ⟨0x0, 0x0, 0x0, 0x0, 0x0, 0x0⟩),
  (0x434, ⟨0x0, 0x0, 0x0, 0x0, 0xFF, 0x0⟩),
  (0x600, ⟨0xFFFFF7FF, 0x0, 0x0, 0x0, 0x0, 0x20800400⟩),
  (0x604, ⟨0x0, 0x0, 0x0, 0x0, 0x0, 0x0⟩),
  (0x608, ⟨0x0, 0x0, 0x0, 0x0, 0x0, 0x0⟩),
  (0x60C, ⟨0x0, 0x0, 0x0, 0x0, 0x0, 0x0⟩),
  (0x610, ⟨0x0, 0x0, 0x0, 0x0, 0x0, 0x0⟩),
  (0x614, ⟨0x0, 0x0, 0x0, 0x0, 0x1FF, 0x0⟩),
  (0x800, ⟨0x0, 0xF, 0x10, 0x0, 0x0, 0x6⟩),
  (0x804, ⟨0x0, 0x0, 0x0, 0x0, 0x0, 0x0⟩),
  (0x808, ⟨0x0, 0x0, 0x0, 0x0, 0x0, 0x0⟩),
  (0x80C, ⟨0x0, 0x0, 0x0, 0x0, 0x3, 0x0⟩),
  (0xC00, ⟨0x1FFFFF, 0x0, 0x0, 0x1FFFFF, 0x0, 0x190FFA⟩),
  (0xC04, ⟨0x0, 0x0, 0x0, 0x0, 0x0, 0x0⟩),
  (0xC08, ⟨0x0, 0x0, 0x0, 0x0, 0xF, 0x0⟩),
  (0xC0C, ⟨0x0, 0x0, 0x3, 0x3, 0x0, 0x0⟩),
  (0xC20, ⟨0xFFFFFFFF, 0x0, 0x0, 0xFFFFFFFF, 0x0, 0x0⟩),
  (0xC24, ⟨0xFFFFFFFF, 0x0, 0x0, 0xFFFFFFFF, 0x0, 0x0⟩),
  (0xC28, ⟨0xFFFFFFFF, 0x0, 0x0, 0xFFFFFFFF, 0x0, 0x0⟩),
  (0xC2C, ⟨0xFFFFFFFF, 0x0, 0x0, 0xFFFFFFFF, 0x0, 0x0⟩),
  (0xC30, ⟨0xFFFFFFFF, 0x0, 0x0, 0xFFFFFFFF, 0x0, 0x0⟩),
  (0xC34, ⟨0xFFFFFFFF, 0x0, 0x0, 0xFFFFFFFF, 0x0, 0x0⟩),
  (0xC38, ⟨0xFFFFFFFF, 0x0, 0x0, 0xFFFFFFFF, 0x0, 0x0⟩),
  (0xC3C, ⟨0xFFFFFFFF, 0x0, 0x0, 0xFFFFFFFF, 0x0, 0x0⟩)]

/-- POD_p registers of UA and UB (R428): the registers of functions these pods lack read zero and ignore writes. -/
def podRegsU : List (Nat × RegInfo) :=
 [(0x0, ⟨0xFFFFF1F, 0x0, 0x60, 0x0, 0x0, 0x6A40A19⟩),
  (0x4, ⟨0xFFFFFFFF, 0x0, 0x0, 0x0, 0x0, 0x32454555⟩),
  (0x8, ⟨0x0, 0x0, 0x0, 0x0, 0x0, 0x0⟩),
  (0xC, ⟨0x0, 0x0, 0x0, 0x0, 0x7FF, 0x0⟩),
  (0x10, ⟨0x2FFFFFF1, 0x0, 0x10000000, 0x0, 0x0, 0x214428F1⟩),
  (0x14, ⟨0x0, 0x0, 0x0, 0x0, 0x40000, 0x0⟩),
  (0x18, ⟨0x0, 0x0, 0x0, 0x0, 0x40000, 0x0⟩),
  (0x1C, ⟨0x0, 0x0, 0x0, 0x0, 0x40000, 0x0⟩),
  (0x20, ⟨0x0, 0x0, 0x0, 0x0, 0x40000, 0x0⟩),
  (0x24, ⟨0x0, 0x0, 0x0, 0x0, 0x0, 0x0⟩),
  (0x28, ⟨0x0, 0x0, 0x0, 0x0, 0x0, 0x0⟩),
  (0x2C, ⟨0x0, 0x0, 0x0, 0x0, 0x0, 0x0⟩),
  (0x30, ⟨0x0, 0x0, 0x0, 0x0, 0x0, 0x0⟩),
  (0x34, ⟨0x0, 0x0, 0x0, 0x0, 0x0, 0x0⟩),
  (0x38, ⟨0x0, 0x0, 0x0, 0x0, 0x0, 0x0⟩),
  (0x200, ⟨0xFFF07F7, 0x0, 0x0, 0x0, 0x0, 0xA30797⟩),
  (0x204, ⟨0xFF07, 0x0, 0x0, 0x0, 0x0, 0x6407⟩),
  (0x208, ⟨0xFFFFFFF, 0x0, 0x0, 0x0, 0x0, 0xA1F9285⟩),
  (0x20C, ⟨0xFFFFF, 0x0, 0x0, 0x0, 0x0, 0x3AA9A⟩),
  (0x210, ⟨0x3FFFF, 0x0, 0x0, 0x0, 0x0, 0xA633⟩),
  (0x214, ⟨0x0, 0x0, 0x0, 0x0, 0x0, 0x0⟩),
  (0x218, ⟨0x0, 0x0, 0x0, 0x0, 0x0, 0x0⟩),
  (0x21C, ⟨0x0, 0x0, 0x0, 0x0, 0x0, 0x0⟩),
  (0x220, ⟨0x0, 0x0, 0x0, 0x0, 0x0, 0x0⟩),
  (0x224, ⟨0x0, 0x0, 0x0, 0x0, 0x0, 0x0⟩),
  (0x228, ⟨0x0, 0x0, 0x0, 0x0, 0xFFFFF, 0x0⟩),
  (0x22C, ⟨0x0, 0x0, 0x3F, 0x0, 0x0, 0x0⟩),
  (0x240, ⟨0x0, 0x0, 0x0, 0x0, 0x0, 0x0⟩),
  (0x244, ⟨0x0, 0x0, 0x0, 0x0, 0x0, 0x0⟩),
  (0x248, ⟨0x0, 0x0, 0x0, 0x0, 0x0, 0x0⟩),
  (0x24C, ⟨0x0, 0x0, 0x0, 0x0, 0x0, 0x0⟩),
  (0x250, ⟨0x0, 0x0, 0x0, 0x0, 0x0, 0x0⟩),
  (0x254, ⟨0x0, 0x0, 0x0, 0x0, 0x0, 0x0⟩),
  (0x258, ⟨0x0, 0x0, 0x0, 0x0, 0x0, 0x0⟩),
  (0x25C, ⟨0x0, 0x0, 0x0, 0x0, 0x0, 0x0⟩),
  (0x400, ⟨0x3FF1FF7, 0x0, 0x0, 0x0, 0x0, 0x1551043⟩),
  (0x404, ⟨0xFFFF3FFF, 0x0, 0x0, 0x0, 0x0, 0x3232050A⟩),
  (0x408, ⟨0xFFFFFFFF, 0x0, 0x0, 0x0, 0x0, 0x514321E⟩),
  (0x40C, ⟨0xFF0F, 0x0, 0x0, 0x0, 0x0, 0x1404⟩),
  (0x410, ⟨0xFFFFFFFF, 0x0, 0x0, 0x0, 0x0, 0x2990028⟩),
  (0x414, ⟨0xFFFF, 0xFF0000, 0x0, 0x0, 0x0, 0x196496⟩)] ++
 [(0x418, ⟨0x3FF, 0x0, 0x0, 0x0, 0x0, 0x32⟩),
  (0x41C, ⟨0x0, 0x0, 0x3, 0x0, 0x0, 0x0⟩),
  (0x420, ⟨0x0, 0x0, 0x0, 0x0, 0x0, 0x0⟩),
  (0x424, ⟨0x0, 0x0, 0x0, 0x0, 0x80000000, 0x0⟩),
  (0x428, ⟨0x0, 0x0, 0x0, 0x0, 0x80000000, 0x0⟩),
  (0x42C, ⟨0x0, 0x0, 0x0, 0x0, 0x0, 0x0⟩),
  (0x430, ⟨0x0, 0x0, 0x0, 0x0, 0x0, 0x0⟩),
  (0x434, ⟨0x0, 0x0, 0x0, 0x0, 0xFF, 0x0⟩),
  (0x600, ⟨0x0, 0x0, 0x0, 0x0, 0x0, 0x0⟩),
  (0x604, ⟨0x0, 0x0, 0x0, 0x0, 0x0, 0x0⟩),
  (0x608, ⟨0x0, 0x0, 0x0, 0x0, 0x0, 0x0⟩),
  (0x60C, ⟨0x0, 0x0, 0x0, 0x0, 0x0, 0x0⟩),
  (0x610, ⟨0x0, 0x0, 0x0, 0x0, 0x0, 0x0⟩),
  (0x614, ⟨0x0, 0x0, 0x0, 0x0, 0x1FF, 0x0⟩),
  (0x800, ⟨0x0, 0xF, 0x10, 0x0, 0x0, 0x6⟩),
  (0x804, ⟨0x0, 0x0, 0x0, 0x0, 0x0, 0x0⟩),
  (0x808, ⟨0x0, 0x0, 0x0, 0x0, 0x0, 0x0⟩),
  (0x80C, ⟨0x0, 0x0, 0x0, 0x0, 0x3, 0x0⟩),
  (0xC00, ⟨0x0, 0x0, 0x0, 0x0, 0x0, 0x0⟩),
  (0xC04, ⟨0x0, 0x0, 0x0, 0x0, 0x0, 0x0⟩),
  (0xC08, ⟨0x0, 0x0, 0x0, 0x0, 0x0, 0x0⟩),
  (0xC0C, ⟨0x0, 0x0, 0x0, 0x0, 0x0, 0x0⟩),
  (0xC20, ⟨0x0, 0x0, 0x0, 0x0, 0x0, 0x0⟩),
  (0xC24, ⟨0x0, 0x0, 0x0, 0x0, 0x0, 0x0⟩),
  (0xC28, ⟨0x0, 0x0, 0x0, 0x0, 0x0, 0x0⟩),
  (0xC2C, ⟨0x0, 0x0, 0x0, 0x0, 0x0, 0x0⟩),
  (0xC30, ⟨0x0, 0x0, 0x0, 0x0, 0x0, 0x0⟩),
  (0xC34, ⟨0x0, 0x0, 0x0, 0x0, 0x0, 0x0⟩),
  (0xC38, ⟨0x0, 0x0, 0x0, 0x0, 0x0, 0x0⟩),
  (0xC3C, ⟨0x0, 0x0, 0x0, 0x0, 0x0, 0x0⟩)]

/-- UPSEL registers, at offsets of POD_0 (R27-R30). -/
def upselRegs : List (Nat × RegInfo) :=
 [(0x7C0, ⟨0xFFF3, 0x0, 0x0, 0x0, 0x0, 0x322⟩),
  (0x7C4, ⟨0x0, 0x0, 0x1, 0x0, 0x0, 0x0⟩),
  (0x7C8, ⟨0x0, 0x0, 0x0, 0x0, 0x0, 0x0⟩),
  (0x7CC, ⟨0x0, 0x0, 0x0, 0x0, 0x1F, 0x0⟩)]

/-- OUT_o registers (R429). -/
def outRegs : List (Nat × RegInfo) :=
 [(0x0, ⟨0x3FF1FF7, 0x0, 0x0, 0x0, 0x0, 0x1551043⟩),
  (0x4, ⟨0xFFFF3FFF, 0x0, 0x0, 0x0, 0x0, 0x3232050A⟩),
  (0x8, ⟨0xFFFFFFFF, 0x0, 0x0, 0x0, 0x0, 0x514321E⟩),
  (0xC, ⟨0xFF0F, 0x0, 0x0, 0x0, 0x0, 0x1404⟩),
  (0x10, ⟨0xFFFFFFFF, 0x0, 0x0, 0x0, 0x0, 0x2990028⟩),
  (0x14, ⟨0xFFFF, 0xFF0000, 0x0, 0x0, 0x0, 0x196496⟩),
  (0x18, ⟨0x3FF, 0x0, 0x0, 0x0, 0x0, 0x32⟩),
  (0x1C, ⟨0x0, 0x0, 0x3, 0x0, 0x0, 0x0⟩),
  (0x20, ⟨0x0, 0x0, 0x0, 0x0, 0x0, 0x0⟩),
  (0x24, ⟨0x0, 0x0, 0x0, 0x0, 0x80000000, 0x0⟩),
  (0x28, ⟨0x0, 0x0, 0x0, 0x0, 0x80000000, 0x0⟩),
  (0x2C, ⟨0x0, 0x0, 0x0, 0x0, 0x0, 0x0⟩),
  (0x30, ⟨0x0, 0x0, 0x0, 0x0, 0x0, 0x0⟩),
  (0x34, ⟨0x0, 0x0, 0x0, 0x0, 0xFF, 0x0⟩),
  (0x40, ⟨0xFF1F, 0x0, 0x0, 0x0, 0x0, 0x3202⟩),
  (0x44, ⟨0xFFFFFF, 0x0, 0x0, 0x0, 0x0, 0x641F4⟩),
  (0x48, ⟨0x0, 0x0, 0x0, 0x0, 0x0, 0x0⟩)]

/-- GLOBAL registers but for GROUP_SEL (R425, R426). -/
def globalRegs : List (Nat × RegInfo) :=
 [(0x0, ⟨0x0, 0x0, 0x0, 0x0, 0x0, 0x4F1E1402⟩),
  (0x4, ⟨0x0, 0x0, 0x0, 0x0, 0x0, 0xB0⟩),
  (0x8, ⟨0x0, 0x0, 0x0, 0x0, 0x0, 0x14022F7A⟩),
  (0xC, ⟨0x0, 0x0, 0x0, 0x0, 0x0, 0x14120200⟩),
  (0x40, ⟨0x0, 0x0, 0xFFFF, 0x0, 0x0, 0x0⟩),
  (0x44, ⟨0x0, 0x0, 0x0, 0x0, 0x0, 0x0⟩),
  (0x48, ⟨0x0, 0x0, 0x1, 0x0, 0x0, 0x0⟩),
  (0x4C, ⟨0x0, 0x0, 0x0, 0x0, 0x0, 0x0⟩),
  (0x50, ⟨0x0, 0x0, 0x0, 0x0, 0x0, 0x0⟩),
  (0x54, ⟨0x0, 0x0, 0x0, 0x0, 0x0, 0x0⟩),
  (0x60, ⟨0x0, 0x0, 0x0, 0x0, 0x3, 0x0⟩),
  (0x64, ⟨0x0, 0x0, 0x0, 0x0, 0x0, 0x0⟩),
  (0x68, ⟨0x0, 0x0, 0x0, 0x0, 0x0, 0x0⟩),
  (0x6C, ⟨0x0, 0x0, 0x0, 0x0, 0x3, 0x0⟩)]

/-- HUSK registers (R356, R430). -/
def huskRegs : List (Nat × RegInfo) :=
 [(0x0, ⟨0xFFFFFF, 0x0, 0x0, 0x0, 0x0, 0xFFFFFF⟩),
  (0x4, ⟨0x1FFF, 0x0, 0x0, 0x0, 0x0, 0x14AC⟩),
  (0x8, ⟨0xFFFF, 0x0, 0x0, 0x0, 0x0, 0x0⟩),
  (0xC, ⟨0xFFFFFF, 0x0, 0x0, 0x0, 0x0, 0x100000⟩),
  (0x10, ⟨0x0, 0x0, 0x0, 0x0, 0x0, 0x0⟩),
  (0x14, ⟨0x0, 0x0, 0x0, 0x0, 0x0, 0x0⟩),
  (0x18, ⟨0x0, 0x0, 0x0, 0x0, 0x0, 0x0⟩),
  (0x1C, ⟨0x0, 0x0, 0x0, 0x0, 0x0, 0x0⟩),
  (0x20, ⟨0x0, 0x0, 0x1, 0x0, 0x0, 0x0⟩),
  (0x24, ⟨0x0, 0x0, 0x0, 0x0, 0xF, 0x0⟩)]

/-- DOM registers but for the rails and the per-domain rows (R355, R430). -/
def domRegs : List (Nat × RegInfo) :=
 [(0x0, ⟨0x0, 0x0, 0x1, 0x0, 0x0, 0x0⟩),
  (0x4, ⟨0x0, 0x0, 0x0, 0x0, 0x0, 0x0⟩),
  (0x8, ⟨0x0, 0x0, 0x0, 0x0, 0x7F, 0x0⟩),
  (0x40, ⟨0x0, 0x0, 0x0, 0x0, 0x0, 0x0⟩)]

/-- CLK registers (R357, R430). -/
def clkRegs : List (Nat × RegInfo) :=
 [(0x0, ⟨0x3, 0x0, 0x0, 0x0, 0x0, 0x2⟩),
  (0x4, ⟨0x0, 0x1, 0x0, 0x0, 0x0, 0x0⟩),
  (0x8, ⟨0x0, 0x0, 0x0, 0x0, 0x0, 0x0⟩),
  (0xC, ⟨0x0, 0x0, 0x0, 0x0, 0xF, 0x0⟩),
  (0x10, ⟨0x0, 0x0, 0x0, 0x0, 0x80000000, 0x0⟩),
  (0x14, ⟨0x0, 0x0, 0x0, 0x0, 0x80000000, 0x0⟩)]

/-- RLINK registers but for the slots (R169, R430). -/
def rlRegs : List (Nat × RegInfo) :=
 [(0x0, ⟨0x307, 0x0, 0x0, 0x0, 0x0, 0x205⟩),
  (0x4, ⟨0x0, 0x0, 0x0, 0x0, 0x0, 0x0⟩),
  (0x8, ⟨0x0, 0x0, 0x0, 0x0, 0x3F, 0x0⟩)]

/-- HOLDUP registers (R329, R430). -/
def huRegs : List (Nat × RegInfo) :=
 [(0x0, ⟨0xFFFFFFFF, 0x0, 0x0, 0xFFFFFFFF, 0x0, 0x1000000⟩),
  (0x4, ⟨0xFFFF, 0x0, 0x0, 0xFFFF, 0x0, 0x0⟩),
  (0x8, ⟨0xFFFFFFFF, 0x0, 0x0, 0xFFFFFFFF, 0x0, 0x1F40064⟩),
  (0xC, ⟨0xFFFFFFFF, 0x0, 0x0, 0xFFFFFFFF, 0x0, 0x3E801F4⟩),
  (0x10, ⟨0x0, 0x0, 0x0, 0x0, 0x0, 0x0⟩),
  (0x14, ⟨0x0, 0x0, 0x0, 0x0, 0xF, 0x0⟩)]

/-- BUDGET registers (R168, R430). -/
def budRegs : List (Nat × RegInfo) :=
 [(0x0, ⟨0x3FF1FFF, 0x0, 0x0, 0x0, 0x0, 0x2800190⟩),
  (0x4, ⟨0x7F771FFF, 0x0, 0x0, 0x0, 0x0, 0x51700C8⟩),
  (0x8, ⟨0xFFFFFFFF, 0x0, 0x0, 0x0, 0x0, 0x14A709F4⟩),
  (0xC, ⟨0xFFFFFF, 0x0, 0x0, 0x0, 0x0, 0x140A28⟩),
  (0x10, ⟨0x1FFF0000, 0x0, 0x0, 0x0, 0x0, 0xC80000⟩),
  (0x14, ⟨0xFFFFFFFF, 0x0, 0x0, 0x0, 0x0, 0x0⟩),
  (0x18, ⟨0xFFFFFFFF, 0x0, 0x0, 0x0, 0x0, 0x0⟩),
  (0x1C, ⟨0x77777777, 0x0, 0x0, 0x0, 0x0, 0x44444444⟩),
  (0x20, ⟨0x77777777, 0x0, 0x0, 0x0, 0x0, 0x44444444⟩),
  (0x24, ⟨0x7777, 0x0, 0x0, 0x0, 0x0, 0x5555⟩),
  (0x30, ⟨0x0, 0x0, 0x0, 0x0, 0x0, 0x0⟩),
  (0x34, ⟨0x0, 0x0, 0x0, 0x0, 0x0, 0x0⟩),
  (0x38, ⟨0x0, 0x0, 0x0, 0x0, 0xFF, 0x0⟩),
  (0x80, ⟨0x0, 0x0, 0x0, 0x0, 0x0, 0x0⟩),
  (0x84, ⟨0x0, 0x0, 0x0, 0x0, 0x0, 0x0⟩),
  (0x88, ⟨0x0, 0x0, 0x0, 0x0, 0x0, 0x0⟩),
  (0x8C, ⟨0x0, 0x0, 0x0, 0x0, 0x0, 0x0⟩),
  (0x90, ⟨0x0, 0x0, 0x0, 0x0, 0x0, 0x0⟩),
  (0x94, ⟨0x0, 0x0, 0x0, 0x0, 0x0, 0x0⟩),
  (0x98, ⟨0x0, 0x0, 0x0, 0x0, 0x0, 0x0⟩),
  (0x9C, ⟨0x0, 0x0, 0x0, 0x0, 0x0, 0x0⟩),
  (0xA0, ⟨0x0, 0x0, 0x0, 0x0, 0x0, 0x0⟩),
  (0xA4, ⟨0x0, 0x0, 0x0, 0x0, 0x0, 0x0⟩),
  (0xA8, ⟨0x0, 0x0, 0x0, 0x0, 0x0, 0x0⟩),
  (0xAC, ⟨0x0, 0x0, 0x0, 0x0, 0x0, 0x0⟩),
  (0xB0, ⟨0x0, 0x0, 0x0, 0x0, 0x0, 0x0⟩),
  (0xB4, ⟨0x0, 0x0, 0x0, 0x0, 0x0, 0x0⟩),
  (0xB8, ⟨0x0, 0x0, 0x0, 0x0, 0x0, 0x0⟩),
  (0xBC, ⟨0x0, 0x0, 0x0, 0x0, 0x0, 0x0⟩),
  (0xC0, ⟨0x0, 0x0, 0x0, 0x0, 0x0, 0x0⟩),
  (0xC4, ⟨0x0, 0x0, 0x0, 0x0, 0x0, 0x0⟩),
  (0xC8, ⟨0x0, 0x0, 0x0, 0x0, 0x0, 0x0⟩),
  (0xCC, ⟨0x0, 0x0, 0x0, 0x0, 0x0, 0x0⟩)]

/-- PE registers but for MAP_PORT and the indexed rows (R202, R227, R430). -/
def peRegs : List (Nat × RegInfo) :=
 [(0x0, ⟨0x7FFF, 0x0, 0x0, 0x0, 0x0, 0x1800⟩),
  (0x4, ⟨0x0, 0x0, 0x0, 0x0, 0x0, 0x0⟩),
  (0x8, ⟨0x0, 0x0, 0x0, 0x0, 0x0, 0x0⟩),
  (0xC, ⟨0x0, 0x0, 0x0, 0x0, 0x7, 0x0⟩),
  (0x10, ⟨0x1F, 0x0, 0x0, 0x0, 0x0, 0x14⟩),
  (0x14, ⟨0x0, 0x0, 0x0, 0x0, 0x0, 0x0⟩),
  (0x18, ⟨0x0, 0x0, 0x0, 0x0, 0xF, 0x0⟩),
  (0x20, ⟨0x7, 0x0, 0x0, 0x0, 0x0, 0x6⟩),
  (0x24, ⟨0x0, 0x0, 0x0, 0x0, 0x0, 0x0⟩),
  (0x28, ⟨0x0, 0x0, 0x0, 0x0, 0x7, 0x0⟩)]

/-- The registers of one upstream queue (R229, R430). -/
def uqRegs : List (Nat × RegInfo) :=
 [(0x0, ⟨0x3FFFFF, 0x0, 0x0, 0x0, 0x0, 0x8000C⟩),
  (0x4, ⟨0x0, 0x0, 0x0, 0x0, 0x0, 0x0⟩),
  (0x8, ⟨0x0, 0x0, 0x0, 0x0, 0x0, 0x0⟩),
  (0xC, ⟨0x1FFFFF, 0x0, 0x0, 0x0, 0x0, 0x0⟩),
  (0x10, ⟨0xFFFFFF, 0x0, 0x0, 0x0, 0x0, 0x240020⟩),
  (0x14, ⟨0x0, 0x0, 0x0, 0x0, 0x0, 0x0⟩),
  (0x18, ⟨0x0, 0x0, 0x0, 0x0, 0x0, 0x0⟩),
  (0x1C, ⟨0x0, 0x0, 0x0, 0x0, 0x0, 0x0⟩)]

/-- The registers of one policer (R230, R430). -/
def polRegs : List (Nat × RegInfo) :=
 [(0x0, ⟨0x1FFFFF, 0x0, 0x0, 0x0, 0x0, 0x0⟩),
  (0x4, ⟨0x3FFFF, 0x0, 0x0, 0x0, 0x0, 0x20⟩),
  (0x8, ⟨0x0, 0x0, 0x0, 0x0, 0x0, 0x0⟩),
  (0xC, ⟨0x0, 0x0, 0x0, 0x0, 0x0, 0x0⟩)]

/-- The registers of one gate direction (R247, R430). -/
def gateRegs : List (Nat × RegInfo) :=
 [(0x0, ⟨0x3, 0x0, 0x0, 0x0, 0x0, 0x0⟩),
  (0x4, ⟨0x0, 0x7FFF, 0x0, 0x0, 0x0, 0x101⟩),
  (0x8, ⟨0x0, 0xFFFFFFFF, 0x0, 0x0, 0x0, 0x0⟩),
  (0xC, ⟨0x0, 0xFFFFFFFF, 0x0, 0x0, 0x0, 0x0⟩),
  (0x10, ⟨0x0, 0x0, 0x1, 0x0, 0x0, 0x0⟩),
  (0x14, ⟨0x0, 0x0, 0x0, 0x0, 0x0, 0x0⟩),
  (0x18, ⟨0x0, 0x0, 0x0, 0x0, 0x0, 0x0⟩),
  (0x1C, ⟨0x0, 0x0, 0x0, 0x0, 0x0, 0x0⟩),
  (0x20, ⟨0x0, 0x0, 0x0, 0x0, 0x0, 0x0⟩),
  (0x24, ⟨0x0, 0x0, 0x0, 0x0, 0x0, 0x0⟩),
  (0x28, ⟨0x0, 0x0, 0x0, 0x0, 0x0, 0x0⟩),
  (0x2C, ⟨0x0, 0x0, 0x0, 0x0, 0x0, 0x0⟩),
  (0x30, ⟨0x0, 0x0, 0x0, 0x0, 0x7F, 0x0⟩),
  (0x34, ⟨0x0, 0x0, 0x0, 0x0, 0x0, 0x0⟩),
  (0x38, ⟨0x0, 0x0, 0x0, 0x0, 0x0, 0x0⟩)]

/-- TIME registers (R246, R430). -/
def timeRegs : List (Nat × RegInfo) :=
 [(0x0, ⟨0x3FF, 0x0, 0x0, 0x0, 0x0, 0x228⟩),
  (0x4, ⟨0x0, 0x0, 0x0, 0x0, 0x0, 0x0⟩),
  (0x8, ⟨0x0, 0x0, 0x0, 0x0, 0x0, 0x0⟩),
  (0xC, ⟨0x0, 0x0, 0x0, 0x0, 0x0, 0x0⟩),
  (0x10, ⟨0x0, 0x0, 0x0, 0x0, 0x0, 0x0⟩),
  (0x14, ⟨0x0, 0x0, 0x0, 0x0, 0xF, 0x0⟩),
  (0x18, ⟨0x0, 0x0, 0x0, 0x0, 0x0, 0x0⟩)]

/-- SEC registers but for the roots and rules (R304, R430). -/
def secRegs : List (Nat × RegInfo) :=
 [(0x0, ⟨0xFF03, 0x0, 0x0, 0xFF03, 0x0, 0x1⟩),
  (0x4, ⟨0x0, 0x0, 0x0, 0x7F, 0x0, 0x0⟩),
  (0x8, ⟨0x0, 0x0, 0x0, 0xF, 0xF, 0x0⟩),
  (0xC, ⟨0x0, 0x0, 0x0, 0xFFFFFFFF, 0x0, 0x0⟩),
  (0x10, ⟨0x0, 0x0, 0x0, 0xFFFFFFFF, 0x0, 0x0⟩),
  (0x14, ⟨0x0, 0x0, 0x0, 0xFFFFFFFF, 0x0, 0x0⟩),
  (0x18, ⟨0x0, 0x0, 0x0, 0xFFFFFFFF, 0x0, 0x0⟩),
  (0x1C, ⟨0x0, 0x0, 0x0, 0xFFFFFFFF, 0x0, 0x0⟩),
  (0x20, ⟨0x0, 0x0, 0x0, 0xFFFFFFFF, 0x0, 0x0⟩),
  (0x24, ⟨0x0, 0xFFFFFFFF, 0x0, 0xFFFFFFFF, 0x0, 0x0⟩),
  (0x28, ⟨0x0, 0xFFFFFFFF, 0x0, 0xFFFFFFFF, 0x0, 0x0⟩),
  (0x2C, ⟨0x0, 0x0, 0x0, 0x1, 0x0, 0x0⟩)]

/-- CSB registers but for the workers (R274, R275, R430). -/
def csbRegs : List (Nat × RegInfo) :=
 [(0x0, ⟨0x3F7F3F7F, 0x0, 0x0, 0x0, 0x0, 0x50A0540⟩),
  (0x4, ⟨0x7FFFFFFF, 0x0, 0x0, 0x0, 0x0, 0x5140A14⟩),
  (0x8, ⟨0x3FFF, 0x0, 0x0, 0x0, 0x0, 0x405⟩),
  (0xC, ⟨0x0, 0x0, 0x0, 0x0, 0x0, 0x0⟩),
  (0x10, ⟨0x0, 0x0, 0x0, 0x0, 0xFFF, 0x0⟩),
  (0x14, ⟨0x0, 0x0, 0x0, 0x0, 0x0, 0x0⟩),
  (0x18, ⟨0x0, 0x0, 0x0, 0x0, 0x0, 0x0⟩),
  (0x1C, ⟨0x0, 0x0, 0x0, 0x0, 0x0, 0x0⟩),
  (0x20, ⟨0x0, 0x0, 0x0, 0x0, 0x0, 0x0⟩),
  (0x24, ⟨0xFFFFFF, 0x0, 0x0, 0x0, 0x0, 0x1E0000⟩),
  (0x28, ⟨0x0, 0x0, 0x0, 0x0, 0x0, 0x0⟩),
  (0x2C, ⟨0xFF3FBF, 0x0, 0x0, 0x0, 0x0, 0x1E0C81⟩),
  (0x30, ⟨0x0, 0x0, 0x0, 0x0, 0x0, 0x0⟩),
  (0x40, ⟨0x0, 0x0, 0x0, 0x0, 0x0, 0x0⟩),
  (0x44, ⟨0x0, 0x0, 0x0, 0x0, 0x0, 0x0⟩),
  (0x48, ⟨0x0, 0x0, 0x0, 0x0, 0x0, 0x0⟩),
  (0x4C, ⟨0x0, 0x0, 0x0, 0x0, 0x0, 0x0⟩),
  (0x50, ⟨0x0, 0x0, 0x0, 0x0, 0x0, 0x0⟩),
  (0x54, ⟨0x0, 0x0, 0x0, 0x0, 0x0, 0x0⟩),
  (0x58, ⟨0x0, 0x0, 0x0, 0x0, 0x0, 0x0⟩),
  (0x5C, ⟨0x0, 0x0, 0x0, 0x0, 0x0, 0x0⟩),
  (0x60, ⟨0x0, 0x0, 0x0, 0x0, 0x0, 0x0⟩),
  (0x64, ⟨0x0, 0x0, 0x0, 0x0, 0x0, 0x0⟩),
  (0x68, ⟨0x0, 0x0, 0x0, 0x0, 0x0, 0x0⟩),
  (0x6C, ⟨0x0, 0x0, 0x0, 0x0, 0x0, 0x0⟩),
  (0x70, ⟨0x0, 0x0, 0x0, 0x0, 0x0, 0x0⟩),
  (0x74, ⟨0x0, 0x0, 0x0, 0x0, 0x0, 0x0⟩),
  (0x78, ⟨0x0, 0x0, 0x0, 0x0, 0x0, 0x0⟩),
  (0x7C, ⟨0x0, 0x0, 0x0, 0x0, 0x0, 0x0⟩)]

/-- The registers of one worker in the CSB block (R274, R275, R430). -/
def csbWRegs : List (Nat × RegInfo) :=
 [(0x0, ⟨0xFFFFFFFF, 0x0, 0x0, 0x0, 0x0, 0x12C00000⟩),
  (0x4, ⟨0x0, 0x0, 0x0, 0x0, 0x0, 0x0⟩),
  (0x8, ⟨0x0, 0x0, 0x0, 0x0, 0x0, 0x0⟩),
  (0xC, ⟨0x0, 0x0, 0x0, 0x0, 0x0, 0x0⟩)]

/-- NVM registers (R326-R328, R430). -/
def nvmRegs : List (Nat × RegInfo) :=
 [(0x0, ⟨0x31F3F, 0x0, 0x0, 0x0, 0x0, 0x31C28⟩),
  (0x4, ⟨0x0, 0x0, 0x0, 0x0, 0x0, 0x0⟩),
  (0x8, ⟨0x0, 0x0, 0x0, 0x0, 0xFFF, 0x0⟩),
  (0xC, ⟨0x0, 0x0, 0x0, 0x0, 0x0, 0x0⟩),
  (0x20, ⟨0x0, 0x0, 0x0, 0x0, 0x0, 0x0⟩),
  (0x24, ⟨0x0, 0x0, 0x0, 0x0, 0x0, 0x0⟩),
  (0x28, ⟨0x0, 0x0, 0x0, 0x0, 0x0, 0x0⟩),
  (0x40, ⟨0x7, 0x0, 0x0, 0x0, 0x0, 0x1⟩),
  (0x44, ⟨0x0, 0x0, 0x0, 0x0, 0x0, 0x0⟩),
  (0x48, ⟨0x0, 0x3FFF, 0x0, 0x0, 0x0, 0x0⟩),
  (0x4C, ⟨0x0, 0x0, 0x0, 0x0, 0x3, 0x0⟩),
  (0x50, ⟨0x0, 0x0, 0x0, 0x0, 0x0, 0x0⟩),
  (0x54, ⟨0x0, 0x0, 0x0, 0x0, 0x0, 0x0⟩),
  (0x58, ⟨0x0, 0x0, 0x0, 0x0, 0x0, 0x0⟩),
  (0x5C, ⟨0x0, 0x0, 0x0, 0x0, 0x0, 0x0⟩),
  (0x60, ⟨0x0, 0x0, 0x0, 0x0, 0x0, 0x0⟩),
  (0x64, ⟨0x0, 0x0, 0x0, 0x0, 0x0, 0x0⟩),
  (0x68, ⟨0x0, 0x0, 0x0, 0x0, 0x0, 0x0⟩),
  (0x6C, ⟨0x0, 0x0, 0x0, 0x0, 0x0, 0x0⟩),
  (0x70, ⟨0x0, 0x0, 0x0, 0x0, 0x0, 0x0⟩),
  (0x80, ⟨0x0, 0x0, 0x0, 0x0, 0x0, 0x0⟩),
  (0x84, ⟨0x1FF, 0x0, 0x0, 0x1FF, 0x0, 0x10A⟩),
  (0x88, ⟨0x0, 0x0, 0x1, 0x1, 0x0, 0x0⟩)]

/-- MBX registers (R394-R396, R430). -/
def mbxRegs : List (Nat × RegInfo) :=
 [(0x0, ⟨0xFFFF01, 0x0, 0x0, 0x0, 0x0, 0xA0A00⟩),
  (0x4, ⟨0xEEE, 0x0, 0x0, 0xFFF, 0x0, 0x7F7⟩),
  (0x8, ⟨0x0, 0x0, 0x0, 0x0, 0x0, 0x0⟩),
  (0xC, ⟨0x0, 0x0, 0x0, 0x0, 0x1FF, 0x0⟩),
  (0x10, ⟨0x0, 0x0, 0x0, 0x0, 0x0, 0x0⟩),
  (0x14, ⟨0x0, 0x0, 0x3, 0x0, 0x0, 0x0⟩),
  (0x18, ⟨0x0, 0x0, 0x0, 0x0, 0x0, 0x0⟩),
  (0x1C, ⟨0x0, 0x0, 0x3, 0x0, 0x0, 0x0⟩),
  (0x20, ⟨0x0, 0x0, 0x0, 0x0, 0x0, 0x0⟩),
  (0x24, ⟨0x0, 0x0, 0x3, 0x0, 0x0, 0x0⟩),
  (0x28, ⟨0x0, 0x0, 0x0, 0x0, 0x0, 0x0⟩),
  (0x2C, ⟨0x0, 0x0, 0x3, 0x0, 0x0, 0x0⟩),
  (0x30, ⟨0x0, 0x0, 0x0, 0x0, 0x0, 0x0⟩),
  (0x34, ⟨0x0, 0x0, 0x3, 0x0, 0x0, 0x0⟩),
  (0x38, ⟨0x0, 0x0, 0x0, 0x0, 0x0, 0x0⟩),
  (0x3C, ⟨0x0, 0x0, 0x3, 0x0, 0x0, 0x0⟩)]

/-- The entry of a table at an offset. -/
def tabFind (l : List (Nat × RegInfo)) (k : Nat) : Option RegInfo :=
  match l with
  | [] => none
  | (a, i) :: rest => if a = k then some i else tabFind rest k

/-- The commit group of each parity block after reset (R402). -/
def groupReset (b : Nat) : Nat :=
  if b = 0 then 0 else if b ≤ 3 then 1 else if b ≤ 5 then 2 else if b ≤ 21 then 3 else if b ≤ 25 then 4
  else if b = 26 then 2 else if b ≤ 28 then 5 else if b ≤ 30 then 6 else if b = 31 then 7 else if b = 32 then 8
  else if b = 33 then 9 else 10

/-- RAIL_MASK after reset (R344). -/
def railMaskReset (r : Nat) : Word :=
  if r ≤ 1 then 0xFEFFFF else if r = 2 then 0x20FFFF else if r = 3 then 0x040000 else if r = 4 then 0x82FFFF
  else if r = 5 then 0x00FFFF else 0

/-- DOM_n_CFG of domain n (R355, R430): RET_MASK bits without a meaning for the domain read 0. -/
def domCfgInfo (n : Nat) : RegInfo :=
  if n = 21 then ⟨0xFFFFFF, 0, 0, 0, 0, 0x0003FFFF⟩
  else if n = 20 then ⟨0xFE00FF, 0, 0, 0, 0, 0x000200FF⟩
  else if n = 19 ∨ n = 17 then ⟨0xFE0001, 0, 0, 0, 0, 0x00020001⟩
  else if n = 16 then ⟨0, 0, 0, 0, 0, 0⟩
  else ⟨0xFE0000, 0, 0, 0, 0, 0x00020000⟩

/-- The four words of a firewall rule (R304). -/
def ruleInfo (w : Nat) : RegInfo :=
  let m : Word := if w ≤ 1 then 0xFFFFFFFF else if w = 2 then 0x3FFFFFFF else 0x3FFF
  ⟨m, 0, 0, m, 0, 0⟩

/-- The words of a gate-list entry (R248); `admin` entries are RW. Bit 0 of the first word always reads 1. -/
def gateEntryInfo (admin : Bool) (w : Nat) : RegInfo :=
  let m : Word := if w = 0 then 0xFFFFFFFE else if w = 1 then 0xFFFFFFFF else if w = 2 then 0xFFFFF else 0
  let r : Word := if w ≤ 1 then 0xFFFFFFFF else if w = 2 then 0x000030D4 else 0
  ⟨0, if admin then m else 0, 0, 0, 0, r⟩

/-- The register at an offset of the active view, where one is assigned (R422-R430). -/
def regInfo (x : Nat) : Option RegInfo :=
  if x < 0x1000 then
    if 0x100 ≤ x ∧ x < 0x18C ∧ x % 4 = 0 then
      some ⟨0, 0xF, 0, 0, 0, BitVec.ofNat 32 (groupReset ((x - 0x100) / 4))⟩
    else tabFind globalRegs x
  else if x < 0x2000 then tabFind huskRegs (x - 0x1000)
  else if x < 0x3000 then
    let o := x - 0x2000
    if 0x10 ≤ o ∧ o < 0x38 ∧ o % 4 = 0 then some ⟨0x1FFFFFF, 0, 0, 0, 0, railMaskReset ((o - 0x10) / 4)⟩
    else if 0x100 ≤ o ∧ o < 0x280 ∧ o % 4 = 0 then
      let n := (o - 0x100) / 0x10
      if o % 0x10 = 0 then some ⟨0, 7, 0, 0, 0, 0⟩
      else if o % 0x10 = 4 then some (domCfgInfo n)
      else some ⟨0, 0, 0, 0, 0, 0⟩
    else tabFind domRegs o
  else if x < 0x4000 then tabFind clkRegs (x - 0x3000)
  else if x < 0x5000 then
    let o := x - 0x4000
    if 0x100 ≤ o ∧ o < 0x200 ∧ o % 4 = 0 then
      if o % 8 = 0 then some ⟨0xFFBFFFF, 0, 0, 0, 0, 0x00FA0000⟩ else some ⟨0x7F, 0, 0, 0, 0, 4⟩
    else tabFind rlRegs o
  else if x < 0x6000 then tabFind huRegs (x - 0x5000)
  else if x < 0x10000 then none
  else if x < 0x20000 then
    let p := (x - 0x10000) / 0x1000
    let o := x % 0x1000
    if 0x7C0 ≤ o ∧ o < 0x7D0 then (if p = 0 then tabFind upselRegs o else none)
    else if p ≤ 1 then tabFind podRegsU o else tabFind podRegsD o
  else if x < 0x21000 then tabFind outRegs ((x - 0x20000) % 0x400)
  else if x < 0x22000 then none
  else if x < 0x23000 then tabFind budRegs (x - 0x22000)
  else if x < 0x30000 then none
  else if x < 0x31000 then
    let o := x - 0x30000
    if 0x48 ≤ o ∧ o < 0x80 ∧ o % 4 = 0 then
      some ⟨0x1FFFFFF, 0, 0, 0, 0, BitVec.ofNat 32 (0x8000 + 4 * ((o - 0x40) / 4) - 2)⟩
    else tabFind peRegs o
  else if x < 0x32000 then
    let n := (x - 0x31000) / 0x20
    if n < 64 then
      if x % 0x20 = 0 ∧ n ≤ 3 then some ⟨0x3FFF00, 0, 0, 0, 0, 0x00080000⟩
      else if x = 0x3100C then some ⟨0, 0, 0, 0, 0, 0⟩
      else tabFind uqRegs (x % 0x20)
    else none
  else if x < 0x33000 then
    if (x - 0x32000) / 0x10 < 128 then tabFind polRegs (x % 0x10) else none
  else if x < 0x40000 then none
  else if x < 0x48000 then
    let o := x % 0x4000
    if o / 4 < 4064 ∧ o % 4 = 0 then some ⟨0, 0x8003FFFF, 0, 0, 0, 0⟩ else none
  else if x < 0x48400 then
    let o := x - 0x48000
    if o / 0x40 < 2 then tabFind gateRegs (o % 0x40) else none
  else if x < 0x4A400 then
    let o := x - 0x48400
    if o % 4 ≠ 0 then none else some (gateEntryInfo (o < 0x1000) (o % 16 / 4))
  else if x < 0x4C000 then none
  else if x < 0x4D000 then tabFind timeRegs (x - 0x4C000)
  else if x < 0x60000 then none
  else if x < 0x60600 then
    let o := x - 0x60000
    if 0x100 ≤ o ∧ o < 0x200 ∧ o % 4 = 0 then some ⟨0xFFFFFFFF, 0, 0, 0xFFFFFFFF, 0, 0⟩
    else if 0x400 ≤ o ∧ o % 4 = 0 then some (ruleInfo (o % 16 / 4))
    else tabFind secRegs o
  else if x < 0x70000 then none
  else if x < 0x70500 then
    let o := x - 0x70000
    if 0x110 ≤ o ∧ o % 4 = 0 then tabFind csbWRegs (o % 0x10) else tabFind csbRegs o
  else if x < 0x78000 then none
  else if x < 0x79000 then tabFind nvmRegs (x - 0x78000)
  else if x < 0x7C000 then none
  else if x < 0x7D000 then tabFind mbxRegs (x - 0x7C000)
  else if x < 0x90000 then none
  else if x < 0x9A868 then (if x % 4 = 0 then some ⟨0, 0, 0, 0, 0, 0⟩ else none)
  else none

/-- The reset word of a register; 0 where none is assigned. -/
def regReset (x : Nat) : Word :=
  match regInfo x with
  | some i => i.reset
  | none => 0

/-- The parity block that holds an offset (R422); 35 for none. -/
def blockOf (x : Nat) : Nat :=
  if x < 0x6000 then x / 0x1000
  else if x < 0x10000 then 35
  else if x < 0x20000 then 6 + (x - 0x10000) / 0x1000
  else if x < 0x21000 then 22 + (x - 0x20000) / 0x400
  else if x < 0x22000 then 35
  else if x < 0x23000 then 26
  else if x < 0x30000 then 35
  else if x < 0x33000 then 27
  else if x < 0x40000 then 35
  else if x < 0x48000 then 28
  else if x < 0x4A400 then 29
  else if x < 0x4C000 then 35
  else if x < 0x4D000 then 30
  else if x < 0x60000 then 35
  else if x < 0x60600 then 31
  else if x < 0x70000 then 35
  else if x < 0x70500 then 32
  else if x < 0x78000 then 35
  else if x < 0x79000 then 33
  else if x < 0x7C000 then 35
  else if x < 0x7D000 then 34
  else 35

/-- The block whose commit group an offset follows: the firewall registers of a pod commit with SEC (R283, R402, R423). -/
def groupBlock (x : Nat) : Nat :=
  let b := blockOf x
  if 6 ≤ b ∧ b ≤ 21 ∧ 0xC00 ≤ x % 0x1000 then 31 else b

/-- The power domain of a parity block (R422). -/
def blockDom (b : Nat) : Nat :=
  if b = 0 ∨ b = 26 ∨ b = 34 ∨ 35 ≤ b then 17
  else if b ≤ 5 then 16
  else if b ≤ 21 then b - 6
  else if b ≤ 25 then 23
  else if b ≤ 30 then 21
  else if b = 31 then 19
  else if b = 32 then 22
  else 18

end Sys2Proof.Machine
end

