-- ==== Sys2Proof/Machine/State.lean ====
section
/-! DEFINITION. The state of the block as plain data: every register, FIFO, buffer, counter, mode and pin the spec gives it,
the queue of waiting commands, and the state right after reset. -/

namespace Sys2Proof.Machine

/-! ### What the block shows outside (its outputs within one command) -/

/-- An output of one command: what leaves the block on its links, buses and pins (the model's record of it). -/
inductive Output where
  /-- a PD message sent on SOP, or on SOP' (`cable`), with its data words (R91) -/
  | pd (p : Nat) (k : PdKind) (cable : Bool) (words : List Word)
  /-- Hard Reset signalling sent on a pod (R89) -/
  | hardReset (p : Nat)
  /-- a BIST mode carried out on a pod (R91) -/
  | bist (p : Nat) (m : BistMode)
  /-- a PMBus transaction to a slot: command code and data (R163) -/
  | pmbus (slot cmd data : Nat) (pec : Bool)
  /-- a packet sent on a pod's link: addresses, payload bytes, poisoned, header alone with Deferred (R187, R190) -/
  | packet (p addr ep bytes : Nat) (poisoned deferred : Bool)
  /-- a header returned to the host with Deferred set (R187, R224) -/
  | deferredToHost (addr ep : Nat)
  /-- an ITP sent on a pod's link, with its Delayed flag (R180) -/
  | itp (p : Nat) (delayed : Bool)
  /-- an answer of a TT to a split transaction or TT request (R182, R219) -/
  | tt (p : Nat) (answer : TtAnswer)
  /-- a link command or state direction on a pod's link: LAU or LXU, Warm Reset, U3 (R183, R184) -/
  | linkCmd (p : Nat) (c : LinkCmd)
  /-- the status stage of a hub class request, and the words it returns (R15, R55) -/
  | hubReply (words : List Word)
  /-- a CSB frame sent on a link: pod index, SEQ, ACK, TURN, ACK_VALID, the frame, and its bytes on the wire (R255) -/
  | csb (p seq ack : Nat) (turn ackValid : Bool) (f : CsbFrame) (wire : List (BitVec 8))
  /-- bytes the MF or the SMBus target returns for a ring (R371, R375), an answer of MF EP0 (R289, R372) -/
  | mbx (ring : Nat) (bytes : List (BitVec 8))
  /-- NRDY or NAK on the MF, no acknowledge on SMBus, STALL on EP0 (R370-R374) -/
  | mbxBusy (ring : Nat)
  /-- ERDY on the MF once a slot frees or a response is stored (R370, R371) -/
  | mbxReady (ring : Nat)
  /-- SCL held low by the matcher, or released (R346) -/
  | stretch (held : Bool)
  /-- the JTAG port carried out EXTEST, or stayed in BYPASS (R297) -/
  | extest (done : Bool)
  /-- the word a read returned (R399) -/
  | read (w : Word)
  deriving DecidableEq, Repr

/-! ### Memory integrity, journal and firmware banks (chapter 12) -/

/-- The two firmware banks of MRAM (R321). -/
inductive Bank where
  | a | b
  deriving DecidableEq, Repr

/-- The state of a firmware bank (R321, R328). -/
inductive BankState where
  | empty | writing | verified | active | bad
  deriving DecidableEq, Repr

/-- A firmware bank: its state, the version of its image, the image's security version, the 256-byte pages stored by number. -/
structure BankInfo where
  state   : BankState := .empty
  version : Word := 0
  secVer  : Nat := 0
  pages   : List (Nat × List (BitVec 8)) := []
  deriving DecidableEq, Repr

/-- What a page store of the configuration class writes, with what follows its completion (R310, R290, R293, R299, R321, R390). -/
inductive CfgPage where
  /-- the list of retired cells (R310) -/
  | retired
  /-- the active-bank name; `cause` is the restart that follows its store (R321, R323) -/
  | activeBank (bank : Bank) (cause : Nat)
  /-- one entry of the root store: digest words and valid bit (R290) -/
  | root (r : Fin 8) (digest : List Word) (valid : Bool)
  /-- a sealed key blob of a slot (R293) -/
  | keyBlob (slot : Fin 32)
  /-- erasure of a slot's blob (R390) -/
  | keyErase (slot : Fin 32)
  /-- part of an OEM certificate chain: slot, offset, bytes (R390) -/
  | cert (slot offset : Nat) (bytes : List (BitVec 8))
  /-- the manager's ID table (R260) -/
  | idTable
  deriving DecidableEq, Repr

/-- The class of a store (R318). -/
inductive StoreClass where
  | journal | config | firmware | erase
  deriving DecidableEq, Repr

/-- One MRAM store (R318). -/
inductive Store where
  | record (r : Rec)
  | config (page : CfgPage)
  /-- a firmware page, with the master ID of its issuer (R321) -/
  | firmware (bank : Bank) (page : Nat) (bytes : List (BitVec 8)) (issuer : Nat)
  /-- a step of the erase sequence (R299) -/
  | erase (step : Nat)
  deriving DecidableEq, Repr

/-- A store that waits, with the time since when (R319); `held`: it comes from the deferral queue, where it keeps its place until
it is done. -/
structure Deferred where
  store : Store
  since : Nat
  held  : Bool := false
  deriving DecidableEq, Repr

/-- One parity fault that has not ended (R311-R314): the register offset, the copy (0 active, 1 shadow or mirror, 2 both),
whether the block is in its safe response for it, and when it was found. -/
structure ParFault where
  off   : Nat
  copy  : Nat
  safe  : Bool
  since : Nat
  /-- the word in force when the fault was found (R313) -/
  kept  : Word := 0
  deriving DecidableEq, Repr

/-- The NVM unit, the error-correcting memories and the MP's restart state. -/
structure Nvm where
  /-- records raised and waiting to reach the NVM unit, oldest first (R315) -/
  raised     : List Rec := []
  /-- the words of the configuration store that start-up loads or applies, by register offset (R318, R424, R461) -/
  stored     : List (Nat × Word) := []
  /-- the stores that wait for the NVM unit, which does one at a time; the first of them runs (R315, R318) -/
  inStore    : List Deferred := []
  /-- the Seedbank: written records by index (unlisted: never written, R315) -/
  ring       : List (Nat × Rec) := []
  head       : Nat := 0
  ringFull   : Bool := false
  wraps      : Nat := 0
  /-- the journal window (R317) -/
  win        : List Word := List.replicate 8 0
  rdUe       : Bool := false
  /-- the deferral queue of MP SRAM bank 7, oldest first (R319, R320) -/
  deferQ     : List Deferred := []
  /-- records lost since the last gap record, and the timebase of the first loss (R320) -/
  lost       : Nat := 0
  lostTb     : BitVec 64 := 0
  /-- TB_UNSYNC was set at the first of them (R316) -/
  lostUns    : Bool := false
  /-- deferred stores carried out since the queue was last empty, and the longest wait (R319, R330) -/
  drainCnt   : Nat := 0
  drainWait  : Nat := 0
  /-- V at the latest measurement, in 1/256 mV (R318) -/
  huV        : Nat := 0
  /-- scrub positions (R309) -/
  scrubCell  : Nat := 0
  mpScrub    : Nat := 0
  /-- cells retired, the list of them that MRAM holds, cells whose retirement waits for their release (R310) -/
  retired    : List Nat := []
  retiredMram : List Nat := []
  toRetire   : List Nat := []
  /-- per memory code: correctable errors of the running second and the second they belong to (R308) -/
  ceCount    : Vector Nat 5 := Vector.replicate 5 0
  ceWord     : Vector Nat 5 := Vector.replicate 5 0
  ceSince    : Vector (Option Nat) 5 := Vector.replicate 5 none
  /-- ECC_ADDR (R326) -/
  eccMem     : Nat := 0
  eccHard    : Bool := false
  eccWord    : Nat := 0
  /-- parity: faults held, PAR_STAT and the capture of CFG_PARITY_STAT (R312, R326, R427) -/
  faults     : List ParFault := []
  /-- the blocks in their safe response, with the time they entered it (R314, R330) -/
  safeAt     : List (Nat × Nat) := []
  parCopy    : Nat := 0
  parOutcome : Nat := 0
  parBlock   : Nat := 0
  scanPasses : Nat := 0
  capBlock   : Nat := 0
  capAddr    : Nat := 0
  /-- firmware banks and the MP (R321-R323, R328) -/
  active     : Bank := .a
  bankA      : BankInfo := { state := .active }
  bankB      : BankInfo := {}
  lastRestart : Nat := 0
  restartsInWin : Nat := 0
  inRestart  : Bool := false
  /-- time of the last activation, for the 60 s of R323 -/
  activatedAt : Option Nat := none
  deriving DecidableEq, Repr

/-! ### Type-C connection machine, moisture check, bounce hold (chapter 3) -/

/-- The thirteen states of the connection machine (R36), in the order of their TC_STATE codes (R61). -/
inductive TcState where
  | disabled | errorRecovery | unattachedSrc | attachWaitSrc | attachedSrc | unattachedSnk
  | attachWaitSnk | attachedSnk | trySrc | tryWaitSnk | wet | bounceHold | lockout
  deriving DecidableEq, Repr

/-- The class of a moisture reading (R47), in the order of the CLASS codes (R64). -/
inductive MoistClass where
  | dry | wet | ra | rd
  deriving DecidableEq, Repr

/-- One pin of the moisture check: its latest reading (R64) and its baseline (R65). -/
structure MoistPin where
  res       : Nat := 0
  cls       : MoistClass := .dry
  seq       : Nat := 0
  base      : Nat := 0
  baseValid : Bool := false
  baseCnt   : Nat := 0
  deriving DecidableEq, Repr

/-- A bounce hold under way (R55): the timebase and the time of the loss, the connection's speed before it. -/
structure Hold where
  lossTb : BitVec 64
  since  : Nat
  speed  : Speed
  deriving DecidableEq, Repr

/-- The connection machine of one pod (R34-R57). -/
structure Tc where
  state       : TcState := .unattachedSrc
  cc1         : Term := .open
  cc2         : Term := .open
  orient      : Bool := false
  vconnOn     : Bool := false
  /-- advertised or detected Rp level: 0 Default, 1 1.5 A, 2 3.0 A (R61) -/
  rpLevel     : Nat := 0
  chatterExt  : Bool := false
  /-- times of the chatter transitions, newest first (R39) -/
  chatter     : List Nat := []
  /-- an accessory of this insertion has been counted (R35) -/
  accCounted  : Bool := false
  sbuCsb      : Bool := false
  dryCnt      : Nat := 0
  wetSince    : Nat := 0
  attachedAt  : Nat := 0
  /-- end of LOCKOUT, in 10 ns ticks (R36) -/
  lockoutEnd  : Nat := 0
  /-- the VCONN limit tripped on this attach (R42) -/
  vconnOc     : Bool := false
  /-- a moisture check is under way (R45) -/
  checking    : Bool := false
  /-- the termination was stable for the debounce and the check, where one runs, was dry (R36) -/
  debounced   : Bool := false
  /-- the termination is lost and tPDDebounce runs (R36) -/
  lost        : Bool := false
  /-- VBUS_PRESENT was counted in this AttachWait.SRC (R40) -/
  vbusCounted : Bool := false
  /-- a first wet live reading waits for its confirmation (R51) -/
  liveWet     : Bool := false
  /-- ROLE and TRY_SRC_EN in effect (R59) -/
  role        : Nat := 1
  trySrc      : Bool := false
  /-- the Husk saw a termination in its last sample (R52) -/
  huskSeen    : Bool := false
  pins        : Vector MoistPin 4 := Vector.replicate 4 {}
  bhAvail     : Bool := false
  hold        : Option Hold := none
  lastResult  : Bool := false
  lastUsb2    : Bool := false
  lastDur     : Nat := 0
  deriving DecidableEq, Repr

/-! ### eFuse sequencers and outlets (chapter 5) -/

/-- The eleven states of the sequencer (R117), in the order of their VB_STATE codes (R145). -/
inductive VbState where
  | off | check0v | windowWait | insertDelay | precharge | ramp | on | tripped | retryWait | coolDown | latchedOff
  deriving DecidableEq, Repr

/-- One eFuse sequencer (R113-R152). Voltages are in 10 mV units, I_C in 10 mA units, the junction estimate in micro-degrees. -/
structure Efuse where
  state     : VbState := .off
  /-- the owner's request stands (R118) -/
  request   : Bool := false
  vTgt      : Nat := 0
  /-- the old target of a voltage transition (R123) -/
  vOld      : Nat := 0
  iC        : Nat := 0
  /-- a PPS contract is in force (R122, R147) -/
  pps       : Bool := false
  gpre      : Bool := false
  gmain     : Bool := false
  enhanced  : Bool := false
  pg        : Bool := false
  /-- the table of R117 calls for the discharge, VBUS not having been below 0.8 V since (R133) -/
  dsch      : Bool := false
  /-- VBUS is below 0.8 V -/
  low       : Bool := false
  ocTiming  : Bool := false
  /-- VBUS is below the window (R122): T_UV runs, or UV_HELD is set -/
  below     : Bool := false
  uvHeld    : Bool := false
  transition : Bool := false
  sinkDir   : Bool := false
  lastTrip  : Nat := 0
  retryCnt  : Nat := 0
  tripAt    : Option Nat := none
  /-- the backoff and the floor of the last trip, in ticks, as they stood then (R129, R138) -/
  backoff   : Nat := 0
  floor     : Nat := 0
  /-- this cool-down follows a backoff: what leaves it is a retry (R129, R148) -/
  retrying  : Bool := false
  attemptAt : Nat := 0
  onSince   : Nat := 0
  /-- a turn-on is held under R139 -/
  held      : Bool := false
  /-- latest measurements (R146) -/
  vbusV     : Nat := 0
  iMeas     : Int := 0
  vsrcV     : Nat := 0
  tEstMeas  : Int := -40000000
  measSeq   : Nat := 0
  /-- VBUS at the last 10 us step (R123, R125) -/
  vbusNow   : Nat := 0
  /-- thermal updates since the last measurement update, 0-9 (R125, R146) -/
  measDiv   : Nat := 0
  tEst      : Int := -40000000
  seeded    : Bool := false
  deriving DecidableEq, Repr

/-- One outlet beside its sequencer (R134, R135, R150). -/
structure Outlet where
  /-- level of OUT_o_PRES after debounce, once it has shown a load -/
  pres       : Bool := false
  budgetWait : Bool := false
  /-- its presence changed while OUT did not run, and has not been acted on (R134) -/
  missed     : Bool := false
  /-- the charge is granted with these settings (V in 10 mV, I in 10 mA) -/
  grant      : Option (Nat × Nat) := none
  deriving DecidableEq, Repr

/-! ### Budget unit and regulator link (chapter 6) -/

/-- One of the twenty consumers (R153-R160); charges and targets in 0.25 W units. -/
structure Consumer where
  charge  : Nat := 0
  /-- the target of R155 (none: 0x1FFF) -/
  target  : Option Nat := none
  shed    : Bool := false
  marked  : Bool := false
  /-- the offer allowance of a source pod (R155) -/
  pOff    : Nat := 0
  /-- Rp was lowered and the charge follows 60 ms later (R157) -/
  rpLower : Bool := false
  deriving DecidableEq, Repr

/-- The budget unit (R153-R171). -/
structure Budget where
  cons       : Vector Consumer 20 := Vector.replicate 20 {}
  bEff       : Nat := 0x190
  /-- source of the present B (record 0x3105): 1 local, 2 grant, 3 floor, 4 brownout, 5 sink credit -/
  bSrc       : Nat := 1
  warnVin    : Bool := false
  warnOver   : Bool := false
  fail       : Bool := false
  restoring  : Bool := false
  /-- classes below this one have had their turn of restoring (R160) -/
  restTurn   : Nat := 0
  warnAt     : Nat := 0
  /-- step 6 of R159 has run for the present warning -/
  step6      : Bool := false
  vinMeas    : Nat := 0
  headroom   : Int := 0
  grant      : Nat := 0
  grantValid : Bool := false
  holding    : Bool := false
  floored    : Bool := false
  /-- a credited sink contract was lost or reduced with SNK_LOSS_WARN 0 (R161) -/
  lossQuiet  : Bool := false
  /-- the consumers' classes as they were when the BUDGET block entered its safe response (R313) -/
  heldPrio   : Option (Vector Nat 20) := none
  /-- B before the brownout limit, and the sink credit in it, as last computed (R153, R161) -/
  plain      : Nat := 0x190
  credit     : Nat := 0
  overSince  : Option Nat := none
  /-- when the warning last cleared (R78) -/
  clearAt    : Option Nat := none
  deriving DecidableEq, Repr

/-- A request to the regulator link (R165, R338): a converter off, a converter on at a voltage (10 mV units, with a PPS
current limit in 10 mA units where one applies), a rail off or on. -/
inductive RlKind where
  | off
  | voltage (v : Nat)
  | pps (v i : Nat)
  | railOff
  | railOn
  deriving DecidableEq, Repr

/-- A queued request: its owner (0-15 pod, 16-19 outlet, 20-29 rail) and what it asks (R164). -/
structure RlReq where
  owner : Nat
  kind  : RlKind
  deriving DecidableEq, Repr

/-- A request in service (R165). -/
structure RlActive where
  req      : RlReq
  slot     : Fin 32
  attempt  : Nat
  /-- a poll read a status fault bit; a poll had a PEC error or no acknowledge -/
  sawFault : Bool := false
  sawErr   : Bool := false
  /-- the last STATUS_WORD read with a correct PEC -/
  status   : BitVec 16 := 0
  /-- the last poll found the status clear -/
  clean    : Bool := false
  /-- the attempt failed and is to be repeated -/
  redo     : Bool := false
  deriving DecidableEq, Repr

/-- What one regulator slot has shown (R164, R169). -/
structure RlSlot where
  probed   : Bool := false
  fault    : Bool := false
  voutMode : BitVec 8 := 0
  rev      : BitVec 8 := 0
  lastRes  : Nat := 0
  deriving DecidableEq, Repr

/-- The regulator link (R163-R166). -/
structure Rlink where
  queue   : List RlReq := []
  active  : List RlActive := []
  slots   : Vector RlSlot 32 := Vector.replicate 32 {}
  pgIn    : BitVec 8 := 0
  /-- RL_ALERT_N is asserted (R169) -/
  alert   : Bool := false
  curSlot : Fin 32 := 0
  monSlot : Fin 32 := 0
  deriving DecidableEq, Repr

/-! ### PD policy engine (chapter 4) -/

/-- The sixteen states of the engine, in the order of their PE_STATE codes (R106). -/
inductive PeState where
  | disabled | waitVbus | cableDisc | sendCaps | negotiate | transition | ready | snkSelect | softReset
  | hardReset | hardResetRecover | vconnSwap | eprEntry | vdmDisc | noPd | drSwap
  deriving DecidableEq, Repr

/-- An object of a capability list (R72): nothing at this position; a fixed supply (V in 10 mV, I in 10 mA units); a PPS range
from 3.3 V to a maximum. -/
inductive PdObject where
  | none
  | fixed (v i : Nat)
  | pps (vmax i : Nat)
  deriving DecidableEq, Repr

/-- A contract, in force or accepted (R74, R107): voltage in 10 mV and current in 10 mA units, the object position (0 implicit),
the type (0 implicit, 1 SPR fixed, 2 PPS, 3 EPR fixed), Capability Mismatch, the budget charge. -/
structure Contract where
  v        : Nat := 0
  i        : Nat := 0
  pos      : Nat := 0
  ctype    : Nat := 0
  mismatch : Bool := false
  charge   : Nat := 0
  /-- the highest voltage of a PPS contract's object (R76) -/
  vmax     : Nat := 0
  deriving DecidableEq, Repr

/-- The answer the engine waits for (R91). -/
inductive Await where
  | nothing
  | request
  | accept
  | drSwap
  | vconnSwap
  | softReset
  deriving DecidableEq, Repr

/-- The steps of the cascade probe (R93). -/
inductive Probe where
  | idle | identity | svids | modes | enter | ended
  deriving DecidableEq, Repr

/-- SWAP_STATE (R106). -/
inductive SwapState where
  | idle | byPod | byPartner | awaitPsRdy
  deriving DecidableEq, Repr

/-- How the SOP' discovery of the cable stands (R84): not begun, asked, BUSY, without an answer, answered. -/
inductive CableAsk where
  | idle | asked | busy | silent | answered
  deriving DecidableEq, Repr

/-- One engine (R69-R112). -/
structure Pde where
  state        : PeState := .disabled
  roleSrc      : Bool := false
  dfp          : Bool := false
  /-- the partner's revision has been seen, and is 3.x (R70) -/
  revKnown     : Bool := false
  rev3         : Bool := false
  eprMode      : Bool := false
  /-- leaving EPR mode: the 28 V object is withheld until the contract is below 28 V (R82) -/
  eprLeaving   : Bool := false
  /-- the Request of the contract had EPR Mode Capable set (R81) -/
  eprAsked     : Bool := false
  casMode      : Bool := false
  sinkTxNg     : Bool := false
  swap         : SwapState := .idle
  /-- the swap under way was started by the pod -/
  swapOwn      : Bool := false
  inputAlerted : Bool := false
  /-- an Alert was sent on this attach; a further one needs a clear second (R78) -/
  alertSent    : Bool := false
  capsCount    : Nat := 0
  srRun        : Nat := 0
  hrRun        : Nat := 0
  lastViol     : Nat := 0
  contract     : Contract := {}
  /-- accepted and not yet in force (R75); the converter has been asked -/
  pending      : Option Contract := none
  converterAsked : Bool := false
  madeExplicit : Bool := false
  readySeen    : Bool := false
  /-- the last list sent, by position (R72, R109) -/
  offers       : List PdObject := []
  /-- the objects of that list as they were sent (R109) -/
  pdos         : List Word := []
  numObj       : Nat := 0
  offerSeq     : Nat := 0
  reoffer      : Bool := false
  /-- capabilities are due again after a Request refused on the implicit contract (R74) -/
  resend       : Bool := false
  cable        : CableAsk := .idle
  discDone     : Bool := false
  emarked      : Bool := false
  eprCable     : Bool := false
  iCbl         : Nat := 0
  vCbl         : Nat := 0
  activeCbl    : Bool := false
  attempts     : Nat := 0
  await        : Await := .nothing
  /-- Waits answered to the pod's VCONN_Swap, and to its DR_Swap; the 100 ms after one run (R86, R91) -/
  waits        : Nat := 0
  drWaits      : Nat := 0
  vcWaiting    : Bool := false
  drWaiting    : Bool := false
  probe        : Probe := .idle
  /-- the partner's mode VDO, while the decision of R259 is deferred -/
  vdo          : Option Word := none
  busy         : Nat := 0
  /-- a probe is due again after a dry live check (R442) -/
  reprobe      : Bool := false
  /-- a probe, or the command of its present step, is due at the next PDE.READY (R93) -/
  casDue       : Bool := false
  probeDue     : Bool := false
  csbLossAt    : Option Nat := none
  /-- Enter Mode was answered with ACK and waits for its GoodCRC (R93) -/
  enterAcked   : Bool := false
  vconnAsked   : Bool := false
  vconnRetry   : Bool := false
  /-- the one retry after a crossing swap was made (R87); the VCONN_SWAP bit asked for the swap (R109) -/
  vcRetried    : Bool := false
  cmdVconn     : Bool := false
  /-- that bit has been taken (R109) -/
  vcTaken      : Bool := false
  /-- what waits for tSinkTx: the Alert, capabilities, the VCONN_Swap, an SOP' attempt, the first Security_Request -/
  pendAlert    : Bool := false
  pendCaps     : Bool := false
  pendVconn    : Bool := false
  pendCable    : Bool := false
  pendAuth     : Bool := false
  /-- the Hard Reset in progress is that of a shed, and tSrcRecover has ended (R79) -/
  shedReset    : Bool := false
  recovered    : Bool := false
  /-- MessageID on SOP and on SOP' -/
  msgId        : Nat := 0
  cableId      : Nat := 0
  /-- PD is disabled while a Hard Reset of PD_EN 0 runs (R97) -/
  disabling    : Bool := false
  deriving DecidableEq, Repr

/-- The capture FIFO: stored items, oldest first, each with the words not yet popped; the capture sequence (R98, R99). -/
structure Capture where
  items : List (List Word) := []
  tag   : Nat := 0
  deriving DecidableEq, Repr

/-! ### Upstream selection (chapter 2) -/

/-- The reconnection sequence between step 3 and step 5 (R24): the old pod, the new pod, the cause, what record 0x4101 will say. -/
structure UpSeq where
  old      : Option UpIx
  new      : UpIx
  cause    : Nat
  failover : Bool
  lossUs   : Nat
  discard  : Nat
  deriving DecidableEq, Repr

/-- The selection state both upstream pods share (R19-R26, R472). -/
structure Upsel where
  active    : Option UpIx := none
  /-- T_FAIL runs (R23) -/
  timing    : Bool := false
  /-- the loss is a Type-C detach (R22 item 1) -/
  detached  : Bool := false
  /-- the connection of the ACTIVE pod is lost, and when it was lost -/
  lostAt    : Option Nat := none
  /-- end of T_FAIL in 10 ns ticks -/
  failEnd   : Nat := 0
  lastCause : Nat := 0
  /-- C_PORT_CONNECTION of port 15, the MF (R24 step 6) -/
  mfChange  : Bool := false
  seq       : Option UpSeq := none
  /-- per upstream pod: DR_Swap was refused on this attach (R19); the hub's DR_Swap was accepted on this attach; released
  under R472 -/
  refused   : Vector Bool 2 := Vector.replicate 2 false
  swapped   : Vector Bool 2 := Vector.replicate 2 false
  released  : Vector Bool 2 := Vector.replicate 2 false
  deriving DecidableEq, Repr

/-! ### Links, the Shell, snooping (chapter 7) -/

/-- The states of a USB 2.0 connection (R199 U2_STATE), in the order of their codes. -/
inductive U2State where
  | notConnected | disabled | resetting | enabled | suspended | resuming | l1
  deriving DecidableEq, Repr

/-- One entry of the deferred table (R188). -/
structure DeferEnt where
  addr  : Nat
  ep    : Nat
  dirIn : Bool
  deriving DecidableEq, Repr

/-- A packet stored for a downstream link, with its cells in the pod's reservation and in the pool (R177). -/
structure DownPkt where
  addr   : Nat
  ep     : Nat
  bytes  : Nat
  inRsv  : Nat := 0
  inPool : Nat := 0
  /-- its Deferred flag is set: the header alone goes out (R187, R224) -/
  deferred : Bool := false
  /-- payload that arrived damaged (R190) -/
  damaged : Bool := false
  iso    : Bool := false
  /-- the scrub found an uncorrectable error in one of its cells (R309), or in its descriptor (R307) -/
  marked : Bool := false
  noDesc : Bool := false
  deriving DecidableEq, Repr

/-- TT data or a start-split held in a TT buffer (R182, R219). -/
structure TtBuf where
  addr     : Nat
  ep       : Nat
  dirIn    : Bool
  periodic : Bool
  /-- the cells reserved for it (R175) -/
  cells    : Nat
  /-- the data collected from the device, absent until it arrives -/
  data     : Option Nat := none
  damaged  : Bool := false
  queue    : QueueIx := 3
  /-- the charged length once it has been used (R205) -/
  charge   : Option Nat := none
  /-- its expected charge is counted in OUTSTANDING of this queue with the OVERHEAD of its release, and debited from this
  policer (R223) -/
  counted  : Nat := 0
  rel      : QueueIx := 3
  ovh      : Nat := 0
  pol      : Option PolIx := none
  iso      : Bool := false
  /-- the scrub found an uncorrectable error in one of its cells (R309) -/
  marked   : Bool := false
  deriving DecidableEq, Repr

/-- One pod's link (R183-R204). -/
structure Link where
  speed     : Speed := .none
  ltssm     : Ltssm := .ssDisabled
  u2        : U2State := .notConnected
  portEn    : Bool := false
  /-- DIS_REASON code (R199) -/
  disReason : Nat := 0
  devAddr   : Nat := 0
  /-- PORT_CONNECTION and the change bits reported to the host (R16, R17, R287) -/
  conn      : Bool := false
  cConn     : Bool := false
  cEnable   : Bool := false
  cReset    : Bool := false
  cLink     : Bool := false
  oc        : Bool := false
  cOc       : Bool := false
  /-- C_PORT_SUSPEND: a selectively suspended port has resumed (R185) -/
  cSuspend  : Bool := false
  /-- the host has asked for the exit from U3, which is under way (R184) -/
  u3Exit    : Bool := false
  /-- C_BH_PORT_RESET: a warm reset has ended (R56) -/
  cBhReset  : Bool := false
  /-- a device is detected while its port reports none (R287) -/
  held      : Bool := false
  /-- the deferred table of a bounce hold (R188) -/
  deferred  : List DeferEnt := []
  /-- headers that wait for the link to leave U1 or U2 (R187) -/
  waking    : List DeferEnt := []
  /-- times of the violations of the last second, newest first (R195) -/
  viols     : List Nat := []
  dsNeed    : Nat := 0
  dsRsv     : Nat := 0
  dsShort   : Bool := false
  down      : List DownPkt := []
  tt        : List TtBuf := []
  /-- U3 is to be entered once what is stored has been sent (R184) -/
  u3Pending : Bool := false
  /-- the link state the port status shows during a bounce hold (R55) -/
  shown     : Option Ltssm := none
  /-- the USB 2.0 state the port status shows during a bounce hold (R55) -/
  shownU2   : Option U2State := none
  /-- a port reset is under way; the device is, or was last, reported under the SuperSpeed hub (R17) -/
  resetting : Bool := false
  /-- the reset under way is a Warm Reset -/
  warm      : Bool := false
  onSs      : Bool := true
  /-- suspended with the whole USB 2.0 tree by the hub's own suspend (R185) -/
  treeSusp  : Bool := false
  deriving DecidableEq, Repr

/-- The set of one configuration value, read to its wTotalLength (R192); `truncated`: it is longer than 2,048 bytes, and the
endpoints beyond are not in it (R193). -/
structure CfgSet where
  value     : Nat
  truncated : Bool
  ifs       : List IfDesc
  deriving DecidableEq, Repr

/-- An element the firewall judges: 0 a device, 1 an interface (R279). -/
structure Elem where
  level : Nat
  vid   : Nat
  pid   : Nat
  cls   : Nat
  sub   : Nat
  proto : Nat
  deriving DecidableEq, Repr

/-- What the snoop and the firewall hold about one device (R192-R194, R279-R281). -/
structure Dev where
  pod      : PodIx
  addr     : Nat
  /-- directly attached to the pod, and at high speed (R193) -/
  direct   : Bool
  hs       : Bool
  desc     : Option DevDesc := none
  cfgs     : List CfgSet := []
  cfg      : Nat := 0
  alts     : List (Nat × Nat) := []
  admitted : Bool := false
  /-- SNOOP_MISS has been set for it (R192, R193, R280) -/
  missed   : Bool := false
  /-- the elements that have been evaluated as admit (R279, R283) -/
  passed   : List Elem := []
  /-- a default-class lookup has been journaled since SET_ADDRESS (R231) -/
  defHit   : Bool := false
  deriving DecidableEq, Repr

/-- A reservation of Shell cells for an endpoint's answer (R175, R176, R223). -/
structure Rsv where
  pod     : PodIx
  addr    : Nat
  ep      : Nat
  queue   : QueueIx
  cells   : Nat
  /-- packets still expected, and the charge and cells of each -/
  pkts    : Nat
  charge  : Nat
  perPkt  : Nat
  /-- OVERHEAD at the release, part of the charge of each packet (R205, R225) -/
  ovh     : Nat := 0
  /-- it answers a paced request: its data is not measured on arrival (R220) -/
  paced   : Bool := false
  /-- the charge is counted in OUTSTANDING; a policer was debited with it (R223) -/
  counted : Bool := false
  pol     : Option PolIx := none
  deriving DecidableEq, Repr

/-- A downstream payload whose header credit is withheld (R178). -/
structure CreditHold where
  pod : PodIx
  pkt : DownPkt
  deriving DecidableEq, Repr

/-! ### Queues, shapers, policers, pacing, the Endpoint Map (chapter 8) -/

/-- A packet stored for the upstream link. The source is a pod index, 16 for the MF, 17 for the hub itself. -/
structure UpPkt where
  src     : Nat
  addr    : Nat := 0
  ep      : Nat := 0
  dirIn   : Bool := true
  bytes   : Nat := 0
  /-- the charged length once it has been used (R205) -/
  charge  : Option Nat := none
  cells   : Nat := 0
  /-- cells of the UQ_0 reserve -/
  reserve : Nat := 0
  iso     : Bool := false
  damaged : Bool := false
  /-- the scrub found an uncorrectable error in one of its cells (R309), or in its descriptor (R307) -/
  marked  : Bool := false
  noDesc  : Bool := false
  /-- rank of its endpoint within UQ_0 (R216) -/
  rank    : Nat := 0
  /-- the pacing queue whose OUTSTANDING counts its charge until it starts (R223) -/
  counted : Option QueueIx := none
  /-- what the receiver gets where the packet arrives whole: answers of the MF and of the hub (R172, R216) -/
  say     : List Output := []
  /-- of an MF response, its sequence number (R371) -/
  respSeq : Option Nat := none
  /-- order of arrival over all queues (R181, R225) -/
  seq     : Nat := 0
  deriving DecidableEq, Repr

/-- One upstream queue with its shaper; tokens are in 2^-24 byte (R213-R218). -/
structure Uq where
  pkts    : List UpPkt := []
  deficit : Nat := 0
  visited : Bool := false
  tokens  : Int := 2048 * 16777216
  deriving DecidableEq, Repr

/-- One held request (R222-R224). -/
structure PaceReq where
  pod      : PodIx
  addr     : Nat
  ep       : Nat
  numP     : Nat
  deferred : Bool := false
  /-- it uses a pass: it waits for cells alone (R224) -/
  pass     : Bool := false
  /-- its policer's ACTION left PACE while it was held: it waits for cells and the gate alone (R225) -/
  free     : Bool := false
  since    : Nat := 0
  /-- since when it waits for cells (R175, R204) -/
  cellAt   : Option Nat := none
  deriving DecidableEq, Repr

/-- One pacing queue (R222-R224, R229). -/
structure Pq where
  reqs : List PaceReq := []
  out  : Nat := 0
  deriving DecidableEq, Repr

/-- One policer: tokens in 2^-24 byte, and when it last ceased to exceed (R220, R221). -/
structure Policer where
  tokens : Int := 2048 * 16777216
  lastEx : Option Nat := none
  deriving DecidableEq, Repr

/-- What a lookup in the Endpoint Map gives (R208): queue, pacing, secure flag, policer, transfer type where known, and whether
the default class was taken. -/
structure MapHit where
  queue  : QueueIx
  pace   : Bool
  secure : Bool
  pol    : Option PolIx
  cls    : Option Nat
  dflt   : Bool
  deriving DecidableEq, Repr

/-- The packet engine (R205-R232). -/
structure Sched where
  uq       : Vector Uq 64 := Vector.replicate 64 {}
  pq       : Vector Pq 64 := Vector.replicate 64 {}
  pol      : Vector Policer 128 := Vector.replicate 128 {}
  rr       : Nat := 4
  lastQ    : QueueIx := 0
  seq      : Nat := 0
  /-- the packet on the upstream link, with its queue -/
  sending  : Option (QueueIx × UpPkt) := none
  rsvs     : List Rsv := []
  /-- endpoints with a pass (R224): address and endpoint -/
  passes   : List (Nat × Nat) := []
  credit   : Option CreditHold := none
  /-- a status change report found no room in UQ_0 and is due (R16, R173) -/
  statusDue : Bool := false
  devs     : List Dev := []
  /-- map entries by index, unlisted 0 (R207) -/
  mapA     : List (Nat × Word) := []
  mapB     : List (Nat × Word) := []
  mapActB  : Bool := false
  flipSeq  : Nat := 0
  deriving DecidableEq, Repr

/-! ### Timebase and gate lists (chapter 9) -/

/-- The discipline of the timebase (R233-R237, R246). The trim is in 0.01 ppm, the carried fraction in 2^-24 tick. -/
structure Timing where
  unsync   : Bool := true
  holdover : Bool := false
  srcUsed  : Nat := 0
  phaseErr : Int := 0
  hiLatch  : Word := 0
  trim     : Int := 0
  frac     : Int := 0
  lastStep : Int := 0
  holdAt   : Nat := 0
  /-- the phase error the last used synchronisation left, in ns, and its time (R235) -/
  loopErr  : Int := 0
  usedAt   : Nat := 0
  deriving DecidableEq, Repr

/-- One direction of the gate lists (R238-R244). Entry words are kept by word index 4 i + w, unlisted the reset word. -/
structure Gate where
  admin    : List (Nat × Word) := []
  oper     : List (Nat × Word) := []
  operLen  : Nat := 0
  operCyc  : Nat := 0
  valid    : Bool := false
  origin   : BitVec 64 := 0
  pending  : Bool := false
  switchT  : BitVec 64 := 0
  adjK     : Nat := 0
  adjusted : Bool := false
  deriving DecidableEq, Repr

/-- One gate-list entry: the gate of queue n in bit n, and its interval in ticks (R238). -/
structure GateEnt where
  gates : BitVec 64
  iv    : Nat
  deriving DecidableEq, Repr

/-! ### Edura Cascade (chapter 10) -/

/-- A reliable frame that has been sent and is not acknowledged (R256): its SEQ and its repeats so far. -/
structure CsbSent where
  seq     : Nat
  frame   : CsbFrame
  repeats : Nat := 0
  deriving DecidableEq, Repr

/-- The cascade sideband of one pod (R254-R263, R275). -/
structure CsbLink where
  /-- LINK_STATE: 0 none, 1 primary up, 2 standby up, 3 lost -/
  state    : Nat := 0
  isParent : Bool := false
  peerId   : Nat := 0
  delay    : Nat := 0
  txSeq    : Nat := 0
  rxSeq    : Nat := 0
  /-- a frame has been received, so that ACK holds -/
  rxAny    : Bool := false
  queue    : List CsbFrame := []
  sent     : List CsbSent := []
  /-- frames to repeat before any other of their tier (R256) -/
  again    : List CsbSent := []
  /-- the parent waits for the child's frame (R257) -/
  turn     : Bool := false
  /-- t1, t2 and t3 of the exchange under way, in ns (R263) -/
  t1       : Nat := 0
  t2       : Nat := 0
  t3       : Nat := 0
  /-- IDs reached through this child segment, with their levels (R262) -/
  subtree  : List (Nat × Nat) := []
  /-- die identifiers whose HELLO came up this child segment last, for a standby link or not: the way of their ASSIGN -/
  uids     : List (BitVec 64 × Bool) := []
  /-- the clock from which firmware frames are within FW_SHARE of the segment's time (R269) -/
  fwFree   : Nat := 0
  deriving DecidableEq, Repr

/-- What the manager knows of one worker (R260-R271, R275). Powers are in 0.25 W units. -/
structure Worker where
  /-- W_STATE: 0 unknown, 1 joined, 2 lost and holding, 3 lost on its floor -/
  state    : Nat := 0
  /-- the identifier the ID table holds for this ID (R260) -/
  uid      : Option (BitVec 64) := none
  level    : Nat := 0
  parent   : Nat := 0
  subDepth : Nat := 0
  stby     : Bool := false
  stbyParent : Nat := 0
  fwVer    : Word := 0
  floor    : Nat := 0
  hold     : Nat := 0
  tLoss    : Nat := 0
  ackWait  : Bool := false
  /-- a DEMAND has been received since the join (R265) -/
  granted  : Bool := false
  /-- a GRANT_ACK has been received since the join (R266) -/
  acked    : Bool := false
  target   : Nat := 0
  issued   : Nat := 0
  held     : Nat := 0
  demand   : Vector Nat 8 := Vector.replicate 8 0
  charges  : Nat := 0
  /-- W_FW: 0 none, 1 LOAD, 2 READY, 3 RUNNING, 4 FAILED, 5 DONE -/
  fw       : Nat := 0
  /-- it takes part in the present distribution (R269) -/
  named    : Bool := false
  /-- FW_ACTIVATE has been sent to it -/
  activated : Bool := false
  deriving DecidableEq, Repr

/-- A firmware distribution as the manager runs it (R269, R270). -/
structure FwDist where
  /-- FW_PHASE: 0 idle, 1 LOAD, 2 REPAIR, 3 ACTIVATE, 4 done, 5 HALTED -/
  phase   : Nat := 0
  bank    : Bank := .a
  tag     : Nat := 0
  version : Word := 0
  blocks  : Nat := 0
  /-- the next block to broadcast -/
  next    : Nat := 0
  curId   : Nat := 0
  deriving DecidableEq, Repr

/-- An image load as a worker sees it (R269): the offer, the blocks held, whether verification runs. -/
structure FwLoad where
  offer     : Option FwOffer := none
  got       : List Nat := []
  verifying : Bool := false
  activating : Bool := false
  /-- the report of the running version is not acknowledged yet (R272) -/
  report    : Bool := false
  deriving DecidableEq, Repr

/-- The cascade unit (R251-R278, R442). -/
structure Csb where
  /-- STRAP: 0 AUTO, 1 WORKER, 2 MANAGER (R251) -/
  strap     : Nat := 0
  /-- ROLE_NOW: 0 unresolved, 1 WORKER, 2 MANAGER (R252) -/
  role      : Nat := 0
  joined    : Bool := false
  myId      : Nat := 0
  level     : Nat := 0
  parentPod : UpIx := 0
  parentUp  : Bool := false
  stby      : Nat := 0
  /-- the level the standby link gives (R252, R261) -/
  stbyLevel : Nat := 0
  mgrLost   : Bool := false
  tree      : BitVec 64 := 0
  links     : Vector CsbLink 16 := Vector.replicate 16 {}
  workers   : Vector Worker 64 := Vector.replicate 64 {}
  minShort  : Bool := false
  raiseWait : Bool := false
  lossAt    : Nat := 0
  /-- GRANT_ACK waits until the charges fit the grant (R267) -/
  ackDue    : Bool := false
  /-- when DEMAND was last sent; a refused claim asks for one (R264) -/
  demandAt  : Option Nat := none
  demandDue : Bool := false
  /-- the latest refused claim of each consumer and its time (R264) -/
  refusals  : Vector (Option (Nat × Nat)) 20 := Vector.replicate 20 none
  /-- journal forwarding: the absolute number of the first unacknowledged record, the records of the frame that is
  unacknowledged, the records sent in the running second (R268) -/
  jcolPos   : Nat := 0
  jcolSent  : List (Nat × Rec) := []
  jcolRate  : Nat := 0
  jcolSince : Nat := 0
  /-- records overwritten before they were forwarded, not yet counted (R268) -/
  jcolLost  : Nat := 0
  /-- the manager's acknowledgement waits for the stores: worker, last record, the records as they are stored (R268) -/
  jcolAcks  : List (Nat × Nat × List Rec) := []
  dist      : FwDist := {}
  load      : FwLoad := {}
  deriving DecidableEq, Repr

/-! ### Security (chapter 11) -/

/-- AUTH_STATE (R303). -/
inductive AuthState where
  | none | running | passed | failed | timeout
  deriving DecidableEq, Repr

/-- The step of an exchange (R284): a request is sent and its response awaited, or the signature engine works on the chain or
on the CHALLENGE_AUTH. -/
inductive AuthStep where
  | idle | digests | certificate | verifyChain | challenge | verifySignature
  deriving DecidableEq, Repr

/-- The firewall and the authentication initiator of one pod (R279-R288, R303). -/
structure Fwl where
  /-- VERDICT: 0 none, 1 pending, 2 admitted, 3 denied -/
  verdict  : Nat := 0
  auth     : AuthState := .none
  denyCause : Nat := 0
  denyRule : Nat := 0
  authErr  : Nat := 0
  rootUsed : Nat := 0
  blocked  : List Nat := []
  /-- the port is disabled for POLICY (R281) -/
  policy   : Bool := false
  step     : AuthStep := .idle
  since    : Nat := 0
  /-- the chain: bytes received, its length, slot 0's digest -/
  got      : Nat := 0
  total    : Nat := 0
  digest   : List Word := []
  /-- the root entry the chain verified under (R284) -/
  root     : Nat := 0
  /-- the digest of a chain verified at an earlier pass on this attach (R284) -/
  verified : Option (List Word) := none
  /-- an exchange is to start at the next PDE.READY (R286) -/
  restart  : Bool := false
  /-- SECURE_PORT was set with a device already admitted: the exchange does not withdraw PORT_CONNECTION (R301) -/
  keep     : Bool := false
  deriving DecidableEq, Repr

/-- Where an answer of the responder goes (R289): over PD on an upstream pod, or over MF EP0. -/
inductive RespTo where
  | pd (u : UpIx)
  | mf
  deriving DecidableEq, Repr

/-- Work of the signature engine, served in order of arrival (R288). -/
inductive SigJob where
  /-- the chain or the CHALLENGE_AUTH of a pod (R284); the attach it belongs to -/
  | chain (p : PodIx)
  | challenge (p : PodIx)
  /-- signing for the responder (R289) -/
  | respond (dest : RespTo) (slot : Nat) (nonce : List Word)
  /-- verification of the idle bank by a mailbox job, or of a distributed image (R295) -/
  | firmware (job : Option (Fin 8))
  /-- verification of a policy image (R295, R378) -/
  | policy (job : Fin 8) (length : Nat)
  /-- a debug token over JTAG or by command (R298) -/
  | token (job : Option (Fin 8)) (scope : Nat)
  /-- an attestation report (R300) -/
  | attest (job : Fin 8) (nonce : List (BitVec 8))
  /-- key generation (R390) -/
  | keyGen (job : Fin 8) (slot : Fin 32) (usage : Nat)
  deriving DecidableEq, Repr

/-- The usage of a key slot (R292). -/
inductive KeyUse where
  | sign | verify | aes | nonceSeed
  deriving DecidableEq, Repr

/-- A key slot's contents: its use and its 256 bits (R292). -/
structure Key where
  use   : KeyUse
  value : BitVec 256
  deriving DecidableEq, Repr

/-- A sealed blob in MRAM (R291, R292): the key it holds, and the fuse value of DBG_OPENED that entered its sealing key; the hardware
unique key, which enters it too, is the die's and never changes. -/
structure Blob where
  key    : Key
  opened : Bool
  deriving DecidableEq, Repr

/-- Where the boot ROM stands (R294): it verifies the active bank, or the other one; Umuri starts; Umuri is in service, or the MP
stays in the boot ROM. -/
inductive BootStep where
  | verify | second | start | done
  deriving DecidableEq, Repr

/-- The security unit (R285-R300, R304). -/
structure Sec where
  bootOk    : Bool := false
  bootBank  : Bank := .a
  boot      : BootStep := .verify
  /-- Umuri has not been in service since the reset: the stored configuration is still to be applied (R461) -/
  coldBoot  : Bool := true
  dbgOpened : Bool := false
  dbgOpenNow : Bool := false
  erasePending : Bool := false
  sealFail  : Bool := false
  /-- RESP_BUSY: the transport whose CHALLENGE is being signed -/
  respBusy  : Option RespTo := none
  secVerRun : Nat := 0
  secVerMin : Nat := 0
  runVersion : Word := 0
  keys      : Vector (Option Key) 32 := Vector.replicate 32 none
  /-- slots with a sealed blob in MRAM (R292) -/
  blobs     : Vector (Option Blob) 32 := Vector.replicate 32 none
  /-- SLOT public keys imported or generated, by slot -/
  publics   : List (Nat × List (BitVec 8)) := []
  /-- number of nonces drawn: the present DBG_NONCE is the model's free value of this number (R298) -/
  nonceNo   : Nat := 0
  utcValid  : Bool := false
  /-- per master, when a denied access was last journaled (R296) -/
  denyAt    : Vector (Option Nat) 6 := Vector.replicate 6 none
  engine    : List SigJob := []
  /-- the step of R299 under way, 0 none; pages of the sealed region written; the erase began before this boot -/
  eraseStep : Nat := 0
  erasePage : Nat := 0
  eraseAtBoot : Bool := false
  eraseJobs : List (Fin 8) := []
  /-- the last attestation report (R300, R390) -/
  report    : Option (List (BitVec 8)) := none
  /-- the staged policy image; the digest of the last applied one (R378, R390) -/
  staging   : List (BitVec 8) := []
  policyDigest : List Word := []
  /-- OEM certificate chains of slots 1-3 by slot and bytes (R289, R390) -/
  chains    : List (Nat × List (BitVec 8)) := []
  deriving DecidableEq, Repr

/-! ### Power domains, wake and clocks (chapter 13) -/

/-- The six states of a power domain (R333), in the order of their codes (R355). -/
inductive DomState where
  | on | draining | entering | ret | off | exiting
  deriving DecidableEq, Repr

/-- A target of a request (R343), in the order of the PEND_TGT codes (R355). -/
inductive DomTgt where
  | none | ret | off | on
  deriving DecidableEq, Repr

/-- One power domain (R332-R342, R355). -/
structure Dom where
  state   : DomState := .on
  /-- the target of the entry under way -/
  target  : DomTgt := .none
  /-- the target of a request with HOLD 1 that waits for PLAN_GO (R343) -/
  pend    : DomTgt := .none
  hold    : Bool := false
  /-- the target of a request that waits for its turn or for the end of an exit (R334, R353); whether a plan gave the one that runs -/
  queued  : DomTgt := .none
  planned : Bool := false
  /-- the commit point of the entry has passed (R337) -/
  committed : Bool := false
  drainAt : Nat := 0
  /-- when RET or OFF was reached; the state the exit left; its source -/
  since   : Nat := 0
  prev    : DomState := .on
  source  : Nat := 0
  /-- when the exit started -/
  exitAt  : Nat := 0
  /-- the stay in RET or OFF that has ended, in ms (R358); the entry under way left RET (R333) -/
  stay    : Nat := 0
  fromRet : Bool := false
  /-- rails removed by the entry under way (R344) -/
  removed : Nat := 0
  /-- the first exit rail failure has been journaled (R340) -/
  failing : Bool := false
  refCode   : Nat := 0
  refOwner  : Nat := 0
  refDetail : Nat := 0
  refSeq    : Nat := 0
  deriving DecidableEq, Repr

/-- A job that waits for a domain transition (R390): its number, and whether it is a plan. -/
structure DomJob where
  job  : Fin 8
  dom  : Option DomIx
  deriving DecidableEq, Repr

/-- A register access of a master: its address and width code, and the word of a write (R399, R414). -/
structure BusAcc where
  m    : Master
  addr : Nat
  size : Nat
  word : Option (BitVec 64)
  deriving DecidableEq, Repr

/-- The domain sequencer, the Husk and the clocks (R334-R359). -/
structure Seq where
  /-- requests waiting for the entry under way to end, oldest first; the rest of a plan (R334, R343) -/
  waiting  : List DomIx := []
  plan     : List DomIx := []
  stopDom  : Nat := 31
  /-- register accesses held at their masters, in order: their domain is being entered (R334, R336) -/
  heldAcc  : List BusAcc := []
  jobs     : List DomJob := []
  /-- rails on; rails whose last request failed; rails still to be requested off by the entry under way, for that domain -/
  railOn   : BitVec 10 := BitVec.allOnes 10
  railFail : BitVec 10 := 0
  railsOff : List (Fin 10) := []
  offFor   : Option DomIx := none
  wakePend : BitVec 32 := 0
  /-- the domain a latched source 31 names (R353) -/
  wakeOn   : List DomIx := []
  /-- the wake-event FIFO: items, oldest first, each with the words not yet popped (R347) -/
  fifo     : List (List Word) := []
  /-- the Husk staging buffer; records lost from it (R348) -/
  staging  : List Rec := []
  stageLost : Nat := 0
  stageUns  : Bool := false
  /-- the first loss's timebase -/
  stageTb  : BitVec 64 := 0
  stretch  : Bool := false
  /-- T_STRETCH ran out: the first data byte is not acknowledged (R346) -/
  stretchNak : Bool := false
  pllLock  : Bool := false
  refOk    : Bool := false
  mpOnPll  : Bool := false
  fallback : Bool := false
  lostAt   : Nat := 0
  frcKhz   : Nat := 0
  lrcHz    : Nat := 0
  clkSeq   : Nat := 0
  deriving DecidableEq, Repr

/-- What holds the device in reset (R460, R463, R464): VDD_HUSK below its threshold, RST_N low, the die too hot. -/
structure Held where
  powerOn  : Bool := false
  rstLow   : Bool := false
  overTemp : Bool := false
  deriving DecidableEq, Repr

/-- Nothing holds the device in reset. -/
def Held.none : Held := {}

/-! ### The mailbox (chapter 14) -/

/-- A command message in a command slot (R360, R365). -/
structure Msg where
  opcode  : Nat
  tag     : BitVec 16
  payload : List (BitVec 8) := []
  deriving DecidableEq, Repr

/-- A held response (R360, R366): its sequence number, COMPLETION, payload, and whether it lies before the delivery pointer,
has been read to its end, or has been sent on CSB (R371, R375, R396). -/
structure Resp where
  opcode     : Nat
  tag        : BitVec 16
  seq        : Nat
  completion : Bool := false
  payload    : List (BitVec 8) := []
  delivered  : Bool := false
  /-- of a completion, its job number (R387) -/
  job        : Nat := 0
  deriving DecidableEq, Repr

/-- One ring (R364-R375, R396). -/
structure Ring where
  cmds     : List Msg := []
  running  : Option Msg := none
  /-- a ring clear met the running command: its response is discarded (R369) -/
  dropRun  : Bool := false
  resps    : List Resp := []
  nextSeq  : Nat := 0
  stalled  : Bool := false
  stallAt  : Nat := 0
  /-- SMBus: the read cursor, the open assembly (R374, R375) -/
  cursor   : Nat := 0
  asm      : List (BitVec 8) := []
  asmOpen  : Bool := false
  /-- when a command of this ring was last taken, as a count of commands taken (R381) -/
  served   : Nat := 0
  deriving DecidableEq, Repr

/-- How a job ended (R363, R368): status, detail, result data. -/
structure Outcome where
  status : Nat
  detail : Nat := 0
  data   : List (BitVec 8) := []
  deriving DecidableEq, Repr

/-- A forwarded command (R391): the worker, the inner tag. -/
structure Fwd where
  worker : Nat
  tag    : BitVec 16
  deriving DecidableEq, Repr

/-- A running job (R368). -/
structure Job where
  ring    : RingIx
  opcode  : Nat
  tag     : BitVec 16
  /-- a ring clear discards its completion (R369) -/
  drop    : Bool := false
  done    : Option Outcome := none
  fwd     : Option Fwd := none
  deriving DecidableEq, Repr

/-- A policy run on ring 5 (R378): its job, the image length, the messages still to run, the commands run. -/
structure PolicyRun where
  job    : Fin 8
  length : Nat
  rest   : List (List (BitVec 8))
  run    : Nat := 0
  deriving DecidableEq, Repr

/-- The MBX block (R360-R398). -/
structure Mbx where
  rings      : Vector Ring 6 := Vector.replicate 6 {}
  jobs       : Vector (Option Job) 8 := Vector.replicate 8 none
  umuriUp    : Bool := false
  bootRomOnly : Bool := false
  restarting : Bool := false
  taken      : Nat := 0
  policy     : Option PolicyRun := none
  /-- the page halves held by FW.WRITE, each of another offset: offset and bytes (R390) -/
  halves     : List (Nat × List (BitVec 8)) := []
  deriving DecidableEq, Repr

/-! ### Register access (chapters 15 and 16) -/

/-- A captured access (R413, R426): address, master ID, SIZE, write. -/
structure AccCap where
  addr   : Nat
  master : Nat
  size   : Nat
  write  : Bool
  deriving DecidableEq, Repr

/-- The GLOBAL block's own state (R403, R413, R419, R426); a capture is armed while its status bit is clear. -/
structure Glob where
  pending  : BitVec 16 := 0
  withheld : BitVec 16 := 0
  snapSeq  : Nat := 0
  snapTb   : BitVec 64 := 0
  lockCap  : Option AccCap := none
  accCap   : Option AccCap := none
  deriving DecidableEq, Repr

/-! ### The whole block -/

/-- The block without the queue of waiting commands. Register words, event bits, counters and map entries are kept by address
in strictly rising lists that leave out what an unlisted address reads as. -/
structure Hub where
  /-- 10 ns ticks since the last reset (the model's own clock) -/
  clk      : Nat := 0
  /-- 10 ns ticks from power-on to the last reset: HUSK_TIME is not reset while VDD_HUSK is present (R233) -/
  clkBase  : Nat := 0
  /-- the timebase TB (R233) -/
  tb       : BitVec 64 := 0
  timing   : Timing := {}
  gates    : Vector Gate 2 := Vector.replicate 2 {}
  /-- active copies and shadows of the writable registers by offset (R399, R403) -/
  active   : List (Nat × Word) := []
  shadow   : List (Nat × Word) := []
  /-- RC bits and VALID bits by offset (R406, R407) -/
  evts     : List (Nat × Word) := []
  /-- the 64-bit counters and the holding region, by slot address (R431) -/
  counters : List (Nat × Nat) := []
  holding  : List (Nat × Nat) := []
  tcs      : Vector Tc 16 := Vector.replicate 16 {}
  pdes     : Vector Pde 16 := Vector.replicate 16 {}
  captures : Vector Capture 16 := Vector.replicate 16 {}
  links    : Vector Link 16 := Vector.replicate 16 {}
  vbs      : Vector Efuse 20 := Vector.replicate 20 {}
  outlets  : Vector Outlet 4 := Vector.replicate 4 {}
  bud      : Budget := {}
  rl       : Rlink := {}
  upsel    : Upsel := {}
  sched    : Sched := {}
  nvm      : Nvm := {}
  doms     : Vector Dom 24 := Vector.replicate 24 {}
  seq      : Seq := {}
  csb      : Csb := {}
  fwls     : Vector Fwl 16 := Vector.replicate 16 {}
  sec      : Sec := {}
  mbx      : Mbx := {}
  glob     : Glob := {}
  /-- what holds the device in reset, if anything -/
  held     : Held := .none
  /-- the outputs of the command that ran last -/
  out      : List Output := []
  /-- the model's own counter of free values used -/
  freeCtr  : Nat := 0
  deriving DecidableEq, Repr

/-- The whole machine: the block, and the commands that wait, first in, first out. -/
structure State where
  hub     : Hub := {}
  pending : List Instr := []
  deriving DecidableEq, Repr

/-- No command of this block ends the run: every event and every access completes, and failures are recorded in registers
(chapter 15). The type has the one constructor the interface asks for a name of; nothing raises it. Safe. -/
inductive Fault where
  /-- raised by nothing -/
  | never
  deriving DecidableEq, Repr

/-- What the model refuses. -/
inductive Refusal where
  /-- the command has no meaning in the model yet; raised by no meaning. Safe. -/
  | notModelled (mnemonic : String)
  deriving DecidableEq, Repr

/-- The pods' connection machines right after reset (R59, R61): D pods are source only, UA and UB dual-role with Try.SRC,
starting as sink. -/
def tcsReset : Vector Tc 16 :=
  Vector.ofFn fun p => if 2 ≤ p.val then {} else { state := .unattachedSnk, role := 0, trySrc := true }

/-- The block right after reset: RST_N has risen, every domain is ON, the pods are unattached, the boot ROM runs (R424, R461). -/
def Hub.reset : Hub := { tcs := tcsReset }

/-- The machine right after reset; no command waits. -/
def State.reset : State := { hub := Hub.reset, pending := [] }

end Sys2Proof.Machine
end

