-- ==== Sys2Proof/Machine/Ops.lean ====
section
/-! DEFINITION. The named operations on the state: sparse maps in canonical form, accessors of the parts, register words,
event bits, counters and outputs. -/

namespace Sys2Proof.Machine

/-! #### Sparse maps: strictly rising keys, no entry equal to what an unlisted key reads as -/

/-- The value at a key; `d` is what an unlisted key reads as. -/
def smGet {α : Type} (d : Nat → α) (m : List (Nat × α)) (k : Nat) : α :=
  match m with
  | [] => d k
  | (a, v) :: rest => if a = k then v else smGet d rest k

/-- The map without a key. -/
def smDel {α : Type} (m : List (Nat × α)) (k : Nat) : List (Nat × α) :=
  match m with
  | [] => []
  | (a, v) :: rest => if a = k then smDel rest k else (a, v) :: smDel rest k

/-- A key put in its place. -/
def smIns {α : Type} (m : List (Nat × α)) (k : Nat) (v : α) : List (Nat × α) :=
  match m with
  | [] => [(k, v)]
  | (a, w) :: rest => if a < k then (a, w) :: smIns rest k v else (k, v) :: (a, w) :: rest

/-- The map with the value at a key set; the default value is not listed. -/
def smSet {α : Type} [DecidableEq α] (d : Nat → α) (m : List (Nat × α)) (k : Nat) (v : α) : List (Nat × α) :=
  if v = d k then smDel m k else smIns (smDel m k) k v

/-- The canonical form: keys at or above `lo` and strictly rising, no listed default. -/
def smWf {α : Type} [DecidableEq α] (d : Nat → α) (lo : Nat) (m : List (Nat × α)) : Bool :=
  match m with
  | [] => true
  | (a, v) :: rest => decide (lo ≤ a) && decide (v ≠ d a) && smWf d (a + 1) rest

/-! #### Numbers -/

/-- 10 ns ticks in one second and in one millisecond. -/
def ticksPerSecond : Nat := 100000000

/-- 10 ns ticks in one millisecond. -/
def ticksPerMs : Nat := 100000

/-- Milliseconds from `since` to `now` in 10 ns ticks. -/
def msSince (now since : Nat) : Nat := (now - since) / 100000

/-- Two little-endian bytes of a number, saturating. -/
def le16 (n : Nat) : List Nat := let v := min n 0xFFFF; [v % 256, v / 256]

/-- Four little-endian bytes of a number, saturating. -/
def le32 (n : Nat) : List Nat :=
  let v := min n 0xFFFFFFFF; [v % 256, v / 256 % 256, v / 65536 % 256, v / 16777216]

/-- The low `bits` bits of an integer in two's complement. -/
def twos (bits : Nat) (i : Int) : Nat := (i % (2 ^ bits : Nat)).toNat

/-- An integer held between two bounds. -/
def clampInt (lo hi i : Int) : Int := max lo (min hi i)

/-- A 12-bit two's complement field of a signed value, saturating (R146). -/
def int12 (i : Int) : Nat := twos 12 (clampInt (-2048) 2047 i)

/-- Pip, the word an empty FIFO reads as (R99). -/
def pip : Word := 0xE0000000

/-! #### Indices and addresses (R12, R422, R428, R429) -/

/-- The path of a pod. -/
def podPath (p : PodIx) : PathIx := ⟨p.val, by omega⟩

/-- The path of an outlet. -/
def outPath (o : OutIx) : PathIx := ⟨16 + o.val, by omega⟩

/-- The pod of a path, if it is a pod's. -/
def pathPod (x : PathIx) : Option PodIx := if h : x.val < 16 then some ⟨x.val, h⟩ else none

/-- The outlet of a path, if it is an outlet's. -/
def pathOut (x : PathIx) : Option OutIx := if 16 ≤ x.val then some ⟨x.val - 16, by omega⟩ else none

/-- The RLINK owner number of a path: 0-15 pod, 16-19 outlet + 16 (R169). -/
def pathOwner (x : PathIx) : Nat := x.val

/-- A D pod: pod index 2-15 (R12). -/
def isD (p : PodIx) : Bool := 2 ≤ p.val

/-- The pod of an upstream index. -/
def upPod (u : UpIx) : PodIx := ⟨u.val, by omega⟩

/-- The upstream index of a pod, if it is UA or UB. -/
def podUp (p : PodIx) : Option UpIx := if h : p.val < 2 then some ⟨p.val, h⟩ else none

/-- The other upstream pod. -/
def upOther (u : UpIx) : UpIx := 1 - u

/-- The domain of a pod (R332). -/
def podDom (p : PodIx) : DomIx := ⟨p.val, by omega⟩

/-- The domains by name (R332). -/
def domHusk : DomIx := 16
/-- BUS. -/
def domBus : DomIx := 17
/-- NVM. -/
def domNvm : DomIx := 18
/-- SEC. -/
def domSec : DomIx := 19
/-- MP. -/
def domMp : DomIx := 20
/-- PE. -/
def domPe : DomIx := 21
/-- CSB. -/
def domCsb : DomIx := 22
/-- OUT. -/
def domOut : DomIx := 23

/-- The base of a pod's block. -/
def podBase (p : PodIx) : Nat := 0x10000 + p.val * 0x1000

/-- The base of the VB registers of a path. -/
def vbBase (x : PathIx) : Nat := if x.val < 16 then 0x10400 + x.val * 0x1000 else 0x20000 + (x.val - 16) * 0x400

/-- The base of an outlet's block. -/
def outBase (o : OutIx) : Nat := 0x20000 + o.val * 0x400

/-- Source blocks of Seedbank records: a register base divided by 16 (R316). -/
def srcTc (p : PodIx) : Nat := podBase p / 16
/-- The PDE sub-block. -/
def srcPd (p : PodIx) : Nat := (podBase p + 0x200) / 16
/-- The VB sub-block. -/
def srcVb (x : PathIx) : Nat := vbBase x / 16
/-- The LINK sub-block. -/
def srcLink (p : PodIx) : Nat := (podBase p + 0x600) / 16
/-- The FWL sub-block. -/
def srcFwl (p : PodIx) : Nat := (podBase p + 0xC00) / 16
/-- RLINK. -/
def srcRl : Nat := 0x400
/-- BUDGET. -/
def srcBud : Nat := 0x2200
/-- PE. -/
def srcPe : Nat := 0x3000
/-- GATE. -/
def srcGate : Nat := 0x4800
/-- TIME. -/
def srcTime : Nat := 0x4C00
/-- SEC. -/
def srcSec : Nat := 0x6000
/-- CSB. -/
def srcCsb : Nat := 0x7000
/-- NVM. -/
def srcNvm : Nat := 0x7800
/-- MBX. -/
def srcMbx : Nat := 0x7C00
/-- DOM. -/
def srcDom : Nat := 0x200
/-- HUSK. -/
def srcHusk : Nat := 0x100
/-- CLK. -/
def srcClk : Nat := 0x300
/-- GLOBAL. -/
def srcGlobal : Nat := 0

/-! #### Counters (R431) -/

/-- A counter of a pod, by its start in the pod's region. -/
def cntPod (p : PodIx) (start i : Nat) : Nat := 0x90000 + p.val * 0x400 + start + 8 * i
/-- The i-th TC counter (R68). -/
def cntTc (p : PodIx) (i : Nat) : Nat := cntPod p 0 i
/-- The i-th PD counter (R112). -/
def cntPd (p : PodIx) (i : Nat) : Nat := cntPod p 0x80 i
/-- The i-th VB counter of a path (R152). -/
def cntVb (x : PathIx) (i : Nat) : Nat :=
  if x.val < 16 then 0x90000 + x.val * 0x400 + 0x100 + 8 * i else 0x94000 + (x.val - 16) * 0x80 + 8 * i
/-- A counter of an outlet's region. -/
def cntOut (o : OutIx) (i : Nat) : Nat := 0x94000 + o.val * 0x80 + 8 * i
/-- The i-th LINK counter (R204). -/
def cntLink (p : PodIx) (i : Nat) : Nat := cntPod p 0x180 i
/-- The i-th FWL counter (R306). -/
def cntFwl (p : PodIx) (i : Nat) : Nat := cntPod p 0x280 i
/-- The i-th counter of an upstream queue. -/
def cntUq (n : QueueIx) (i : Nat) : Nat := 0x95000 + n.val * 0x40 + 8 * i
/-- The i-th counter of a pacing queue; PQ_0 has none. -/
def cntPq (n : QueueIx) (i : Nat) : Nat := 0x96000 + n.val * 0x20 + 8 * i
/-- The i-th counter of a policer. -/
def cntPol (m : PolIx) (i : Nat) : Nat := 0x97000 + m.val * 0x40 + 8 * i
/-- The i-th counter of the map, Shell, TIME and GATE group. -/
def cntMap (i : Nat) : Nat := 0x99000 + 8 * i
/-- The i-th counter of R171. -/
def cntBud (i : Nat) : Nat := 0x99100 + 8 * i
/-- The i-th UPSEL counter. -/
def cntUpsel (i : Nat) : Nat := 0x99160 + 8 * i
/-- The i-th counter of a CSB link. -/
def cntCsbLink (p : PodIx) (i : Nat) : Nat := 0x99200 + p.val * 0x20 + 8 * i
/-- The i-th of the other CSB counters (R278). -/
def cntCsb (i : Nat) : Nat := 0x99400 + 8 * i
/-- The i-th SEC counter (R306). -/
def cntSec (i : Nat) : Nat := 0x99500 + 8 * i
/-- The i-th counter of R331. -/
def cntNvm (i : Nat) : Nat := 0x99600 + 8 * i
/-- The i-th counter of a ring. -/
def cntRing (r : RingIx) (i : Nat) : Nat := 0x99700 + r.val * 0x20 + 8 * i
/-- The i-th of the other MBX counters (R398). -/
def cntMbx (i : Nat) : Nat := 0x997C0 + 8 * i
/-- The i-th counter of a domain. -/
def cntDom (n : DomIx) (i : Nat) : Nat := 0x9A000 + n.val * 0x40 + 8 * i
/-- The wake counter of source s, and the three Husk counters from 24 on. -/
def cntHusk (s : Nat) : Nat := 0x9A600 + 8 * s
/-- LOCK_VIOL_CNT of a master. -/
def cntLock (m : Nat) : Nat := 0x9A800 + 8 * m
/-- SEC_DENY_CNT of a master. -/
def cntDeny (m : Nat) : Nat := 0x9A830 + 8 * m
/-- ACC_FAULT_CNT. -/
def cntAcc : Nat := 0x9A860

/-! #### Parts of the state -/

/-- The connection machine of a pod. -/
def Hub.tc (h : Hub) (p : PodIx) : Tc := h.tcs[p]
/-- The connection machine of a pod, changed. -/
def Hub.modTc (h : Hub) (p : PodIx) (f : Tc → Tc) : Hub := { h with tcs := h.tcs.set p (f h.tcs[p]) }
/-- The PD engine of a pod. -/
def Hub.pde (h : Hub) (p : PodIx) : Pde := h.pdes[p]
/-- The PD engine of a pod, changed. -/
def Hub.modPde (h : Hub) (p : PodIx) (f : Pde → Pde) : Hub := { h with pdes := h.pdes.set p (f h.pdes[p]) }
/-- The capture FIFO of a pod. -/
def Hub.capture (h : Hub) (p : PodIx) : Capture := h.captures[p]
/-- The capture FIFO of a pod, changed. -/
def Hub.modCapture (h : Hub) (p : PodIx) (f : Capture → Capture) : Hub :=
  { h with captures := h.captures.set p (f h.captures[p]) }
/-- The link of a pod. -/
def Hub.link (h : Hub) (p : PodIx) : Link := h.links[p]
/-- The link of a pod, changed. -/
def Hub.modLink (h : Hub) (p : PodIx) (f : Link → Link) : Hub := { h with links := h.links.set p (f h.links[p]) }
/-- The sequencer of a path. -/
def Hub.vb (h : Hub) (x : PathIx) : Efuse := h.vbs[x]
/-- The sequencer of a path, changed. -/
def Hub.modVb (h : Hub) (x : PathIx) (f : Efuse → Efuse) : Hub := { h with vbs := h.vbs.set x (f h.vbs[x]) }
/-- An outlet. -/
def Hub.outlet (h : Hub) (o : OutIx) : Outlet := h.outlets[o]
/-- An outlet, changed. -/
def Hub.modOut (h : Hub) (o : OutIx) (f : Outlet → Outlet) : Hub := { h with outlets := h.outlets.set o (f h.outlets[o]) }
/-- The outlet of a path; of a pod's path, an outlet at rest. -/
def Hub.outletOf (h : Hub) (x : PathIx) : Outlet :=
  match pathOut x with
  | some o => h.outlet o
  | none => {}
/-- The outlet of a path, changed. -/
def Hub.modOutlet (h : Hub) (x : PathIx) (f : Outlet → Outlet) : Hub :=
  match pathOut x with
  | some o => h.modOut o f
  | none => h
/-- A consumer of the budget. -/
def Hub.cons (h : Hub) (x : PathIx) : Consumer := h.bud.cons[x]
/-- The budget unit, changed. -/
def Hub.modBud (h : Hub) (f : Budget → Budget) : Hub := { h with bud := f h.bud }
/-- A consumer, changed. -/
def Hub.modCons (h : Hub) (x : PathIx) (f : Consumer → Consumer) : Hub :=
  h.modBud fun b => { b with cons := b.cons.set x (f b.cons[x]) }
/-- The regulator link, changed. -/
def Hub.modRl (h : Hub) (f : Rlink → Rlink) : Hub := { h with rl := f h.rl }
/-- A regulator slot, changed. -/
def Hub.modSlot (h : Hub) (n : Fin 32) (f : RlSlot → RlSlot) : Hub :=
  h.modRl fun l => { l with slots := l.slots.set n (f l.slots[n]) }
/-- The upstream selection, changed. -/
def Hub.modUpsel (h : Hub) (f : Upsel → Upsel) : Hub := { h with upsel := f h.upsel }
/-- The packet engine, changed. -/
def Hub.modSched (h : Hub) (f : Sched → Sched) : Hub := { h with sched := f h.sched }
/-- An upstream queue. -/
def Hub.uq (h : Hub) (n : QueueIx) : Uq := h.sched.uq[n]
/-- An upstream queue, changed. -/
def Hub.modUq (h : Hub) (n : QueueIx) (f : Uq → Uq) : Hub := h.modSched fun s => { s with uq := s.uq.set n (f s.uq[n]) }
/-- A pacing queue. -/
def Hub.pq (h : Hub) (n : QueueIx) : Pq := h.sched.pq[n]
/-- A pacing queue, changed. -/
def Hub.modPq (h : Hub) (n : QueueIx) (f : Pq → Pq) : Hub := h.modSched fun s => { s with pq := s.pq.set n (f s.pq[n]) }
/-- A policer. -/
def Hub.policer (h : Hub) (m : PolIx) : Policer := h.sched.pol[m]
/-- A policer, changed. -/
def Hub.modPol (h : Hub) (m : PolIx) (f : Policer → Policer) : Hub :=
  h.modSched fun s => { s with pol := s.pol.set m (f s.pol[m]) }
/-- A gate-list direction. -/
def Hub.gate (h : Hub) (d : DirIx) : Gate := h.gates[d]
/-- A gate-list direction, changed. -/
def Hub.modGate (h : Hub) (d : DirIx) (f : Gate → Gate) : Hub := { h with gates := h.gates.set d (f h.gates[d]) }
/-- The timebase discipline, changed. -/
def Hub.modTiming (h : Hub) (f : Timing → Timing) : Hub := { h with timing := f h.timing }
/-- The NVM unit, changed. -/
def Hub.modNvm (h : Hub) (f : Nvm → Nvm) : Hub := { h with nvm := f h.nvm }
/-- A power domain. -/
def Hub.dom (h : Hub) (n : DomIx) : Dom := h.doms[n]
/-- A power domain, changed. -/
def Hub.modDom (h : Hub) (n : DomIx) (f : Dom → Dom) : Hub := { h with doms := h.doms.set n (f h.doms[n]) }
/-- A domain is ON (R333). -/
def Hub.domOn (h : Hub) (n : DomIx) : Bool := (h.dom n).state == .on
/-- A domain's logic works: ON, or DRAINING with its transfers completing (R333, R334). -/
def Hub.domRuns (h : Hub) (n : DomIx) : Bool := (h.dom n).state == .on || (h.dom n).state == .draining
/-- An effect of a block whose domain works (R333). -/
def Hub.inDom (h : Hub) (n : DomIx) (f : Hub → Hub) : Hub := if h.domRuns n then f h else h
/-- CLK_PE runs: PE works and the fallback clocks are not in force (R352). -/
def Hub.peRuns (h : Hub) : Bool := h.domRuns domPe && !h.seq.fallback
/-- An effect on the data path of CLK_PE. -/
def Hub.inPe (h : Hub) (f : Hub → Hub) : Hub := if h.peRuns then f h else h
/-- The domain sequencer and the Husk, changed. -/
def Hub.modSeq (h : Hub) (f : Seq → Seq) : Hub := { h with seq := f h.seq }
/-- The cascade unit, changed. -/
def Hub.modCsb (h : Hub) (f : Csb → Csb) : Hub := { h with csb := f h.csb }
/-- The sideband of a pod. -/
def Hub.clink (h : Hub) (p : PodIx) : CsbLink := h.csb.links[p]
/-- The sideband of a pod, changed. -/
def Hub.modClink (h : Hub) (p : PodIx) (f : CsbLink → CsbLink) : Hub :=
  h.modCsb fun c => { c with links := c.links.set p (f c.links[p]) }
/-- A worker as the manager knows it. -/
def Hub.worker (h : Hub) (w : HubId) : Worker := h.csb.workers[w]
/-- A worker, changed. -/
def Hub.modWorker (h : Hub) (w : HubId) (f : Worker → Worker) : Hub :=
  h.modCsb fun c => { c with workers := c.workers.set w (f c.workers[w]) }
/-- The firewall of a pod. -/
def Hub.fwl (h : Hub) (p : PodIx) : Fwl := h.fwls[p]
/-- The firewall of a pod, changed. -/
def Hub.modFwl (h : Hub) (p : PodIx) (f : Fwl → Fwl) : Hub := { h with fwls := h.fwls.set p (f h.fwls[p]) }
/-- The security unit, changed. -/
def Hub.modSec (h : Hub) (f : Sec → Sec) : Hub := { h with sec := f h.sec }
/-- The mailbox, changed. -/
def Hub.modMbx (h : Hub) (f : Mbx → Mbx) : Hub := { h with mbx := f h.mbx }
/-- A ring. -/
def Hub.ring (h : Hub) (r : RingIx) : Ring := h.mbx.rings[r]
/-- A ring, changed. -/
def Hub.modRing (h : Hub) (r : RingIx) (f : Ring → Ring) : Hub :=
  h.modMbx fun m => { m with rings := m.rings.set r (f m.rings[r]) }
/-- A job, changed. -/
def Hub.modJob (h : Hub) (j : Fin 8) (f : Option Job → Option Job) : Hub :=
  h.modMbx fun m => { m with jobs := m.jobs.set j (f m.jobs[j]) }
/-- The GLOBAL block's state, changed. -/
def Hub.modGlob (h : Hub) (f : Glob → Glob) : Hub := { h with glob := f h.glob }

/-- A free value's number is used up. -/
def Hub.drawn (h : Hub) : Hub := { h with freeCtr := h.freeCtr + 1 }

/-! #### Performing a command -/

/-- The block before a command: the outputs of the last command are gone. -/
def Hub.quiet (h : Hub) : Hub := { h with out := [] }

/-- The machine with the block changed: the waiting commands stand, and so does what holds the device in reset. -/
def State.put (s : State) (h : Hub) : State := { s with hub := { h with held := s.hub.held } }

/-- A command acts on the block, whose outputs are those of this command; held in reset, the block does nothing (R460, R463,
R464). -/
def perform (s : State) (f : Hub → Hub) : Host.Outcome State Fault Refusal :=
  .next (s.put (if s.hub.held = .none then f s.hub.quiet else s.hub.quiet))

/-- A command that acts in reset as well, and may change what holds the device there. -/
def performAlways (s : State) (f : Hub → Hub) : Host.Outcome State Fault Refusal :=
  .next { s with hub := f s.hub.quiet }

/-- A command of a pod acts while the pod's domain works (R333). -/
def onPod (s : State) (p : PodIx) (f : Hub → Hub) : Host.Outcome State Fault Refusal := perform s fun h => h.inDom (podDom p) f

/-- The domain of a path: its pod's, or OUT (R332). -/
def pathDom (x : PathIx) : DomIx := if x.val < 16 then ⟨x.val % 24, by omega⟩ else domOut

/-- A command of a path acts while the path's domain works. -/
def onPath (s : State) (x : PathIx) (f : Hub → Hub) : Host.Outcome State Fault Refusal := perform s fun h => h.inDom (pathDom x) f

/-- A command of the data path acts while CLK_PE runs. -/
def onPe (s : State) (f : Hub → Hub) : Host.Outcome State Fault Refusal := perform s fun h => h.inPe f

/-- An output. -/
def Hub.emit (h : Hub) (o : Output) : Hub := { h with out := h.out ++ [o] }

/-! #### Register words -/

/-- The active copy of a register (R399). -/
def Hub.act (h : Hub) (off : Nat) : Word := smGet regReset h.active off

/-- The shadow of a register (R403). -/
def Hub.shd (h : Hub) (off : Nat) : Word := smGet regReset h.shadow off

/-- The active copy of a register, set. -/
def Hub.setAct (h : Hub) (off : Nat) (w : Word) : Hub := { h with active := smSet regReset h.active off w }

/-- The shadow of a register, set. -/
def Hub.setShd (h : Hub) (off : Nat) (w : Word) : Hub := { h with shadow := smSet regReset h.shadow off w }

/-- The event bits of a register. -/
def Hub.evtWord (h : Hub) (off : Nat) : Word := smGet (fun _ => 0) h.evts off

/-- The event bits of a register, set. -/
def Hub.setEvts (h : Hub) (off : Nat) (w : Word) : Hub := { h with evts := smSet (fun _ => 0) h.evts off w }

/-- An event bit is set by its event (R406). -/
def Hub.evt (h : Hub) (off bit : Nat) : Hub := h.setEvts off (h.evtWord off ||| BitVec.twoPow 32 bit)

/-- POD_p_TC_EVT (R62). -/
def Hub.tcEvt (h : Hub) (p : PodIx) (bit : Nat) : Hub := h.evt (podBase p + 0x0C) bit
/-- POD_p_PDE_EVT (R108). -/
def Hub.pdEvt (h : Hub) (p : PodIx) (bit : Nat) : Hub := h.evt (podBase p + 0x228) bit
/-- x_VB_EVT (R148). -/
def Hub.vbEvt (h : Hub) (x : PathIx) (bit : Nat) : Hub := h.evt (vbBase x + 0x34) bit
/-- BUD_EVT (R168). -/
def Hub.budEvt (h : Hub) (bit : Nat) : Hub := h.evt 0x22038 bit
/-- RL_EVT (R169). -/
def Hub.rlEvt (h : Hub) (bit : Nat) : Hub := h.evt 0x4008 bit
/-- POD_p_LINK_EVT (R201). -/
def Hub.linkEvt (h : Hub) (p : PodIx) (bit : Nat) : Hub := h.evt (podBase p + 0x614) bit
/-- UPSEL_EVT (R30). -/
def Hub.upEvt (h : Hub) (bit : Nat) : Hub := h.evt 0x107CC bit
/-- SHELL_EVT (R202). -/
def Hub.shellEvt (h : Hub) (bit : Nat) : Hub := h.evt 0x3000C bit
/-- SCHED_EVT (R227). -/
def Hub.schedEvt (h : Hub) (bit : Nat) : Hub := h.evt 0x30018 bit
/-- MAP_EVT (R227). -/
def Hub.mapEvt (h : Hub) (bit : Nat) : Hub := h.evt 0x30028 bit
/-- TIME_EVT (R246). -/
def Hub.timeEvt (h : Hub) (bit : Nat) : Hub := h.evt 0x4C014 bit
/-- CSB_EVT (R276). -/
def Hub.csbEvt (h : Hub) (bit : Nat) : Hub := h.evt 0x70010 bit
/-- POD_p_FWL_EVT (R303). -/
def Hub.fwlEvt (h : Hub) (p : PodIx) (bit : Nat) : Hub := h.evt (podBase p + 0xC08) bit
/-- SEC_EVT (R304). -/
def Hub.secEvt (h : Hub) (bit : Nat) : Hub := h.evt 0x60008 bit
/-- ECC_EVT (R326). -/
def Hub.eccEvt (h : Hub) (bit : Nat) : Hub := h.evt 0x78008 bit
/-- JNL_EVT (R327). -/
def Hub.jnlEvt (h : Hub) (bit : Nat) : Hub := h.evt 0x7804C bit
/-- HU_EVT (R329). -/
def Hub.huEvt (h : Hub) (bit : Nat) : Hub := h.evt 0x5014 bit
/-- DOM_EVT (R355). -/
def Hub.domEvt (h : Hub) (bit : Nat) : Hub := h.evt 0x2008 bit
/-- HUSK_EVT (R356). -/
def Hub.huskEvt (h : Hub) (bit : Nat) : Hub := h.evt 0x1024 bit
/-- CLK_EVT (R357). -/
def Hub.clkEvt (h : Hub) (bit : Nat) : Hub := h.evt 0x300C bit
/-- MBX_EVT (R395). -/
def Hub.mbxEvt (h : Hub) (bit : Nat) : Hub := h.evt 0x7C00C bit
/-- GLOBAL_EVT (R426). -/
def Hub.globEvt (h : Hub) (bit : Nat) : Hub := h.evt 0x60 bit
/-- GATE_d_EVT (R247). -/
def Hub.gateEvt (h : Hub) (d : DirIx) (bit : Nat) : Hub := h.evt (0x48030 + 0x40 * d.val) bit

/-- A counter (R419). -/
def Hub.cnt (h : Hub) (slot : Nat) : Nat := smGet (fun _ => 0) h.counters slot

/-- A counter advances; counters wrap at 2^64 (R419). -/
def Hub.bumpBy (h : Hub) (slot n : Nat) : Hub :=
  { h with counters := smSet (fun _ => 0) h.counters slot ((h.cnt slot + n) % 2 ^ 64) }

/-- A counter counts one event. -/
def Hub.bump (h : Hub) (slot : Nat) : Hub := h.bumpBy slot 1

/-! #### Parity holds and safe responses (R311-R314) -/

/-- A parity block is in its safe response. -/
def Hub.inSafe (h : Hub) (b : Nat) : Bool := h.nvm.faults.any fun f => f.safe && blockOf f.off == b

/-- The word the hardware works with: of a register whose block is in its safe response, the value in force at the fault; in
the PE block, its reset value (R313). -/
def Hub.cfg (h : Hub) (off : Nat) : Word :=
  match h.nvm.faults.find? fun f => f.safe && f.off == off with
  | some f => if blockOf off = 27 then regReset off else f.kept
  | none => h.act off

/-- A field of a register: `n` bits from bit `lo`. -/
def Hub.fld (h : Hub) (off lo n : Nat) : Nat := (h.cfg off).toNat / 2 ^ lo % 2 ^ n

/-- A bit of a register. -/
def Hub.flag (h : Hub) (off bit : Nat) : Bool := (h.cfg off).getLsbD bit

/-- A value outside its range acts as the nearest end (R410). -/
def within (lo hi v : Nat) : Nat := max lo (min hi v)

/-! #### Seedbank records -/

/-- The place of a record among those of its edge: pods by index, outlets by index, other blocks by parity block (R470). -/
def recRank (src : Nat) : Nat :=
  let b := blockOf (16 * src)
  if 6 ≤ b ∧ b ≤ 25 then b - 6 else 26 + b

/-- A record put among those that wait, in the order of R470 with those of the same edge and behind all others (R315). -/
def recInsert (r : Rec) : List Rec → List Rec
  | [] => [r]
  | x :: l => if x.tb = r.tb ∧ recRank r.src < recRank x.src then r :: x :: l else x :: recInsert r l

/-- HUSK_TIME: LRC cycles since power-on (R356), at the nominal 32 kHz of the model's clock. -/
def Hub.huskTime (h : Hub) : Nat := (h.clkBase + h.clk) / 3125 % 2 ^ 32

/-- A record raised with the timebase of its event (R315, R316, R470). One that goes to the Husk's staging buffer, NVM not being ON,
while PE is not ON carries HUSK_TIME in its place (R348). -/
def Hub.raiseAt (h : Hub) (tb : BitVec 64) (src code sev : Nat) (data : List Nat) : Hub :=
  let noTb := !h.domOn domPe && !h.domOn domNvm
  let r : Rec :=
    { tb := if noTb then 0 else tb, devId := 0, src := src, code := code, sev := sev
      flags := if h.timing.unsync || noTb then 2 else 0
      data := if noTb then data ++ List.replicate (12 - data.length) 0 ++ le32 h.huskTime else data }
  h.modNvm fun n => { n with raised := if !noTb && tb == h.tb then recInsert r n.raised else n.raised ++ [r] }

/-- A record raised now. -/
def Hub.raise (h : Hub) (src code sev : Nat) (data : List Nat) : Hub := h.raiseAt h.tb src code sev data

end Sys2Proof.Machine
end

