-- ==== Sys2Proof/Machine/Fields.lean ====
section
/-! DEFINITION. The programmable fields as the hardware uses them: the word in force, with a value outside its range acting as
the field table says (R410). -/

namespace Sys2Proof.Machine

/-- UPSEL_CTRL (R27): bit 0. -/
def Hub.upPref (h : Hub) : Bool := h.flag 0x107C0 0

/-- UPSEL_CTRL (R27): bit 1. -/
def Hub.failEn (h : Hub) : Bool := h.flag 0x107C0 1

/-- UPSEL_CTRL (R27): bits [15:4], 5-500. -/
def Hub.tFail (h : Hub) : Nat := within 5 500 (h.fld 0x107C0 4 12)

/-- POD_p_TC_CTRL (R59): bit 0. -/
def Hub.tcEn (h : Hub) (p : PodIx) : Bool := h.flag (podBase p + 0x0) 0

/-- POD_p_TC_CTRL (R59): bits [2:1]. -/
def Hub.tcRole (h : Hub) (p : PodIx) : Nat := h.fld (podBase p + 0x0) 1 2

/-- POD_p_TC_CTRL (R59): bit 3. -/
def Hub.tcTrySrc (h : Hub) (p : PodIx) : Bool := h.flag (podBase p + 0x0) 3

/-- POD_p_TC_CTRL (R59): bit 4. -/
def Hub.stbySense (h : Hub) (p : PodIx) : Bool := h.flag (podBase p + 0x0) 4

/-- POD_p_TC_CTRL (R59): bits [15:8], 1-60. -/
def Hub.tLockout (h : Hub) (p : PodIx) : Nat := within 1 60 (h.fld (podBase p + 0x0) 8 8)

/-- POD_p_TC_CTRL (R59): bits [19:16]. -/
def Hub.chatterThr (h : Hub) (p : PodIx) : Nat := h.fld (podBase p + 0x0) 16 4

/-- POD_p_TC_CTRL (R59): bits [23:20], 2-15. -/
def Hub.chatterDeb (h : Hub) (p : PodIx) : Nat := within 2 15 (h.fld (podBase p + 0x0) 20 4)

/-- POD_p_TC_CTRL (R59): bits [27:24], 2-12. -/
def Hub.vconnIlim (h : Hub) (p : PodIx) : Nat := within 2 12 (h.fld (podBase p + 0x0) 24 4)

/-- POD_p_MOIST_CTRL (R63): bit 0. -/
def Hub.moistEn (h : Hub) (p : PodIx) : Bool := h.flag (podBase p + 0x10) 0

/-- POD_p_MOIST_CTRL (R63): bits [7:4]. -/
def Hub.pinEn (h : Hub) (p : PodIx) : Nat := h.fld (podBase p + 0x10) 4 4

/-- POD_p_MOIST_CTRL (R63): bits [15:8], 10-100. -/
def Hub.wetThr (h : Hub) (p : PodIx) : Nat := within 10 100 (h.fld (podBase p + 0x10) 8 8)

/-- POD_p_MOIST_CTRL (R63): bits [19:16]. -/
def Hub.wetRel (h : Hub) (p : PodIx) : Nat := h.fld (podBase p + 0x10) 16 4

/-- POD_p_MOIST_CTRL (R63): bits [27:20], 5-100. -/
def Hub.rechk (h : Hub) (p : PodIx) : Nat := within 5 100 (h.fld (podBase p + 0x10) 20 8)

/-- POD_p_MOIST_CTRL (R63): bit 29. -/
def Hub.sbuLive (h : Hub) (p : PodIx) : Bool := h.flag (podBase p + 0x10) 29

/-- POD_p_BH_CTRL (R66): bits [7:0], 0-250. -/
def Hub.bhWin (h : Hub) (p : PodIx) : Nat := within 0 250 (h.fld (podBase p + 0x34) 0 8)

/-- POD_p_PDE_CTRL (R101): bit 0. -/
def Hub.pdEn (h : Hub) (p : PodIx) : Bool := h.flag (podBase p + 0x200) 0

/-- POD_p_PDE_CTRL (R101): bit 1. -/
def Hub.rev3En (h : Hub) (p : PodIx) : Bool := h.flag (podBase p + 0x200) 1

/-- POD_p_PDE_CTRL (R101): bit 2. -/
def Hub.ppsEn (h : Hub) (p : PodIx) : Bool := h.flag (podBase p + 0x200) 2

/-- POD_p_PDE_CTRL (R101): bit 3. -/
def Hub.eprEn (h : Hub) (p : PodIx) : Bool := h.flag (podBase p + 0x200) 3

/-- POD_p_PDE_CTRL (R101): bit 4. -/
def Hub.vconnSwapEn (h : Hub) (p : PodIx) : Bool := h.flag (podBase p + 0x200) 4

/-- POD_p_PDE_CTRL (R101): bits [6:5]. -/
def Hub.vconnPref (h : Hub) (p : PodIx) : Nat := h.fld (podBase p + 0x200) 5 2

/-- POD_p_PDE_CTRL (R101): bit 7. -/
def Hub.casEn (h : Hub) (p : PodIx) : Bool := h.flag (podBase p + 0x200) 7

/-- POD_p_PDE_CTRL (R101): bit 8. -/
def Hub.bistEn (h : Hub) (p : PodIx) : Bool := h.flag (podBase p + 0x200) 8

/-- POD_p_PDE_CTRL (R101): bit 9. -/
def Hub.alertEn (h : Hub) (p : PodIx) : Bool := h.flag (podBase p + 0x200) 9

/-- POD_p_PDE_CTRL (R101): bit 10. -/
def Hub.offerUpEn (h : Hub) (p : PodIx) : Bool := h.flag (podBase p + 0x200) 10

/-- POD_p_PDE_CTRL (R101): bits [19:16]. -/
def Hub.cblRetry (h : Hub) (p : PodIx) : Nat := h.fld (podBase p + 0x200) 16 4

/-- POD_p_PDE_CTRL (R101): bits [27:20], 1-100. -/
def Hub.tReoffer (h : Hub) (p : PodIx) : Nat := within 1 100 (h.fld (podBase p + 0x200) 20 8)

/-- POD_p_PDE_SRC_CFG (R102): bits [3:0]. -/
def Hub.fixEn (h : Hub) (p : PodIx) : Nat := h.fld (podBase p + 0x204) 0 4

/-- POD_p_PDE_SRC_CFG (R102): PDP_MAX in W; larger values act as 140 or 100. -/
def Hub.pdpMax (h : Hub) (p : PodIx) : Nat := min (if isD p then 140 else 100) (h.fld (podBase p + 0x204) 8 8)

/-- POD_p_PDE_SNK_CFG (R103): bits [4:0], 5-20. -/
def Hub.snkVmin (h : Hub) (p : PodIx) : Nat := within 5 20 (h.fld (podBase p + 0x208) 0 5)

/-- POD_p_PDE_SNK_CFG (R103): bits [9:5], 5-20. -/
def Hub.snkVmax (h : Hub) (p : PodIx) : Nat := within 5 20 (h.fld (podBase p + 0x208) 5 5)

/-- POD_p_PDE_SNK_CFG (R103): bits [16:10], 1-100. -/
def Hub.snkPmax (h : Hub) (p : PodIx) : Nat := within 1 100 (h.fld (podBase p + 0x208) 10 7)

/-- POD_p_PDE_SNK_CFG (R103): bits [23:17], 0-100. -/
def Hub.snkPmin (h : Hub) (p : PodIx) : Nat := within 0 100 (h.fld (podBase p + 0x208) 17 7)

/-- POD_p_PDE_SNK_CFG (R103): bits [27:24], 0-10. -/
def Hub.snkImax (h : Hub) (p : PodIx) : Nat := within 0 10 (h.fld (podBase p + 0x208) 24 4)

/-- POD_p_PDE_VIOL_CFG (R105): bits [3:0], 1-15. -/
def Hub.srToHr (h : Hub) (p : PodIx) : Nat := within 1 15 (h.fld (podBase p + 0x210) 0 4)

/-- POD_p_PDE_VIOL_CFG (R105): bits [7:4], 1-15. -/
def Hub.hrErr (h : Hub) (p : PodIx) : Nat := within 1 15 (h.fld (podBase p + 0x210) 4 4)

/-- POD_p_PDE_VIOL_CFG (R105): bits [11:8], 1-15. -/
def Hub.hrLock (h : Hub) (p : PodIx) : Nat := within 1 15 (h.fld (podBase p + 0x210) 8 4)

/-- POD_p_PDE_VIOL_CFG (R105): bits [17:12], 1-60. -/
def Hub.violQuiet (h : Hub) (p : PodIx) : Nat := within 1 60 (h.fld (podBase p + 0x210) 12 6)

/-- POD_p_CAP_CTRL (R110): bit 0. -/
def Hub.capEn (h : Hub) (p : PodIx) : Bool := h.flag (podBase p + 0x800) 0

/-- POD_p_CAP_CTRL (R110): bits [2:1]. -/
def Hub.sopMask (h : Hub) (p : PodIx) : Nat := h.fld (podBase p + 0x800) 1 2

/-- POD_p_CAP_CTRL (R110): bit 3. -/
def Hub.inclGoodcrc (h : Hub) (p : PodIx) : Bool := h.flag (podBase p + 0x800) 3

/-- x_VB_CTRL (R141): bits [2:0]. -/
def Hub.retryMax (h : Hub) (x : PathIx) : Nat := h.fld (vbBase x + 0x0) 0 3

/-- x_VB_CTRL (R141): bits [7:4], 1-8. -/
def Hub.ocMargin (h : Hub) (x : PathIx) : Nat := within 1 8 (h.fld (vbBase x + 0x0) 4 4)

/-- x_VB_CTRL (R141): bits [12:8], 12-30. -/
def Hub.fastMult (h : Hub) (x : PathIx) : Nat := within 12 30 (h.fld (vbBase x + 0x0) 8 5)

/-- x_VB_CTRL (R141): bits [19:16], 2-15. -/
def Hub.winUv (h : Hub) (x : PathIx) : Nat := within 2 15 (h.fld (vbBase x + 0x0) 16 4)

/-- x_VB_CTRL (R141): bits [23:20], 2-15. -/
def Hub.winOv (h : Hub) (x : PathIx) : Nat := within 2 15 (h.fld (vbBase x + 0x0) 20 4)

/-- x_VB_CTRL (R141): bit 24. -/
def Hub.dschEn (h : Hub) (x : PathIx) : Bool := h.flag (vbBase x + 0x0) 24

/-- x_VB_CTRL (R141): bit 25. -/
def Hub.btSrc (h : Hub) (x : PathIx) : Bool := h.flag (vbBase x + 0x0) 25

/-- x_VB_TIMERS2 (R142): bits [31:24], 1-255. -/
def Hub.tFloor (h : Hub) (x : PathIx) : Nat := within 1 255 (h.fld (vbBase x + 0x8) 24 8)

/-- x_VB_SNS (R115, R143): bits [9:0], R_SNS in 0.1 mohm units, 1-1000. -/
def Hub.snsRes (h : Hub) (x : PathIx) : Nat := within 1 1000 (h.fld (vbBase x + 0x18) 0 10)

/-- x_VB_THERM (R144): bits [11:0], 1-4095. -/
def Hub.fetRon (h : Hub) (x : PathIx) : Nat := within 1 4095 (h.fld (vbBase x + 0x10) 0 12)

/-- x_VB_THERM (R144): bits [21:12], 1-1023. -/
def Hub.fetRth (h : Hub) (x : PathIx) : Nat := within 1 1023 (h.fld (vbBase x + 0x10) 12 10)

/-- x_VB_THERM (R144): bits [31:22], 1-1023. -/
def Hub.fetTau (h : Hub) (x : PathIx) : Nat := within 1 1023 (h.fld (vbBase x + 0x10) 22 10)

/-- x_VB_THERM2 (R144): bits [7:0], 100-175. -/
def Hub.tTrip (h : Hub) (x : PathIx) : Nat := within 100 175 (h.fld (vbBase x + 0x14) 0 8)

/-- x_VB_THERM2 (R144): bits [15:8], 50-150. -/
def Hub.tCool (h : Hub) (x : PathIx) : Nat := within 50 150 (h.fld (vbBase x + 0x14) 8 8)

/-- x_VB_THERM2 (R144): BOARD_TEMP in degrees, two's complement, -40 to +125. -/
def Hub.boardTemp (h : Hub) (x : PathIx) : Int := let v := h.fld (vbBase x + 0x14) 16 8; clampInt (-40) 125 (if v < 128 then (v : Int) else (v : Int) - 256)

/-- OUT_o_CFG (R149): bit 0. -/
def Hub.outEn (h : Hub) (o : OutIx) : Bool := h.flag (outBase o + 0x40) 0

/-- OUT_o_CFG (R149): bit 1. -/
def Hub.presEn (h : Hub) (o : OutIx) : Bool := h.flag (outBase o + 0x40) 1

/-- OUT_o_CFG (R149): bit 2. -/
def Hub.presPol (h : Hub) (o : OutIx) : Bool := h.flag (outBase o + 0x40) 2

/-- OUT_o_CFG (R149): bit 3. -/
def Hub.statMode (h : Hub) (o : OutIx) : Bool := h.flag (outBase o + 0x40) 3

/-- OUT_o_CFG (R149): bit 4. -/
def Hub.statPol (h : Hub) (o : OutIx) : Bool := h.flag (outBase o + 0x40) 4

/-- OUT_o_SET (R149): bits [11:0], 500-2800. -/
def Hub.vSet (h : Hub) (o : OutIx) : Nat := within 500 2800 (h.fld (outBase o + 0x44) 0 12)

/-- OUT_o_SET (R149): bits [23:12], 10-500. -/
def Hub.iSet (h : Hub) (o : OutIx) : Nat := within 10 500 (h.fld (outBase o + 0x44) 12 12)

/-- BUD_CTRL (R168): bits [12:0], 0-4800. -/
def Hub.localCap (h : Hub) : Nat := within 0 4800 (h.fld 0x22000 0 13)

/-- BUD_CTRL (R168): bits [22:16], 0-100. -/
def Hub.snkCredit (h : Hub) : Nat := within 0 100 (h.fld 0x22000 16 7)

/-- BUD_CTRL (R168): bit 23. -/
def Hub.snkLossWarn (h : Hub) : Bool := h.flag 0x22000 23

/-- BUD_CTRL (R168): RP_MAX; 3 acts as 2. -/
def Hub.rpMax (h : Hub) : Nat := min 2 (h.fld 0x22000 24 2)

/-- BUD_BO (R168): bits [12:0], 0-4800. -/
def Hub.boBudget (h : Hub) : Nat := within 0 4800 (h.fld 0x22004 0 13)

/-- BUD_BO (R168): bits [18:16]. -/
def Hub.boShedClass (h : Hub) : Nat := h.fld 0x22004 16 3

/-- BUD_BO (R168): bits [22:20]. -/
def Hub.failKeep (h : Hub) : Nat := h.fld 0x22004 20 3

/-- BUD_VIN (R168): bits [9:0]. -/
def Hub.vinWarn (h : Hub) : Nat := h.fld 0x22008 0 10

/-- BUD_VIN (R168): bits [19:10]. -/
def Hub.vinFailRaw (h : Hub) : Nat := h.fld 0x22008 10 10

/-- BUD_VIN (R168): bits [25:20]. -/
def Hub.vinHyst (h : Hub) : Nat := h.fld 0x22008 20 6

/-- VIN_FAIL: at or above VIN_WARN it acts as VIN_WARN (R158). -/
def Hub.vinFail (h : Hub) : Nat := min h.vinWarn h.vinFailRaw

/-- BUD_GRANT (R168): bits [28:16], 0-4800. -/
def Hub.floorBudget (h : Hub) : Nat := within 0 4800 (h.fld 0x22010 16 13)

/-- HEAD_RSV_k in W; HEAD_RSV_7 acts as 0 (R155, R168). -/
def Hub.headRsv (h : Hub) (k : Nat) : Nat := if k = 7 then 0 else h.fld (0x22014 + 4 * (k / 4)) (8 * (k % 4)) 8

/-- The priority class of a consumer (R168). -/
def Hub.prio (h : Hub) (x : PathIx) : Nat :=
  match h.bud.heldPrio with
  | some v => v[x]
  | none => h.fld (0x2201C + 4 * (x.val / 8)) (4 * (x.val % 8)) 3

/-- RL_CTRL (R169): bit 2. -/
def Hub.rlMonEn (h : Hub) : Bool := h.flag 0x4000 2

/-- RL_CTRL (R169): bits [9:8]. -/
def Hub.rlRetry (h : Hub) : Nat := h.fld 0x4000 8 2

/-- RL_SLOT_n_CFG (R169): bit 7. -/
def Hub.slotEn (h : Hub) (n : Fin 32) : Bool := h.flag (0x4100 + 8 * n.val + 0x0) 7

/-- RL_SLOT_n_CFG (R169): bits [15:8]. -/
def Hub.slotPage (h : Hub) (n : Fin 32) : Nat := h.fld (0x4100 + 8 * n.val + 0x0) 8 8

/-- RL_SLOT_n_CFG (R169): bit 16. -/
def Hub.slotPageEn (h : Hub) (n : Fin 32) : Bool := h.flag (0x4100 + 8 * n.val + 0x0) 16

/-- RL_SLOT_n_CFG (R169): bit 17. -/
def Hub.slotPecEn (h : Hub) (n : Fin 32) : Bool := h.flag (0x4100 + 8 * n.val + 0x0) 17

/-- RL_SLOT_n_CFG (R169): bits [23:19]. -/
def Hub.slotOwner (h : Hub) (n : Fin 32) : Nat := h.fld (0x4100 + 8 * n.val + 0x0) 19 5

/-- RL_SLOT_n_CFG (R169): bits [26:24]. -/
def Hub.slotPgIn (h : Hub) (n : Fin 32) : Nat := h.fld (0x4100 + 8 * n.val + 0x0) 24 3

/-- RL_SLOT_n_CFG (R169): bit 27. -/
def Hub.slotPgUse (h : Hub) (n : Fin 32) : Bool := h.flag (0x4100 + 8 * n.val + 0x0) 27

/-- RL_SLOT_n_CFG (R169): ADDR. -/
def Hub.slotAddr (h : Hub) (n : Fin 32) : BitVec 7 := BitVec.ofNat 7 (h.fld (0x4100 + 8 * n.val) 0 7)

/-- A register of the slot is faulted and RLINK is in its safe response (R313). -/
def Hub.slotParity (h : Hub) (n : Fin 32) : Bool := h.nvm.faults.any fun f => f.safe && (f.off == 0x4100 + 8 * n.val || f.off == 0x4104 + 8 * n.val)

/-- POD_p_LINK_CFG (R198): bits [10:0]. -/
def Hub.dsCap (h : Hub) (p : PodIx) : Nat := h.fld (podBase p + 0x600) 0 11

/-- POD_p_LINK_CFG (R198): bits [24:12], 16-8191. -/
def Hub.usCap (h : Hub) (p : PodIx) : Nat := within 16 8191 (h.fld (podBase p + 0x600) 12 13)

/-- POD_p_LINK_CFG (R198): bits [31:25]. -/
def Hub.babbleLimit (h : Hub) (p : PodIx) : Nat := h.fld (podBase p + 0x600) 25 7

/-- SHELL_CTRL (R202): bits [14:0], 0-16384. -/
def Hub.dsTotal (h : Hub) : Nat := within 0 16384 (h.fld 0x30000 0 15)

/-- SCHED_CTRL (R227): bits [4:0], 2-30. -/
def Hub.tPaceDefer (h : Hub) : Nat := within 2 30 (h.fld 0x30010 0 5)

/-- MAP_CTRL (R227): bit 0. -/
def Hub.mapFlip (h : Hub) : Bool := h.flag 0x30020 0

/-- MAP_CTRL (R227): bit 1. -/
def Hub.learnEn (h : Hub) : Bool := h.flag 0x30020 1

/-- MAP_CTRL (R227): bit 2. -/
def Hub.learnStby (h : Hub) : Bool := h.flag 0x30020 2

/-- MAP_PORT_p (R228): bits [5:0]. -/
def Hub.defQueueRaw (h : Hub) (p : PodIx) : Nat := h.fld (0x30040 + 4 * p.val + 0x0) 0 6

/-- MAP_PORT_p (R228): bits [12:6]. -/
def Hub.defPol (h : Hub) (p : PodIx) : Nat := h.fld (0x30040 + 4 * p.val + 0x0) 6 7

/-- MAP_PORT_p (R228): bit 13. -/
def Hub.defPolEn (h : Hub) (p : PodIx) : Bool := h.flag (0x30040 + 4 * p.val + 0x0) 13

/-- MAP_PORT_p (R228): bits [15:14]. -/
def Hub.bulkClass (h : Hub) (p : PodIx) : Nat := h.fld (0x30040 + 4 * p.val + 0x0) 14 2

/-- MAP_PORT_p (R228): bit 16. -/
def Hub.autoPace (h : Hub) (p : PodIx) : Bool := h.flag (0x30040 + 4 * p.val + 0x0) 16

/-- MAP_PORT_p (R228): bits [23:17]. -/
def Hub.autoPol (h : Hub) (p : PodIx) : Nat := h.fld (0x30040 + 4 * p.val + 0x0) 17 7

/-- MAP_PORT_p (R228): bit 24. -/
def Hub.autoPolEn (h : Hub) (p : PodIx) : Bool := h.flag (0x30040 + 4 * p.val + 0x0) 24

/-- UQ_n_CFG (R229): WEIGHT, 0 acts as 1; 12 in the safe response of PE (R225). -/
def Hub.weight (h : Hub) (n : QueueIx) : Nat := if h.inSafe 27 then 12 else within 1 255 (h.fld (0x31000 + 0x20 * n.val) 0 8)

/-- UQ_n_CFG (R229): bits [21:8]. -/
def Hub.cellLim (h : Hub) (n : QueueIx) : Nat := h.fld (0x31000 + 0x20 * n.val + 0x0) 8 14

/-- SHP_n_RATE (R229): RATE in 10 kbit/s; UQ_0 has none. -/
def Hub.shpRate (h : Hub) (n : QueueIx) : Nat := if n.val = 0 then 0 else min 2000000 (h.fld (0x3100C + 0x20 * n.val) 0 21)

/-- SHP_n_CFG (R229): BURST in 64-byte units, 0 acts as 1. -/
def Hub.shpBurst (h : Hub) (n : QueueIx) : Nat := within 1 65535 (h.fld (0x31010 + 0x20 * n.val) 0 16)

/-- SHP_n_CFG (R229): OVERHEAD in bytes. -/
def Hub.overhead (h : Hub) (n : QueueIx) : Nat := h.fld (0x31010 + 0x20 * n.val) 16 8

/-- POL_m_RATE (R230). -/
def Hub.polRate (h : Hub) (m : PolIx) : Nat := min 2000000 (h.fld (0x32000 + 0x10 * m.val) 0 21)

/-- POL_m_CFG (R230): BURST, 0 acts as 1. -/
def Hub.polBurst (h : Hub) (m : PolIx) : Nat := within 1 65535 (h.fld (0x32004 + 0x10 * m.val) 0 16)

/-- POL_m_CFG (R230): ACTION, 3 acts as 0. -/
def Hub.polAction (h : Hub) (m : PolIx) : Nat := let a := h.fld (0x32004 + 0x10 * m.val) 16 2; if a = 3 then 0 else a

/-- TIME_CTRL (R246): bits [1:0]. -/
def Hub.tbSrc (h : Hub) : Nat := h.fld 0x4C000 0 2

/-- TIME_CTRL (R246): bits [8:2], 1-100. -/
def Hub.tbStepThr (h : Hub) : Nat := within 1 100 (h.fld 0x4C000 2 7)

/-- TIME_CTRL (R246): bit 9. -/
def Hub.trimEn (h : Hub) : Bool := h.flag 0x4C000 9

/-- GATE_d registers (R247): bit 0. -/
def Hub.gateEn (h : Hub) (d : DirIx) : Bool := h.flag (0x48000 + 0x40 * d.val + 0x0) 0

/-- GATE_d registers (R247): bits [7:0], 1-128. -/
def Hub.adminLen (h : Hub) (d : DirIx) : Nat := within 1 128 (h.fld (0x48000 + 0x40 * d.val + 0x4) 0 8)

/-- GATE_d registers (R247): bits [14:8], 1-64. -/
def Hub.adminCycle (h : Hub) (d : DirIx) : Nat := within 1 64 (h.fld (0x48000 + 0x40 * d.val + 0x4) 8 7)

/-- GATE_d_BASE (R247). -/
def Hub.gateBase (h : Hub) (d : DirIx) : Nat := (h.act (0x48008 + 0x40 * d.val)).toNat + (h.act (0x4800C + 0x40 * d.val)).toNat * 2 ^ 32

/-- CSB_CTRL (R274): bits [5:0]. -/
def Hub.prefId (h : Hub) : Nat := h.fld 0x70000 0 6

/-- CSB_CTRL (R274): bit 6. -/
def Hub.stbyLinkEn (h : Hub) : Bool := h.flag 0x70000 6

/-- CSB_CTRL (R274): bits [13:8], 1-60. -/
def Hub.autoWait (h : Hub) : Nat := within 1 60 (h.fld 0x70000 8 6)

/-- CSB_CTRL (R274): bits [22:16], 1-100. -/
def Hub.syncInt (h : Hub) : Nat := within 1 100 (h.fld 0x70000 16 7)

/-- CSB_CTRL (R274): bits [29:24], 2-50. -/
def Hub.tLinkLoss (h : Hub) : Nat := within 2 50 (h.fld 0x70000 24 6)

/-- CSB_TIMERS (R274): bits [7:0], 5-255. -/
def Hub.tMgrLoss (h : Hub) : Nat := within 5 255 (h.fld 0x70004 0 8)

/-- CSB_TIMERS (R274): bits [17:8], 0-600. -/
def Hub.grantHold (h : Hub) : Nat := within 0 600 (h.fld 0x70004 8 10)

/-- CSB_TIMERS (R274): bits [22:18], 1-25. -/
def Hub.grantRefresh (h : Hub) : Nat := within 1 25 (h.fld 0x70004 18 5)

/-- CSB_TIMERS (R274): bits [30:23], 1-255. -/
def Hub.demandInt (h : Hub) : Nat := within 1 255 (h.fld 0x70004 23 8)

/-- CSB_JCOL (R274): bit 0. -/
def Hub.jcolEn (h : Hub) : Bool := h.flag 0x70008 0

/-- CSB_JCOL (R274): bits [3:1]. -/
def Hub.jcolSev (h : Hub) : Nat := h.fld 0x70008 1 3

/-- CSB_JCOL (R274): bits [13:4], 8-512. -/
def Hub.jcolRate (h : Hub) : Nat := within 8 512 (h.fld 0x70008 4 10)

/-- CSB_SYS (R274): bits [15:0]. -/
def Hub.sysBudget (h : Hub) : Nat := h.fld 0x70024 0 16

/-- CSB_SYS (R274): bits [23:16], 5-255. -/
def Hub.tGrantAck (h : Hub) : Nat := within 5 255 (h.fld 0x70024 16 8)

/-- CSB_FW_CFG (R274): bits [5:0], 1-63. -/
def Hub.fwBatch (h : Hub) : Nat := within 1 63 (h.fld 0x7002C 0 6)

/-- CSB_FW_CFG (R274): bits [13:7], 5-75. -/
def Hub.fwShare (h : Hub) : Nat := within 5 75 (h.fld 0x7002C 7 7)

/-- CSB_FW_CFG (R274): bits [23:16], 5-255. -/
def Hub.tFwAct (h : Hub) : Nat := within 5 255 (h.fld 0x7002C 16 8)

/-- CSB_W_n_CFG (R274): bits [15:0]. -/
def Hub.wMin (h : Hub) (n : HubId) : Nat := h.fld (0x70100 + 0x10 * n.val + 0x0) 0 16

/-- CSB_W_n_CFG (R274): bits [31:16], 0-4800. -/
def Hub.wMax (h : Hub) (n : HubId) : Nat := within 0 4800 (h.fld (0x70100 + 0x10 * n.val + 0x0) 16 16)

/-- POD_p_FWL_CTRL (R303): bit 0. -/
def Hub.securePort (h : Hub) (p : PodIx) : Bool := h.flag (podBase p + 0xC00) 0

/-- POD_p_FWL_CTRL (R303): bit 1. -/
def Hub.authRequired (h : Hub) (p : PodIx) : Bool := h.flag (podBase p + 0xC00) 1

/-- POD_p_FWL_CTRL (R303): bit 2. -/
def Hub.pinReq (h : Hub) (p : PodIx) : Bool := h.flag (podBase p + 0xC00) 2

/-- POD_p_FWL_CTRL (R303): bits [10:3]. -/
def Hub.rootMask (h : Hub) (p : PodIx) : Nat := h.fld (podBase p + 0xC00) 3 8

/-- POD_p_FWL_CTRL (R303): bit 11. -/
def Hub.defAct (h : Hub) (p : PodIx) : Bool := h.flag (podBase p + 0xC00) 11

/-- POD_p_FWL_CTRL (R303): bit 12. -/
def Hub.deepAction (h : Hub) (p : PodIx) : Bool := h.flag (podBase p + 0xC00) 12

/-- POD_p_FWL_CTRL (R303): bits [20:13], 50-255. -/
def Hub.tAuth (h : Hub) (p : PodIx) : Nat := within 50 255 (h.fld (podBase p + 0xC00) 13 8)

/-- SEC_CTRL (R304): bit 0. -/
def Hub.fwlEn (h : Hub) : Bool := h.flag 0x60000 0

/-- SEC_CTRL (R304): bit 1. -/
def Hub.reeval (h : Hub) : Bool := h.flag 0x60000 1

/-- SEC_CTRL (R304): bits [15:8]. -/
def Hub.rootValid (h : Hub) : Nat := h.fld 0x60000 8 8

/-- NVM_CTRL (R326): bits [5:0], 10-40. -/
def Hub.shellScrubPer (h : Hub) : Nat := within 10 40 (h.fld 0x78000 0 6)

/-- NVM_CTRL (R326): bits [12:8], 5-28. -/
def Hub.mpScrubPer (h : Hub) : Nat := within 5 28 (h.fld 0x78000 8 5)

/-- NVM_CTRL (R326): bit 16. -/
def Hub.retireEn (h : Hub) : Bool := h.flag 0x78000 16

/-- NVM_CTRL (R326): bit 17. -/
def Hub.ceJnlEn (h : Hub) : Bool := h.flag 0x78000 17

/-- JNL_CTRL (R327): bits [2:0]. -/
def Hub.jnlMinSev (h : Hub) : Nat := h.fld 0x78040 0 3

/-- MP_CTRL (R328): bits [7:0], 1-255. -/
def Hub.mpWdtT (h : Hub) : Nat := within 1 255 (h.fld 0x78084 0 8)

/-- MP_CTRL (R328): bit 8. -/
def Hub.rollbackEn (h : Hub) : Bool := h.flag 0x78084 8

/-- HOLDUP (R329): bits [15:0]. -/
def Hub.huCap (h : Hub) : Nat := h.fld 0x5000 0 16

/-- HOLDUP (R329): bits [31:16]. -/
def Hub.huScale (h : Hub) : Nat := h.fld 0x5000 16 16

/-- HOLDUP (R329): bits [15:0]. -/
def Hub.huVmin (h : Hub) : Nat := h.fld 0x5004 0 16

/-- HOLDUP (R329): bits [15:0]. -/
def Hub.costJnl (h : Hub) : Nat := h.fld 0x5008 0 16

/-- HOLDUP (R329): bits [31:16]. -/
def Hub.costCfg (h : Hub) : Nat := h.fld 0x5008 16 16

/-- HOLDUP (R329): bits [15:0]. -/
def Hub.costFw (h : Hub) : Nat := h.fld 0x500C 0 16

/-- HOLDUP (R329): bits [31:16]. -/
def Hub.costErase (h : Hub) : Nat := h.fld 0x500C 16 16

/-- DOM_RAIL_r_CFG (R355): bits [23:0]. -/
def Hub.railMask (h : Hub) (r : Fin 10) : Nat := h.fld (0x2010 + 4 * r.val + 0x0) 0 24

/-- DOM_RAIL_r_CFG (R355): bit 24. -/
def Hub.railEn (h : Hub) (r : Fin 10) : Bool := h.flag (0x2010 + 4 * r.val + 0x0) 24

/-- DOM_n_CFG (R355): bits [16:0]. -/
def Hub.retMask (h : Hub) (n : DomIx) : Nat := h.fld (0x2104 + 0x10 * n.val + 0x0) 0 17

/-- DOM_n_CFG (R355): bits [23:17], 1-100. -/
def Hub.tDrain (h : Hub) (n : DomIx) : Nat := within 1 100 (h.fld (0x2104 + 0x10 * n.val + 0x0) 17 7)

/-- HUSK (R356): bits [23:0]. -/
def Hub.wakeEn (h : Hub) : Nat := h.fld 0x1000 0 24

/-- HUSK (R356): bits [6:0]. -/
def Hub.smbAddr (h : Hub) : Nat := h.fld 0x1004 0 7

/-- HUSK (R356): bit 7. -/
def Hub.smbMatchEn (h : Hub) : Bool := h.flag 0x1004 7

/-- HUSK (R356): bits [12:8], 5-24. -/
def Hub.tStretch (h : Hub) : Nat := within 5 24 (h.fld 0x1004 8 5)

/-- HUSK (R356): bits [15:0]. -/
def Hub.tmrS (h : Hub) : Nat := h.fld 0x1008 0 16

/-- HUSK (R356): bits [23:0]. -/
def Hub.tmrDom (h : Hub) : Nat := h.fld 0x100C 0 24

/-- CLK_CTRL (R357): bit 0. -/
def Hub.refSrc (h : Hub) : Bool := h.flag 0x3000 0

/-- CLK_CTRL (R357): bit 1. -/
def Hub.refMonEn (h : Hub) : Bool := h.flag 0x3000 1

/-- MBX_CTRL (R394): bit 0. -/
def Hub.smbPecReq (h : Hub) : Bool := h.flag 0x7C000 0

/-- MBX_CTRL (R394): bits [15:8], 1-255. -/
def Hub.smbAsmT (h : Hub) : Nat := within 1 255 (h.fld 0x7C000 8 8)

/-- MBX_CTRL (R394): bits [23:16], 1-255. -/
def Hub.tFwd (h : Hub) : Nat := within 1 255 (h.fld 0x7C000 16 8)

/-- MBX_PRIV (R394): the classes permitted to the MF (k 0), SMBus (1) and CSB (2) rings. -/
def Hub.mbxPriv (h : Hub) (k : Nat) : Nat := h.fld 0x7C004 (4 * k) 4

end Sys2Proof.Machine
end

