-- ==== Sys2Proof/Machine/AccessBase.lean ====
section
/-! DEFINITION. Denied accesses, accesses to domains that are not ON, and writes of command bits (R297, R342, R408, R416, R417). -/

namespace Sys2Proof.Machine

/-- A master reaches guarded locations (R296, R417): master ID 0, while the MP executes from a verified image; with neither bank
verified it stays in the boot ROM. -/
def Hub.secure (h : Hub) (m : Master) : Bool :=
  m.val == 0 && (h.sec.boot == .start || h.sec.boot == .done) && !h.mbx.bootRomOnly

/-- No denial of a master was journaled within the last second (R296). -/
def Hub.denyFresh (h : Hub) (m : Master) : Bool :=
  match h.sec.denyAt[m.val] with
  | none => true
  | some t => decide (t + ticksPerSecond ≤ h.clk)

/-- A guarded access by another master than the MP in secure state (R296, R417): counted; the first within any 1 s of a master is journaled. -/
def Hub.denyAcc (h : Hub) (m : Master) (addr : Nat) (write : Bool) : Hub :=
  if h.denyFresh m then
    ((h.bump (cntDeny m.val)).modSec fun c => { c with denyAt := c.denyAt.set m.val (some h.clk) }).raise srcSec 0x6003 3
      [m.val, addr % 256, addr / 256 % 256, addr / 65536 % 256, if write then 2 else 1]
  else h.bump (cntDeny m.val)

/-- A domain that answers no register access: RET, OFF or EXITING (R342). -/
def Hub.domDark (h : Hub) (n : DomIx) : Bool :=
  (h.dom n).state == .ret || (h.dom n).state == .off || (h.dom n).state == .exiting

/-- An access to a domain that answers none (R342). -/
def Hub.accOff (h : Hub) (n : DomIx) : Hub := (h.domEvt 6).bump (cntDom n 5)

/-- The domain of an offset (R422). -/
def domOf (off : Nat) : DomIx := ⟨blockDom (blockOf off) % 24, by omega⟩

/-- The master may access registers at all: JTAG only once debug is open (R297, R299). -/
def Hub.mayAccess (h : Hub) (m : Master) : Bool := m.val ≠ 5 || h.sec.dbgOpenNow

/-- The commit group of a register (R402). -/
def Hub.groupOf (h : Hub) (off : Nat) : Nat := (h.act (0x100 + 4 * groupBlock off)).toNat % 16

/-- A write of a command bit whose lane also holds buffered bits reaches the shadow: its group becomes pending, and a parity
fault of the register ends with the commit (R314, R403). -/
def Hub.laneReached (h : Hub) (off : Nat) : Hub :=
  match regInfo off with
  | none => h
  | some i =>
    if i.rwb = 0 then h
    else
      (h.modGlob fun g => { g with pending := g.pending ||| BitVec.twoPow 16 (h.groupOf off) }).modNvm fun n =>
        { n with faults := n.faults.map fun f => if f.off = off then { f with copy := 0 } else f }

/-- A self-clearing command bit written with 1 (R408, R416): checked for guarding and for the domain, then taken. -/
def Hub.cmdBit (h : Hub) (m : Master) (off : Nat) (guarded : Bool) (f : Hub → Hub) : Hub :=
  if !h.mayAccess m then h
  else if guarded && !h.secure m then h.denyAcc m off true
  else if h.domDark (domOf off) then (h.accOff (domOf off)).laneReached off
  else f (h.laneReached off)

/-- A read with an effect of its own (R99, R347, R407): it reads zero where the domain answers none (R342). -/
def Hub.readAcc (h : Hub) (m : Master) (off : Nat) (f : Hub → Hub) : Hub :=
  if !h.mayAccess m then h
  else if h.domDark (domOf off) then (h.accOff (domOf off)).emit (.read 0)
  else f h

end Sys2Proof.Machine
end

