-- ==== Sys2Proof/Config.lean ====
section
/-! DEFINITION. The values a die, its fuses, its board or its random source fix and the spec does not: constants and functions
without a body, so that nothing can be proved of them. -/

namespace Sys2Proof.Config

/-- The 64-bit die identifier CSB_UID (R260, R275). -/
opaque dieUid : BitVec 64

/-- Word i of the n-th nonce drawn from the random source (R284, R298). -/
opaque nonceWord : Nat → Nat → Word

/-- SHA-256 of a byte string as eight words (R269, R294, R300, R378); the function is fixed outside the spec. -/
opaque sha256 : List (BitVec 8) → List Word

/-- What a CHALLENGE_AUTH carries before its signature, at the n-th use (R289). -/
opaque responderBytes : Nat → List (BitVec 8)

/-- The phase error in ns that the n-th trim adjustment leaves, taken modulo 21 and shifted to -10 to 10 (R235): the spec states a
bound and no law. -/
opaque trimAdjust : Nat → Nat

/-- What a read of an MRAM, fuse or identity value holds that the spec leaves to the part: word i of item k. -/
opaque partWord : Nat → Nat → Word

/-- The severity of record 0x4101, which the spec does not state (R31, R316). -/
opaque upstreamSeverity : Nat

/-- Code and severity of the record of a received Alert, which is journaled under no code the spec states (R91, R111). -/
opaque alertRecord : Nat → Nat

/-- Code and severity of the record of a violation below the limit, which is journaled under no code the spec states (R195,
R203). -/
opaque violationRecord : Nat → Nat

/-- How many retransmissions the n-th captured message took (R98): no command carries it. -/
opaque sentRetries : Nat → Nat

/-- The certificate chain of slot 0, from manufacture (R289). -/
opaque slot0Chain : List (BitVec 8)

/-- The 256 bits of the n-th key brought into a slot (R292). -/
opaque keyValue : Nat → BitVec 256

/-- Where in its 10 ns tick the n-th timestamp falls, in ns, taken modulo 10 (R263): no command carries it. -/
opaque subTick : Nat → Nat

/-- The one-way delay that the parent end of a segment reports at the n-th exchange, in ns (R263, R275): DELAY_REQ carries no time
from which the parent could compute it. -/
opaque peerDelay : Nat → Nat

/-- The payload bytes of a CSB frame whose fields the spec names without their places (R255, R256). -/
opaque csbPayload : CsbBody → List (BitVec 8)

/-- The initial value of the CRC-32 of a CSB frame, and what is added at its end (R255): the spec gives the polynomial alone. -/
opaque crcInit : Word

/-- What is added to the CRC-32 of a CSB frame at its end (R255). -/
opaque crcXor : Word

/-- What the k-th 128-bit word of the 8 KiB of ring memory beyond the rings belongs to (R364): 2 or 3 the assembly buffer of that
ring, anything else the forwarding table. -/
opaque ringRest : Nat → Nat

/-- A free bit at the n-th use. -/
opaque freeBit : Nat → Bool

end Sys2Proof.Config
end

