-- ==== Sys2Proof/Machine/GateBase.lean ====
section
/-! DEFINITION. Gate lists as functions of the timebase: entries, position, gate states, the next closing (R238, R239, R242-R244). -/

namespace Sys2Proof.Machine

/-- What an unlisted word of a gate-list entry reads as (R248). -/
def gateWordReset (k : Nat) : Word := if k % 4 ≤ 1 then 0xFFFFFFFF else if k % 4 = 2 then 0x000030D4 else 0

/-- Entry i of a list (R238): the gate of queue 0 is forced open, an interval of 0 acts as 1 tick. -/
def gateEnt (l : List (Nat × Word)) (i : Nat) : GateEnt :=
  let lo := smGet gateWordReset l (4 * i)
  let hi := smGet gateWordReset l (4 * i + 1)
  let iv := (smGet gateWordReset l (4 * i + 2)).toNat % 2 ^ 20
  { gates := (hi ++ lo) ||| 1, iv := max 1 iv }

/-- The first `len` entries of a list. -/
def gateEnts (l : List (Nat × Word)) (len : Nat) : List GateEnt := (List.range len).map (gateEnt l)

/-- The sum of the intervals of a list. -/
def gateSum (es : List GateEnt) : Nat := es.foldl (fun a e => a + e.iv) 0

/-- The entry in force `off` ticks after the start of a cycle of `c` ticks, with its index, and the ticks left in it: the last
entry extends to the end of the cycle, an entry is cut there (R239). -/
def gateAt (es : List GateEnt) (off c i acc : Nat) : Option (Nat × GateEnt × Nat) :=
  match es with
  | [] => none
  | [e] => some (i, e, c - off)
  | e :: rest =>
    if off < acc + e.iv then some (i, e, min (acc + e.iv) c - off) else gateAt rest off c (i + 1) (acc + e.iv)

/-- The starts of the entries of one cycle that begins at `t0` and lasts `c` ticks (R239). -/
def gateSegs (es : List GateEnt) (t0 c acc : Nat) : List (Nat × GateEnt) :=
  match es with
  | [] => []
  | e :: rest => if c ≤ acc then [] else (t0 + acc, e) :: gateSegs rest t0 c (acc + e.iv)

/-- The cycle of an operational list in ticks (R239). -/
def Gate.cycle (g : Gate) : Nat := g.operCyc * 12500

/-- The operational entries. -/
def Gate.ents (g : Gate) : List GateEnt := gateEnts g.oper g.operLen

/-- Ticks since the start of the running cycle; the cycles extend before the origin as well (R239, R244). -/
def Gate.offset (g : Gate) (tb : Nat) : Nat := (((tb : Int) - (g.origin.toNat : Int)) % (g.cycle : Int)).toNat

/-- The entry of the operational list at a timebase value (R239). -/
def Gate.entryAt (g : Gate) (tb : Nat) : Option (Nat × GateEnt × Nat) :=
  if g.valid then gateAt g.ents (g.offset tb) g.cycle 0 0 else none

/-- The GATE block is in its safe response for a register of direction d (R244, R313). -/
def Hub.gateSafe (h : Hub) (d : DirIx) : Bool :=
  h.nvm.faults.any fun f =>
    f.safe && (blockOf f.off == 29) &&
      ((0x48000 + 0x40 * d.val ≤ f.off && f.off < 0x48040 + 0x40 * d.val)
        || (0x48400 + 0x800 * d.val ≤ f.off && f.off < 0x48C00 + 0x800 * d.val)
        || (0x49400 + 0x800 * d.val ≤ f.off && f.off < 0x49C00 + 0x800 * d.val))

/-- Gating acts in a direction: GATE_EN is 1, a list exists, no safe response (R242, R244). -/
def Hub.gating (h : Hub) (d : DirIx) : Bool := h.gateEn d && (h.gate d).valid && !h.gateSafe d

/-- The present gate states of a direction (R242, R247 GATES_NOW). -/
def Hub.gatesNow (h : Hub) (d : DirIx) : BitVec 64 :=
  if h.gating d then
    match (h.gate d).entryAt h.tb.toNat with
    | some (_, e, _) => e.gates
    | none => BitVec.allOnes 64
  else BitVec.allOnes 64

/-- The gate of queue n is open (R242). -/
def Hub.gateOpen (h : Hub) (d : DirIx) (n : QueueIx) : Bool := (h.gatesNow d).getLsbD n.val

/-- The starts of the entries ahead, at most one cycle of the operational list and, where a switch is pending, the pending list
from S (R243). -/
def Hub.gateAhead (h : Hub) (d : DirIx) : List (Nat × GateEnt) :=
  let g := h.gate d
  let now := h.tb.toNat
  let c := g.cycle
  let pos := g.offset now
  let oper := if !g.valid then [] else ((gateSegs g.ents 0 c 0 ++ gateSegs g.ents c c 0 ++ gateSegs g.ents (2 * c) c 0).filter
    fun s => pos < s.1 && s.1 ≤ pos + c).map fun s => (now + (s.1 - pos), s.2)
  if g.pending then
    let s := g.switchT.toNat
    oper.filter (fun x => x.1 < s) ++
      gateSegs (gateEnts g.admin (h.adminLen d)) s (h.adminCycle d * 12500) 0
  else oper

/-- The close time of queue n of direction 0 (R243): the first list may still be pending. -/
def Hub.closeTime (h : Hub) (n : QueueIx) : Option Nat :=
  if h.gateEn 0 && ((h.gate 0).valid || (h.gate 0).pending) && !h.gateSafe 0 then ((h.gateAhead 0).find? fun s => !s.2.gates.getLsbD n.val).map Prod.fst else none

/-- The upstream link's data rate in 10 Mbit/s (R206). -/
def rate10M : Speed → Nat
  | .gen2x2 => 1939
  | .gen2x1 => 970
  | _ => 400

/-- A charge of `charge` bytes can be sent in `ticks` ticks at a rate (R206). -/
def fitsIn (charge ticks rate : Nat) : Bool := decide (charge * 800 ≤ ticks * 10 * rate)

/-- Time passes to a timebase value ahead of the present one. -/
def Hub.passTo (h : Hub) (t : Nat) : Hub :=
  if h.tb.toNat < t then { h with clk := h.clk + (t - h.tb.toNat), tb := BitVec.ofNat 64 t } else h

end Sys2Proof.Machine
end

