-- ==== Sys2Proof/Machine/SchedBase.lean ====
section
/-! DEFINITION. Shell cells, the Endpoint Map, reservations, policers and queues as shared operations (R173-R176, R205-R211,
R215, R217, R220, R221, R223). -/

namespace Sys2Proof.Machine

/-! #### Cells (R173-R175, R215) -/

/-- Cells of a payload (R174). -/
def cellsOf (bytes : Nat) : Nat := (bytes + 255) / 256

/-- Bytes as tokens of 2^-24 byte (R217). -/
def tok (bytes : Nat) : Int := (bytes : Int) * 16777216

/-- The packets stored for the upstream link, the one being sent included. -/
def Hub.upStored (h : Hub) : List (QueueIx × UpPkt) :=
  ((List.finRange 64).flatMap fun n => (h.uq n).pkts.map fun x => (n, x)) ++ h.sched.sending.toList

/-- The cells of a list of numbers summed. -/
def sumBy {α : Type} (f : α → Nat) (l : List α) : Nat := l.foldl (fun a x => a + f x) 0

/-- The sum of the downstream reservations (R202). -/
def Hub.dsRsvSum (h : Hub) : Nat := sumBy Link.dsRsv h.links.toList

/-- Cells of the pool that downstream payload takes (R177). -/
def Hub.downPool (h : Hub) : Nat := sumBy (fun l => sumBy DownPkt.inPool l.down) h.links.toList

/-- Free cells of the shared pool (R173); retired cells are none of them (R310). -/
def Hub.poolFree (h : Hub) : Nat :=
  23872 - (h.dsRsvSum + sumBy (fun x => x.2.cells) h.upStored + sumBy Rsv.cells h.sched.rsvs + h.downPool
    + h.nvm.retired.length)

/-- UQ_0 reserve cells in use (R202). -/
def Hub.uq0Used (h : Hub) : Nat := sumBy (fun x => x.2.reserve) h.upStored

/-- Cells stored or reserved for upstream data of a pod (R200). -/
def Hub.usHeld (h : Hub) (p : PodIx) : Nat :=
  sumBy (fun x => if x.2.src = p.val then x.2.cells else 0) h.upStored
    + sumBy (fun r => if r.pod = p then r.cells else 0) h.sched.rsvs

/-- Pool cells stored or reserved for a queue (R215). -/
def Hub.queueCells (h : Hub) (n : QueueIx) : Nat :=
  sumBy (fun x => if x.1 = n then x.2.cells else 0) h.upStored
    + sumBy (fun r => if r.queue = n then r.cells else 0) h.sched.rsvs

/-- TT cells in use of one pod (R182). -/
def Hub.ttUsed (h : Hub) (p : PodIx) : Nat := sumBy TtBuf.cells (h.link p).tt

/-- POOL_EMPTY where an operation took the last free cell (R202). -/
def Hub.notePool (h : Hub) (f : Hub → Hub) : Hub :=
  let h' := f h
  if 0 < h.poolFree && h'.poolFree == 0 then (h'.shellEvt 0).bump (cntMap 3) else h'

/-! #### The Endpoint Map (R207, R208, R211) -/

/-- The index of an entry (R207). -/
def mapIndex (addr ep : Nat) (dirIn : Bool) : Nat := (addr - 1) * 32 + ep * 2 + (if dirIn then 1 else 0)

/-- A word of a bank. -/
def Hub.mapWord (h : Hub) (bankB : Bool) (i : Nat) : Word := smGet (fun _ => 0) (if bankB then h.sched.mapB else h.sched.mapA) i

/-- A word of a bank, set. -/
def Hub.setMapWord (h : Hub) (bankB : Bool) (i : Nat) (w : Word) : Hub :=
  h.modSched fun s =>
    if bankB then { s with mapB := smSet (fun _ => 0) s.mapB i w } else { s with mapA := smSet (fun _ => 0) s.mapA i w }

/-- DEF_QUEUE of a D pod; 0 acts as 3 (R228). -/
def Hub.defQueue (h : Hub) (p : PodIx) : QueueIx :=
  let q := h.defQueueRaw p
  if q = 0 then 3 else ⟨q % 64, Nat.mod_lt _ (by omega)⟩

/-- A policer by number. -/
def polIx (n : Nat) : PolIx := ⟨n % 128, Nat.mod_lt _ (by omega)⟩

/-- The default class of an ingress port (R208). -/
def Hub.mapDefault (h : Hub) (p : PodIx) : MapHit :=
  { queue := h.defQueue p, pace := false, secure := false
    pol := if h.defPolEn p then some (polIx (h.defPol p)) else none, cls := none, dflt := true }

/-- A lookup of the active bank (R207, R208): device address 0 takes UQ_3 without one. -/
def Hub.mapFind (h : Hub) (p : PodIx) (addr ep : Nat) (dirIn : Bool) : MapHit :=
  if addr = 0 then { queue := 3, pace := false, secure := false, pol := none, cls := none, dflt := false }
  else
    let w := h.mapWord h.sched.mapActB (mapIndex addr ep dirIn)
    if w.getLsbD 31 then
      { queue := if w.toNat % 64 = 0 then h.defQueue p else ⟨w.toNat % 64, Nat.mod_lt _ (by omega)⟩
        pace := w.getLsbD 6 && dirIn
        secure := w.getLsbD 7
        pol := if w.getLsbD 15 then some (polIx (w.toNat / 256)) else none
        cls := some (w.toNat / 65536 % 4), dflt := false }
    else h.mapDefault p

/-- What a lookup that took the default class leaves behind (R208, R231): the first of a device since its SET_ADDRESS is
journaled. -/
def Hub.noteHit (h : Hub) (p : PodIx) (addr ep : Nat) (dirIn : Bool) (m : MapHit) : Hub :=
  if !m.dflt then h
  else
    let h := (h.mapEvt 1).bump (cntMap 0)
    if h.sched.devs.any fun d => d.pod == p && d.addr == addr && !d.defHit then
      (h.modSched fun s =>
        { s with devs := s.devs.map fun d => if d.pod == p && d.addr == addr then { d with defHit := true } else d }).raise
        srcPe 0x5003 1 [addr, ep + (if dirIn then 128 else 0), p.val]
    else h

/-- The VALID bit of an entry, cleared. -/
def invalidWord (w : Word) : Word := w &&& 0x7FFFFFFF

/-- Every entry of a device address becomes invalid in one bank (R211). -/
def Hub.mapInvalBank (h : Hub) (bankB : Bool) (addr : Nat) : Hub :=
  (List.range 32).foldl
    (fun h k => let i := (addr - 1) * 32 + k; h.setMapWord bankB i (invalidWord (h.mapWord bankB i))) h

/-- Every entry of a device address becomes invalid, in both banks (R211). -/
def Hub.mapInval (h : Hub) (addr : Nat) : Hub :=
  if addr = 0 then h else (h.mapInvalBank false addr).mapInvalBank true addr

/-- Valid entries of the active bank (R227). -/
def Hub.validEntries (h : Hub) : Nat :=
  (if h.sched.mapActB then h.sched.mapB else h.sched.mapA).countP fun x => x.2.getLsbD 31

/-! #### What the snoop knows (R175, R192) -/

/-- The descriptor entry of an active endpoint (R175, R192). -/
def Dev.endpoint (d : Dev) (ep : Nat) (dirIn : Bool) : Option EpDesc :=
  match d.cfgs.find? fun c => c.value == d.cfg with
  | none => none
  | some c =>
    ((c.ifs.filter fun i => i.alt == ((d.alts.find? fun a => a.1 == i.num).map Prod.snd).getD 0).flatMap IfDesc.eps).find?
      fun e => e.num == ep && e.dirIn == dirIn

/-- A device by pod and address. -/
def Hub.dev (h : Hub) (p : PodIx) (addr : Nat) : Option Dev := h.sched.devs.find? fun d => d.pod == p && d.addr == addr

/-- The snooped endpoint, if it is known. -/
def Hub.endpoint (h : Hub) (p : PodIx) (addr ep : Nat) (dirIn : Bool) : Option EpDesc :=
  match h.dev p addr with
  | some d => d.endpoint ep dirIn
  | none => none

/-- wMaxPacketSize for a reservation; 1,024 where no entry is known (R175). -/
def Hub.maxPkt (h : Hub) (p : PodIx) (addr ep : Nat) (dirIn : Bool) : Nat :=
  match h.endpoint p addr ep dirIn with
  | some e => e.maxPkt
  | none => 1024

/-! #### Policers (R220, R221) -/

/-- A policer's tokens, changed at a time: it ceases to exceed where they return to 0 or above (R221). -/
def Policer.refill (q : Policer) (t : Int) (now : Nat) : Policer :=
  { tokens := t, lastEx := if q.tokens < 0 ∧ 0 ≤ t then some now else q.lastEx }

/-- A policer is debited; when its tokens fall below 0 it begins to exceed, journaled after 1 s without (R221, R231). -/
def Hub.polDebit (h : Hub) (m : PolIx) (charge : Nat) : Hub :=
  let old := (h.policer m).tokens
  let t := old - tok charge
  let h := (h.modPol m fun q => { q with tokens := t }).bumpBy (cntPol m 0) charge
  if 0 ≤ old && decide (t < 0) then
    let fresh := match (h.policer m).lastEx with
      | none => true
      | some a => decide (a + ticksPerSecond ≤ h.clk)
    let h := h.schedEvt 2
    if fresh then h.raise srcPe 0x5001 2 ([m.val, h.polAction m] ++ le32 (twos 32 (t / 16777216))) else h
  else h

/-- A request is debited at its release, and counted so (R223, R432). -/
def Hub.polDebitRelease (h : Hub) (m : PolIx) (charge : Nat) : Hub := (h.bump (cntPol m 3)).polDebit m charge

/-- A debited charge is credited back, up to the burst (R223, R225). -/
def Hub.polCredit (h : Hub) (m : Option PolIx) (charge : Nat) : Hub :=
  match m with
  | none => h
  | some m => h.modPol m fun q => q.refill (min (tok (h.polBurst m * 64)) (q.tokens + tok charge)) h.clk

/-- A packet of the named length conforms to a policer (R220). -/
def Hub.polConforms (h : Hub) (m : PolIx) : Bool := h.polRate m == 0 || decide (0 ≤ (h.policer m).tokens)

/-- A packet is measured on arrival (R220, R221). -/
def Hub.police (h : Hub) (m : Option PolIx) (charge : Nat) : Hub :=
  match m with
  | none => h
  | some m =>
    if h.polConforms m then
      let h := h.bump (cntPol m 3)
      if h.polRate m = 0 then h else h.polDebit m charge
    else (h.bump (cntPol m 1)).bumpBy (cntPol m 4) charge

/-- An exceeding isochronous packet is discarded by a policer with ACTION DISCARD (R221). -/
def Hub.polDiscards (h : Hub) (m : Option PolIx) (iso : Bool) : Bool :=
  match m with
  | none => false
  | some m => iso && h.polAction m == 2 && !h.polConforms m

/-! #### Upstream queues -/

/-- An upstream link in U1 or U2 is directed to U0 where a packet waits for it (R183, R204). -/
def Hub.upWake (h : Hub) : Hub :=
  match h.upsel.active with
  | none => h
  | some u =>
    let l := h.link (upPod u)
    if l.ltssm == .u1 || l.ltssm == .u2 then
      ((h.modLink (upPod u) fun l => { l with ltssm := .recovery }).bump (cntLink (upPod u) 11)).emit (.linkCmd u.val .toU0)
    else h

/-- A packet is stored in an upstream queue (R172, R181). -/
def Hub.upPut (h : Hub) (n : QueueIx) (x : UpPkt) : Hub :=
  ((h.modUq n fun u => { u with pkts := u.pkts ++ [{ x with seq := h.sched.seq }] }).modSched fun s =>
    { s with seq := s.seq + 1 }).upWake

/-! #### The traffic of the MF and of the hub (R18, R172, R173, R208, R215, R216) -/

/-- So many cells for UQ_0: those beyond its reserve (R173, R215). -/
def Hub.uq0Beyond (h : Hub) (cells : Nat) : Nat := cells - (256 - h.uq0Used)

/-- UQ_0 payload of so many cells finds room: in its reserve, else in the pool within UQ_0's CELL_LIM (R173, R215). -/
def Hub.uq0Room (h : Hub) (cells : Nat) : Bool :=
  h.uq0Beyond cells == 0
    || (decide (h.uq0Beyond cells ≤ h.poolFree) && decide (h.queueCells 0 + h.uq0Beyond cells ≤ h.cellLim 0))

/-- UQ_0 payload takes its reserve first, then the pool (R173). -/
def Hub.uq0Put (h : Hub) (x : UpPkt) : Hub :=
  let b := h.uq0Beyond (cellsOf x.bytes)
  h.notePool fun h => h.upPut 0 { x with cells := b, reserve := cellsOf x.bytes - b }

/-- The payloads of the packets that carry `bytes` bytes at a maximum packet of `mx`; without data, one of none. -/
def packetSizes (mx bytes : Nat) : List Nat :=
  let n := (bytes + mx - 1) / mx
  if n ≤ 1 then [bytes] else (List.range n).map fun k => if k + 1 = n then bytes - k * mx else mx

/-- The cells of an answer of `bytes` bytes, each packet rounded up to whole cells (R174, R215). -/
def answerCells (mx bytes : Nat) : Nat := sumBy cellsOf (packetSizes mx bytes)

/-- An answer of the MF (source 16) or of the hub (17) goes up on UQ_0, in packets of at most `mx` bytes, the last of which
completes it; while no upstream is ACTIVE it goes out at once. -/
def Hub.answer (h : Hub) (src ep rank mx bytes : Nat) (o : Output) : Hub :=
  if h.upsel.active.isNone then h.emit o
  else
    let ss := packetSizes mx bytes
    if h.uq0Room (answerCells mx bytes) then
      ((List.range ss.length).zip ss).foldl
        (fun h k => h.uq0Put { src := src, ep := ep, rank := rank, bytes := k.2, say := if k.1 + 1 = ss.length then [o] else [] }) h
    else h.uq0Put { src := src, ep := ep, rank := rank, say := [.mbxBusy 6] }

/-- EP0 of the SuperSpeed and of the USB 2.0 personality: its maximum packet (R18). -/
def ep0Packet (ss : Bool) : Nat := if ss then 512 else 64

/-- A bulk endpoint of the MF: its maximum packet (R18). -/
def mfPacket (ss : Bool) : Nat := if ss then 1024 else 512

/-- The upstream connection is SuperSpeed. -/
def Hub.upstreamSs (h : Hub) : Bool :=
  match h.upsel.active with
  | some u =>
    match (h.link (upPod u)).speed with
    | .gen1x1 | .gen2x1 | .gen2x2 => true
    | _ => false
  | none => false

/-- An answer of an MF bulk endpoint without data: NRDY or NAK, ERDY (R370, R371). -/
def Hub.mfSay (h : Hub) (r : RingIx) (o : Output) : Hub :=
  h.answer 16 (r.val + 1) (if r.val = 1 then 0 else 4) (mfPacket h.upstreamSs) 0 o

/-- An answer of MF EP0 with its data (R289, R372). -/
def Hub.mfEp0 (h : Hub) (bs : List (BitVec 8)) : Hub := h.answer 16 0 2 (ep0Packet h.upstreamSs) bs.length (.mbx 6 bs)

/-- The status stage of a hub class request, with the words it returns (R15, R55, R172). -/
def Hub.hubReply (h : Hub) (ws : List Word) : Hub :=
  h.answer 17 0 3 (ep0Packet h.upstreamSs) (if ws.isEmpty then 0 else 4) (.hubReply ws)

/-- The hub status change endpoint reports a change (R16, R216): one report stands for every change until it is sent; one that
finds no room is due once there is some. -/
def Hub.statusChange (h : Hub) : Hub :=
  if h.upsel.active.isNone || (h.uq 0).pkts.any fun x => x.rank == 1 then h
  else if h.uq0Room (cellsOf 2) then (h.modSched fun s => { s with statusDue := false }).uq0Put { src := 17, ep := 1, bytes := 2, rank := 1 }
  else h.modSched fun s => { s with statusDue := true }

/-! #### Packets counted on the links (R204) -/

/-- A received packet with its payload bytes is counted (R204). -/
def Hub.countRx (h : Hub) (p : PodIx) (bytes : Nat) : Hub := (h.bump (cntLink p 0)).bumpBy (cntLink p 2) bytes

/-- A sent packet with its payload bytes is counted (R204). -/
def Hub.countTx (h : Hub) (p : PodIx) (bytes : Nat) : Hub := (h.bump (cntLink p 1)).bumpBy (cntLink p 3) bytes

/-- A packet received from the host is counted on the active upstream pod. -/
def Hub.countHostRx (h : Hub) (bytes : Nat) : Hub :=
  match h.upsel.active with
  | some u => h.countRx (upPod u) bytes
  | none => h

/-- A request of the host to the hub's or the MF's EP0 is counted as its SETUP packet of 8 bytes (R204). DESIGN CHOICE (log 94). -/
def Hub.countSetup (h : Hub) : Hub := h.countHostRx 8

/-! #### Deferral (R187, R188) -/

/-- A header goes back to the host with Deferred set, out on the active upstream pod (R187, R204, R224). -/
def Hub.deferToHost (h : Hub) (addr ep : Nat) : Hub :=
  let h := h.emit (.deferredToHost addr ep)
  match h.upsel.active with
  | some u => h.countTx (upPod u) 0
  | none => h

/-- A pod's link takes a header at once: U0, not about to enter U3 (R184), and no bounce hold. -/
def Hub.linkTakes (h : Hub) (p : PodIx) : Bool :=
  (h.link p).ltssm == .u0 && !(h.link p).u3Pending && (h.tc p).hold.isNone

/-- The deferred table takes an entry; the oldest is displaced from a full one (R188). -/
def Hub.deferTable (h : Hub) (p : PodIx) (e : DeferEnt) : Hub :=
  let rest := (h.link p).deferred.filter fun x => x ≠ e
  if rest.length < 32 then h.modLink p fun l => { l with deferred := rest ++ [e] }
  else ((h.modLink p fun l => { l with deferred := rest.drop 1 ++ [e] }).linkEvt p 7).bump (cntLink p 4)

/-- What is kept for the device: the deferred table in a bounce hold; in U1 or U2 the header until the link, directed to U0,
reaches it (R183, R187). -/
def Hub.deferKeep (h : Hub) (p : PodIx) (addr ep : Nat) (dirIn : Bool) : Hub :=
  let e : DeferEnt := { addr := addr, ep := ep, dirIn := dirIn }
  if (h.tc p).hold.isSome then h.deferTable p e
  else if (h.link p).ltssm == .u1 || (h.link p).ltssm == .u2 then
    ((h.modLink p fun l => { l with ltssm := .recovery, waking := l.waking ++ [e] }).bump (cntLink p 11)).emit
      (.linkCmd p.val .toU0)
  else if (h.link p).ltssm == .recovery && !(h.link p).u3Pending then h.modLink p fun l => { l with waking := l.waking ++ [e] }
  else h

/-- A header is deferred (R187, R204). -/
def Hub.deferral (h : Hub) (p : PodIx) (addr ep : Nat) (dirIn : Bool) : Hub :=
  ((h.deferToHost addr ep).bump (cntLink p 4)).deferKeep p addr ep dirIn

/-- Every deferred entry of a pod is discarded and counted (R188, R196, R204). -/
def Hub.deferForget (h : Hub) (p : PodIx) : Hub :=
  (h.bumpBy (cntLink p 4) ((h.link p).deferred.length + (h.link p).waking.length)).modLink p fun l =>
    { l with deferred := [], waking := [] }

/-! #### Downstream payload and U3 (R177, R178, R184, R196) -/

/-- A downstream link is directed to U3 (R184). -/
def Hub.linkU3 (h : Hub) (p : PodIx) : Hub :=
  ((h.modLink p fun l => { l with ltssm := .u3, u3Pending := false }).bump (cntLink p 14)).emit (.linkCmd p.val .toU3)

/-- A packet of a pod is held with its header credit (R178). -/
def Hub.creditOf (h : Hub) (p : PodIx) : Bool := h.sched.credit.any fun c => c.pod == p

/-- A link that is to enter U3 enters it once what was stored, or is held, for it has been sent (R184, R196). -/
def Hub.u3Try (h : Hub) (p : PodIx) : Hub :=
  if (h.link p).u3Pending && (h.link p).ltssm != .recovery && (h.link p).down.isEmpty && !h.creditOf p then h.linkU3 p else h

/-- A downstream link is to enter U3 (R184, R196): its deferred entries are discarded; one in Recovery enters U3 from U0. -/
def Hub.linkToU3 (h : Hub) (p : PodIx) : Hub :=
  let l := h.link p
  if l.ltssm == .u0 || l.ltssm == .u1 || l.ltssm == .u2 || l.ltssm == .recovery then
    ((h.deferForget p).modLink p fun l => { l with u3Pending := true }).u3Try p
  else h

/-- The upstream link enters U3, and every downstream link in U0, U1 or U2 follows (R184); a held credit completes first
(R196). -/
def Hub.upstreamSleep (h : Hub) (u : UpIx) : Hub :=
  if h.sched.credit.isSome then h.modLink (upPod u) fun l => { l with u3Pending := true }
  else
    let h := (h.modLink (upPod u) fun l => { l with ltssm := .u3, u3Pending := false }).bump (cntLink (upPod u) 14)
    ((List.finRange 16).filter isD).foldl (fun h p => if (h.link p).ltssm == .recovery then h else h.linkToU3 p) h

/-- A credit is no longer held: what waited for its end happens (R184, R196). -/
def Hub.creditEnded (h : Hub) (p : PodIx) : Hub :=
  let h := h.u3Try p
  match h.upsel.active with
  | some u => if (h.link (upPod u)).u3Pending then h.upstreamSleep u else h
  | none => h

/-- Free cells of a pod's downstream reservation (R177). -/
def Hub.dsRoom (h : Hub) (p : PodIx) : Nat := (h.link p).dsRsv - sumBy DownPkt.inRsv (h.link p).down

/-- A downstream payload finds room (R177). -/
def Hub.downFits (h : Hub) (p : PodIx) (x : DownPkt) : Bool := decide (cellsOf x.bytes ≤ h.dsRoom p + h.poolFree)

/-- A downstream payload is stored: in the reservation, then in the pool (R177). -/
def Hub.downPut (h : Hub) (p : PodIx) (x : DownPkt) : Hub :=
  let c := cellsOf x.bytes
  let r := min c (h.dsRoom p)
  h.notePool fun h => h.modLink p fun l => { l with down := l.down ++ [{ x with inRsv := r, inPool := c - r }] }

/-- The held packet is stored once room appears (R178); where its link has left U0 meanwhile it is deferred (R187). -/
def Hub.creditTry (h : Hub) : Hub :=
  match h.sched.credit with
  | none => h
  | some c =>
    if h.downFits c.pod c.pkt then
      let h := h.modSched fun s => { s with credit := none }
      let h := if (h.link c.pod).ltssm == .u0 && (h.tc c.pod).hold.isNone then h.downPut c.pod c.pkt
        else h.deferral c.pod c.pkt.addr c.pkt.ep false
      h.creditEnded c.pod
    else h

/-- Cells became free: what waited for them takes them (R178). -/
def Hub.roomFreed (h : Hub) : Hub := (if h.sched.statusDue then h.statusChange else h).creditTry

/-! #### Reservations (R175, R176, R223) -/

/-- The open reservation of an IN endpoint. -/
def Hub.rsvOf (h : Hub) (p : PodIx) (addr ep : Nat) : Option Rsv :=
  h.sched.rsvs.find? fun r => r.pod == p && r.addr == addr && r.ep == ep

/-- The expected charge of packets that will not come leaves OUTSTANDING and returns to the policer (R223). -/
def Hub.uncharge (h : Hub) (r : Rsv) (pkts : Nat) : Hub :=
  (h.modPq r.queue fun q => { q with out := q.out - pkts * r.charge }).polCredit r.pol (pkts * r.charge)

/-- The expected charge of a TT start-split whose data will not come, likewise. -/
def Hub.ttUncharge (h : Hub) (b : TtBuf) : Hub :=
  if b.counted = 0 then h else (h.modPq b.rel fun q => { q with out := q.out - b.counted }).polCredit b.pol b.counted

/-- TT buffers of a pod that satisfy a predicate are discarded. -/
def Hub.ttDrop (h : Hub) (p : PodIx) (q : TtBuf → Bool) : Hub :=
  let gone := (h.link p).tt.filter q
  gone.foldl (fun h b => h.ttUncharge b) (h.modLink p fun l => { l with tt := l.tt.filter fun b => !q b })

/-- A reservation's unused remainder is released (R176, R223). -/
def Hub.rsvEnd (h : Hub) (r : Rsv) : Hub :=
  (h.modSched fun s =>
    { s with rsvs := s.rsvs.filter fun x => !(x.pod == r.pod && x.addr == r.addr && x.ep == r.ep) }).uncharge r r.pkts

/-- The open reservation of an endpoint, if any, ends (R176). -/
def Hub.rsvEndOf (h : Hub) (p : PodIx) (addr ep : Nat) : Hub :=
  match h.rsvOf p addr ep with
  | some r => h.rsvEnd r
  | none => h

/-- Cells of a queue's limit that an endpoint's open reservation holds, which a new one replaces (R175, R215). -/
def Hub.rsvCellsIn (h : Hub) (p : PodIx) (addr ep : Nat) (n : QueueIx) : Nat :=
  match h.rsvOf p addr ep with
  | some r => if r.queue = n then r.cells else 0
  | none => 0

/-- A queue's CELL_LIM does not admit so many cells, `old` of which it frees (R215, R227). -/
def Hub.cellLimBlocks (h : Hub) (n : QueueIx) (old cells : Nat) : Bool := decide (h.cellLim n < h.queueCells n - old + cells)

/-- A reservation can be made: the pool, the pod's US_CAP and the queue's CELL_LIM permit it; the endpoint's earlier one is
replaced (R175). -/
def Hub.canReserve (h : Hub) (p : PodIx) (addr ep : Nat) (n : QueueIx) (cells : Nat) : Bool :=
  let old := match h.rsvOf p addr ep with
    | some r => r.cells
    | none => 0
  decide (cells ≤ h.poolFree + old) && decide (h.usHeld p - old + cells ≤ h.usCap p)
    && !h.cellLimBlocks n (h.rsvCellsIn p addr ep n) cells

/-- A reservation is made; it replaces the endpoint's open one (R175, R223). -/
def Hub.reserve (h : Hub) (r : Rsv) : Hub :=
  (h.rsvEndOf r.pod r.addr r.ep).notePool fun h => h.modSched fun s => { s with rsvs := s.rsvs ++ [r] }

/-- A header goes on to the device: at once, or behind what is stored for the pod's link (R181). -/
def Hub.sendHeader (h : Hub) (p : PodIx) (addr ep : Nat) (deferred : Bool) : Hub :=
  if (h.link p).down.isEmpty then (h.bump (cntLink p 1)).emit (.packet p.val addr ep 0 false deferred)
  else h.modLink p fun l => { l with down := l.down ++ [{ addr := addr, ep := ep, bytes := 0, deferred := deferred }] }

end Sys2Proof.Machine
end

