-- ==== Sys2Proof/Machine/LinkBase.lean ====
section
/-! DEFINITION. The ports of the D pods as shared operations: flush, disable, disconnect, over-current, bounce hold (R16, R55, R56,
R176, R177, R187, R188, R194, R196, R281, R287). -/

namespace Sys2Proof

/-- A SuperSpeed connection. -/
def Speed.ss : Speed → Bool
  | .gen1x1 | .gen2x1 | .gen2x2 => true
  | _ => false

/-- Whether a speed is that of a USB 2.0 connection. -/
def Speed.usb2 : Speed → Bool
  | .low | .full | .high => true
  | _ => false

/-- A link that keeps a connection: U0, U1, U2 or U3 (R53), Recovery and Hot Reset on the way between them. -/
def Ltssm.live : Ltssm → Bool
  | .u0 | .u1 | .u2 | .u3 | .recovery | .hotReset => true
  | _ => false

end Sys2Proof

namespace Sys2Proof.Machine

/-- A pod's speeds (R13). -/
def speedOk (p : PodIx) (s : Speed) : Bool :=
  match s with
  | .none => false
  | .gen2x2 => !isD p
  | .low | .full => isD p
  | _ => true

/-! #### What leaves with a port (R176, R194, R196) -/

/-- Packets stored for a port that a reset, disable or detach discards: on its link, and in its TT towards the device (R196). -/
def Hub.flushStored (h : Hub) (p : PodIx) : Nat := (h.link p).down.length + (h.link p).tt.countP fun b => !b.dirIn

/-- The packet of a held credit, and the waiting requests of a port, that are discarded with them (R196). -/
def Hub.flushWaiting (h : Hub) (p : PodIx) : Nat :=
  (List.finRange 64).foldl (fun a n => a + (h.pq n).reqs.countP fun r => r.pod = p) 0 + (h.creditOf p).toNat

/-- The time a request was held, and the time it waited for cells, count as it leaves its queue (R204, R232). -/
def Hub.reqWaited (h : Hub) (n : QueueIx) (r : PaceReq) : Hub :=
  let h := h.bumpBy (cntPq n 1) (h.clk - r.since)
  match r.cellAt with
  | some t => h.bumpBy (cntLink r.pod 17) (h.clk - t)
  | none => h

/-- The requests that satisfy a predicate leave their queues without a release (R196, R225). -/
def Hub.reqsDrop (h : Hub) (q : PaceReq → Bool) : Hub :=
  let h := (List.finRange 64).foldl (fun h n => ((h.pq n).reqs.filter q).foldl (fun h r => h.reqWaited n r) h) h
  h.modSched fun s => { s with pq := s.pq.map fun x => { x with reqs := x.reqs.filter fun r => !q r } }

/-- Every open reservation of a pod ends (R176). -/
def Hub.rsvEndPod (h : Hub) (p : PodIx) : Hub := (h.sched.rsvs.filter fun r => r.pod = p).foldl (fun h r => h.rsvEnd r) h

/-- The port's stored packets, waiting requests, reservations and TT data towards the device are discarded (R176, R177, R196). -/
def Hub.portFlush (h : Hub) (p : PodIx) : Hub :=
  let n := h.flushStored p
  let h := if n = 0 then h else h.linkEvt p 8
  let h := h.bumpBy (cntLink p 9) (n + h.flushWaiting p)
  let h := h.modLink p fun l => { l with down := [], dsRsv := 0, dsShort := decide (0 < l.dsNeed), u3Pending := false, u3Exit := false }
  let h := (h.ttDrop p fun b => !(b.dirIn && b.data.isSome)).reqsDrop fun r => r.pod == p
  let h := if h.creditOf p then (h.modSched fun s => { s with credit := none }).creditEnded p else h
  (h.rsvEndPod p).roomFreed

/-- A device is gone (R194, R211, R281): its snooped state, map entries and block are discarded. -/
def Hub.deviceGone (h : Hub) (p : PodIx) (addr : Nat) : Hub :=
  let h := h.mapInval addr
  let h := h.modSched fun s => { s with devs := s.devs.filter fun d => !(d.pod == p && d.addr == addr) }
  h.modFwl p fun f =>
    { f with blocked := f.blocked.filter fun a => a ≠ addr
             verdict := if f.policy || h.sched.devs.any (fun d => d.pod == p) then f.verdict else 0 }

/-- Every device below a pod is gone (R194). -/
def Hub.devicesGone (h : Hub) (p : PodIx) : Hub :=
  let h := ((h.sched.devs.filter fun d => d.pod = p).foldl (fun h d => h.deviceGone p d.addr) h)
  (h.modFwl p fun f => { f with blocked := [] }).modLink p fun l =>
    { l with devAddr := 0, dsNeed := 0, dsShort := false }

/-! #### Port states -/

/-- A disabled port (R195, R281): DIS_REASON codes are 1 host request, 2 BABBLE, 3 POLICY, 4 failover. -/
def Hub.portDisable (h : Hub) (p : PodIx) (reason : Nat) : Hub :=
  let l := h.link p
  let h := h.modLink p fun l =>
    { l with portEn := false, disReason := reason, shown := none
             ltssm := if l.onSs then .ssDisabled else l.ltssm
             u2 := if l.onSs then l.u2 else .disabled
             cEnable := l.cEnable || (l.portEn && reason ≠ 1) || reason = 3
             cLink := l.cLink || (l.speed.ss && l.portEn && reason ≠ 1), resetting := false }
  let h := h.portFlush p
  if (l.portEn && reason ≠ 1) || reason = 3 then h.statusChange else h

/-- A disconnect is reported on a port (R55, R56, R57): the device is gone, the port's data is discarded. -/
def Hub.portDisconnect (h : Hub) (p : PodIx) : Hub :=
  let was := (h.link p).conn
  let h := (h.deferForget p).modLink p fun l =>
    { l with speed := .none, ltssm := .rxDetect, u2 := .notConnected, portEn := false, conn := false
             cConn := l.cConn || l.conn, held := false, shown := none, shownU2 := none, viols := []
             resetting := false, warm := false, treeSusp := false
             disReason := if l.disReason = 3 then 3 else 0 }
  let h := (h.portFlush p).devicesGone p
  if was && isD p then h.statusChange else h

/-- The port of a pod that leaves its attached state: the link is off (R57). -/
def Hub.portGone (h : Hub) (p : PodIx) : Hub :=
  (h.portDisconnect p).modLink p fun l => { l with ltssm := .ssDisabled, oc := false }

/-- PORT_OVER_CURRENT with its change bit on each entry (R16). -/
def Hub.portOverCurrent (h : Hub) (p : PodIx) (on : Bool) : Hub :=
  if on then (h.modLink p fun l => { l with oc := true, cOc := true }).statusChange
  else h.modLink p fun l => { l with oc := false }

/-- The port may report its device (R287): authentication neither runs nor has failed where it is required. -/
def Hub.connAllowed (h : Hub) (p : PodIx) : Bool :=
  let a := (h.fwl p).auth
  !h.securePort p || !(a == .running || ((a == .failed || a == .timeout) && h.authRequired p))

/-- A device is detected on a port (R17, R287): it is reported, or held back. -/
def Hub.portConnect (h : Hub) (p : PodIx) : Hub :=
  if (h.link p).conn then h
  else if h.connAllowed p then
    (h.modLink p fun l =>
      { l with conn := true, cConn := true, held := false
               portEn := l.portEn || (l.speed.ss && l.ltssm == .u0 && l.disReason ≠ 3) }).statusChange
  else h.modLink p fun l => { l with held := true }

/-- A connection is withdrawn while authentication runs or after it failed (R287): the device is held back. -/
def Hub.portHide (h : Hub) (p : PodIx) : Hub :=
  if (h.link p).conn then (h.modLink p fun l => { l with conn := false, cConn := true, portEn := false, held := true }).statusChange
  else h

/-- A device held back is reported (R287, R301). -/
def Hub.portReveal (h : Hub) (p : PodIx) : Hub := if (h.link p).held then h.portConnect p else h

/-- Stored packets keep their cells: what a smaller reservation no longer holds stands in pool cells, the newest first (R174,
R177). -/
def spillTo : Nat → List DownPkt → List DownPkt
  | _, [] => []
  | room, x :: l =>
    { x with inRsv := min room x.inRsv, inPool := x.inPool + (x.inRsv - min room x.inRsv) } :: spillTo (room - min room x.inRsv) l

/-- A downstream reservation of `want` cells, as far as the pool and DS_TOTAL supply it (R177). -/
def Hub.dsReserve (h : Hub) (p : PodIx) (want : Nat) : Hub :=
  let old := (h.link p).dsRsv
  if want ≤ old then
    (h.modLink p fun l => { l with dsRsv := want, dsShort := decide (want < l.dsNeed), down := spillTo want l.down }).roomFreed
  else
    let total := h.dsRsvSum
    if total - old + want ≤ h.dsTotal ∧ want - old ≤ h.poolFree then
      h.notePool fun h => h.modLink p fun l => { l with dsRsv := want, dsShort := decide (want < l.dsNeed) }
    else
      let h := if h.dsTotal < total - old + want then h.shellEvt 1 else h
      h.modLink p fun l => { l with dsShort := true }

/-- The USB 2.0 ports that suspended with the upstream connection, or followed it into L1, resume with it (R185). -/
def Hub.treeResume (h : Hub) : Hub :=
  ((List.finRange 16).filter isD).foldl
    (fun h p =>
      if ((h.link p).u2 == .suspended && (h.link p).treeSusp) || (h.link p).u2 == .l1 then
        h.modLink p fun l => { l with u2 := .enabled, treeSusp := false }
      else h) h

/-- A link comes up (R54, R177): SuperSpeed in U0 or USB 2.0 enabled; 2 cells are reserved at the connection. An exit from U3
sets C_PORT_LINK_STATE (R5, R184). -/
def Hub.linkUpAt (h : Hub) (p : PodIx) (speed : Speed) : Hub :=
  let old := h.link p
  let h := h.modLink p fun l =>
    { l with speed := speed, shown := none, shownU2 := none, onSs := speed.ss, resetting := false, warm := false
             treeSusp := false
             cLink := l.cLink || (speed.ss && isD p && (l.u3Exit || l.ltssm == .u3)), u3Exit := false
             cReset := l.cReset || l.resetting, cBhReset := l.cBhReset || (l.resetting && l.warm)
             cSuspend := l.cSuspend || ((l.u2 == .suspended || l.u2 == .resuming) && speed.usb2 && !l.treeSusp && isD p)
             ltssm := if speed.ss then .u0 else .ssDisabled
             u2 := if speed.usb2 then .enabled else .notConnected }
  let h := if old.ltssm == .u1 || old.ltssm == .u2 || old.ltssm == .u3 then h.bump (cntLink p 11) else h
  if isD p then
    let h := if old.resetting || (h.link p).cSuspend != old.cSuspend || (h.link p).cLink != old.cLink then h.statusChange else h
    let h := (h.portConnect p).modLink p fun l =>
      { l with portEn := l.conn && l.disReason ≠ 3, disReason := if l.disReason = 3 then 3 else 0 }
    let h := if (h.link p).dsRsv = 0 then h.dsReserve p (min 2 (h.dsCap p)) else h
    h.u3Try p
  else h.treeResume

/-! #### Bounce hold (R55, R56, R187-R189) -/

/-- The link at the start of a hold: the port shows its last state; a USB 2.0 connection is treated as suspended. -/
def Hub.linkHoldStart (h : Hub) (p : PodIx) : Hub :=
  let h := (h.link p).waking.foldl (fun h e => h.deferTable p e) h
  h.modLink p fun l =>
    if l.speed.ss then { l with shown := some l.ltssm, ltssm := .rxDetect, waking := [] }
    else { l with shownU2 := some l.u2, u2 := .suspended, waking := [] }

/-- The deferred headers that wait for a link are sent, in the order in which they were made (R187, R188). -/
def Hub.sendDeferred (h : Hub) (p : PodIx) : Hub :=
  (((h.link p).deferred ++ (h.link p).waking).foldl (fun h d => h.sendHeader p d.addr d.ep true) h).modLink p fun l =>
    { l with deferred := [], waking := [] }

/-- The link is back at its old speed (R56). -/
def Hub.linkHoldRecovered (h : Hub) (p : PodIx) (speed : Speed) : Hub :=
  (h.modLink p fun l =>
    if speed.ss then { l with shown := none, ltssm := .u0 } else { l with shownU2 := none, u2 := l.shownU2.getD .enabled }).sendDeferred p

/-- A USB disconnect ends a hold (R56, R67): the end of a bounce hold with ending event `code` of record 0x1021; code 0 is a
recovery. Codes 1, 2 and 7 are expiries, which clear BH_AVAIL (R54); 1, 2, 5 and 7 leave the pod in Attached.SRC and set
BH_EXPIRE. -/
def Hub.endHold (h : Hub) (p : PodIx) (code : Nat) : Hub :=
  match (h.tc p).hold with
  | none => h
  | some hd =>
    let dur := min 0xFFFF ((h.clk - hd.since) / 1000)
    let h := h.modTc p fun t =>
      { t with hold := none, state := if t.state == .bounceHold then .attachedSrc else t.state, lastResult := code ≠ 0, lastDur := dur
               bhAvail := if code = 1 ∨ code = 2 ∨ code = 7 then false else t.bhAvail }
    if code = 0 then ((h.tcEvt p 4).bump (cntTc p 3)).raise (srcTc p) 0x1020 1 (le16 dur)
    else
      let h := if code = 1 ∨ code = 2 ∨ code = 5 ∨ code = 7 then (h.tcEvt p 5).bump (cntTc p 4) else h
      (h.raiseAt hd.lossTb (srcTc p) 0x1021 2 (le16 dur ++ [code])).portDisconnect p

/-! #### The firewall at a detach -/

/-- The work of a pod's exchange leaves the signature engine (R286, R301). -/
def Hub.authFree (h : Hub) (p : PodIx) : Hub :=
  h.modSec fun c =>
    { c with engine := c.engine.filter fun j => match j with
        | .chain q | .challenge q => q ≠ p
        | _ => true }

/-- A detach on a pod (R281, R286, R301): the exchange is abandoned, its engine work freed, the result and a POLICY disable end. -/
def Hub.secDetach (h : Hub) (p : PodIx) : Hub :=
  let h := h.modFwl p fun f => { rootUsed := f.rootUsed }
  (h.authFree p).modLink p fun l => { l with disReason := 0, held := false }

end Sys2Proof.Machine
end

