-- ==== Sys2Proof/Machine/NvmBase.lean ====
section
/-! DEFINITION. Errors of the symbol code, the hold-up check, stores and the deferral queue (R307, R308, R315, R318-R320). -/

namespace Sys2Proof.Machine

/-! #### Errors of the symbol code (R307, R308) -/

/-- ECC_ADDR and record 0x8002 of a hard or uncorrectable error (R326, R330). -/
def Hub.eccRecord (h : Hub) (mem word : Nat) (hard : Bool) (consequence : Nat) : Hub :=
  (h.modNvm fun n => { n with eccMem := mem, eccHard := hard, eccWord := word }).raise srcNvm 0x8002 3
    ([mem, hard.toNat, consequence, 0] ++ le32 word)

/-- A second has passed since the last summary record of a memory (R308). -/
def Hub.eccDue (h : Hub) (mem : Fin 5) : Bool :=
  match h.nvm.ceSince[mem.val] with
  | none => true
  | some t => decide (t + ticksPerSecond ≤ h.clk)

/-- The summary record of the errors counted since the last one, which opens the next second; with CE_JNL_EN 0 the second passes
without a record (R308, R330). -/
def Hub.eccSummary (h : Hub) (mem : Fin 5) : Hub :=
  let n := h.nvm
  let h := h.modNvm fun n => { n with ceSince := n.ceSince.set mem.val (some h.clk), ceCount := n.ceCount.set mem.val 0 }
  if h.ceJnlEn then
    h.raise srcNvm 0x8001 1 ([mem.val, 0, 0, 0] ++ le32 n.ceCount[mem.val] ++ le32 n.ceWord[mem.val])
  else h

/-- A correctable error joins the count of its memory: the summary comes at once, or when the second since the last one is over
(R308). -/
def Hub.eccCount (h : Hub) (mem : Fin 5) (word : Nat) : Hub :=
  let h := h.modNvm fun n =>
    { n with ceCount := n.ceCount.set mem.val (n.ceCount[mem.val] + 1), ceWord := n.ceWord.set mem.val word }
  if h.eccDue mem then h.eccSummary mem else h

/-- The seconds that are over: what came in them after their record is journaled now (R308). -/
def Hub.eccFlush (h : Hub) : Hub :=
  (List.finRange 5).foldl (fun h mem => if h.nvm.ceCount[mem.val] ≠ 0 && h.eccDue mem then h.eccSummary mem else h) h

/-- A correctable error: corrected, written back, counted; hard if it remains (R308). -/
def Hub.eccCe (h : Hub) (mem : Fin 5) (word : Nat) (hard : Bool) : Hub :=
  let h := ((h.eccEvt mem.val).bump (cntNvm (2 * mem.val))).eccCount mem word
  if hard then ((h.eccEvt 10).bump (cntNvm 10)).eccRecord mem.val word true 0 else h

/-- An uncorrectable error with its consequence code (R307, R330). -/
def Hub.eccUe (h : Hub) (mem : Fin 5) (word consequence : Nat) : Hub :=
  ((h.eccEvt (5 + mem.val)).bump (cntNvm (2 * mem.val + 1))).eccRecord mem.val word false consequence

/-- The error of a read lasts: hard, or back after rewriting (R310). -/
def lastingErr : EccRead → Bool
  | .corrected hard => hard
  | .uncorrectable recurs => recurs
  | .clean => false

/-- A read is uncorrectable. -/
def isUe : EccRead → Bool
  | .uncorrectable _ => true
  | _ => false

/-- What a read found, taken note of (R308). -/
def Hub.eccSeen (h : Hub) (mem : Fin 5) (word consequence : Nat) (r : EccRead) : Hub :=
  match r with
  | .clean => h
  | .corrected hard => h.eccCe mem word hard
  | .uncorrectable _ => h.eccUe mem word consequence

/-- What a read showed where no command says it: a free value. -/
def Hub.freeRead (h : Hub) : EccRead :=
  match (Config.partWord 4 h.freeCtr).toNat % 5 with
  | 0 => .corrected false
  | 1 => .corrected true
  | 2 => .uncorrectable false
  | _ => .clean

/-- What reads of MRAM showed, taken note of (R307). -/
def Hub.mramRead (h : Hub) (x : MramRead) : Hub :=
  match x.read with
  | .clean => h
  | .corrected hard => h.eccCe 4 x.word hard
  | .uncorrectable _ => h.eccUe 4 x.word 6

/-! #### The hold-up check (R318) -/

/-- The class of a store (R318). -/
def storeClass : Store → StoreClass
  | .record _ => .journal
  | .config _ => .config
  | .firmware _ _ _ _ => .firmware
  | .erase _ => .erase

/-- The cost of a class in microjoules (R318). -/
def Hub.storeCost (h : Hub) : StoreClass → Nat
  | .journal => h.costJnl
  | .config => h.costCfg
  | .firmware => h.costFw
  | .erase => h.costErase

/-- E in microjoules at a hold-up voltage in 1/256 mV, rounded down (R318); the costs are whole microjoules. -/
def Hub.energyAt (h : Hub) (v : Nat) : Nat :=
  let vmin := 256 * h.huVmin
  if v ≤ vmin then 0 else h.huCap * (v * v - vmin * vmin) / (2000000 * 65536)

/-- E with the latest measurement and the HOLDUP fields in force; 0 in HOLDUP's safe response (R313, R318). -/
def Hub.energy (h : Hub) : Nat := if h.inSafe 5 then 0 else h.energyAt h.nvm.huV

/-- The energy covers a class (R318). -/
def Hub.energyFor (h : Hub) (c : StoreClass) : Bool := decide (h.storeCost c ≤ h.energy)

/-- A store may start now: its cost is covered and no earlier store of its class is deferred (R318, R319). -/
def Hub.storeOk (h : Hub) (c : StoreClass) : Bool :=
  h.energyFor c && !(h.nvm.deferQ.any fun d => storeClass d.store == c)

/-- A store aims at the active bank (R321). -/
def Hub.toActive (h : Hub) : Store → Bool
  | .firmware k _ _ _ => k == h.nvm.active
  | _ => false

/-- A store to the active bank is refused, counted and journaled (R321, R330). -/
def Hub.activeRefused (h : Hub) (s : Store) : Hub :=
  (h.bump (cntNvm 24)).raise srcNvm 0xA105 3 [match s with | .firmware _ _ _ m => m | _ => 0]

/-- Bytes an entry takes in the deferral queue (R320). -/
def deferBytes (d : Deferred) : Nat := if storeClass d.store = .journal then 40 else 264

/-- The bytes taken in the deferral queue, with the places of the entries that are being carried out (R320). -/
def Nvm.deferUsed (n : Nvm) : Nat := sumBy deferBytes n.deferQ + sumBy deferBytes (n.inStore.filter Deferred.held)

/-- An entry of `n` bytes fits in the deferral queue (R320). -/
def Hub.deferFits (h : Hub) (n : Nat) : Bool := decide (h.nvm.deferUsed + n ≤ 65536)

/-- A store is deferred (R319). -/
def Hub.storeDefer (h : Hub) (s : Store) : Hub :=
  ((h.modNvm fun n => { n with deferQ := n.deferQ ++ [{ store := s, since := h.clk }] }).huEvt 0).bump (cntNvm 20)

/-- A page store would be refused for want of queue room (R320). -/
def Hub.pageRefused (h : Hub) (c : StoreClass) : Bool := !h.storeOk c && !h.deferFits 264

/-- A page that fails the check and finds no room: refused with QUEUE_FULL; a page of the erase sequence waits instead (R320). -/
def Hub.pageNoRoom (h : Hub) (c : StoreClass) : Hub := if c = .erase then h else (h.huEvt 2).bump (cntNvm 21)

/-- A page that fails the check is deferred, or finds no room (R319, R320). -/
def Hub.pageDefer (h : Hub) (s : Store) : Hub := if h.deferFits 264 then h.storeDefer s else h.pageNoRoom (storeClass s)

/-! #### Journal records that are lost (R320) -/

/-- A record is among those the next gap record will tell of (R320). -/
def Nvm.lose (n : Nvm) (r : Rec) : Nvm :=
  { n with lost := n.lost + 1, lostTb := if n.lost = 0 then r.tb else n.lostTb
           lostUns := if n.lost = 0 then r.flags.testBit 1 else n.lostUns }

/-- Two records are one but for the flag of a deferral (R316, R319). -/
def recSame (a b : Rec) : Bool := { a with flags := a.flags / 2 } == { b with flags := b.flags / 2 }

/-- A collected record that is lost is not acknowledged: its worker sends it again (R268). -/
def Hub.collectLost (h : Hub) (r : Rec) : Hub :=
  h.modCsb fun c => { c with jcolAcks := c.jcolAcks.filter fun a => !a.2.2.any fun x => recSame x r }

/-- A journal record is lost (R320). -/
def Hub.recordLost (h : Hub) (r : Rec) : Hub := (((h.modNvm fun n => n.lose r).collectLost r).jnlEvt 0).bump (cntNvm 18)

/-- The first deferred journal record of a lower severity, removed (R320). -/
def displace (sev : Nat) : List Deferred → Option (Rec × List Deferred)
  | [] => none
  | d :: rest =>
    match d.store with
    | .record r =>
      if r.sev < sev then some (r, rest)
      else (displace sev rest).map fun x => (x.1, d :: x.2)
    | _ => (displace sev rest).map fun x => (x.1, d :: x.2)

/-- A journal record that fails the check is deferred, displaces another, or is lost (R319, R320). -/
def Hub.recordDefer (h : Hub) (r : Rec) : Hub :=
  if h.deferFits 40 then h.storeDefer (.record r)
  else if r.sev < 3 then h.recordLost r
  else
    match displace r.sev h.nvm.deferQ with
    | none => h.recordLost r
    | some (old, q) => ((h.modNvm fun n => { n with deferQ := q }).recordLost old).storeDefer (.record r)

/-- A store that waited for the unit fails the check: one that came from the deferral queue goes back to its place at the front, any
other is deferred (R319, R320). -/
def Hub.lineDefer (h : Hub) (d : Deferred) : Hub :=
  if d.held then h
  else
    match d.store with
    | .record r => h.recordDefer r
    | s => h.pageDefer s

/-- The gap record, before the next journal store that passes the check (R320); below JNL_MIN_SEV it is counted only (R315). -/
def Hub.gapRecord (h : Hub) : Hub :=
  let first := h.nvm.inStore.head?.any fun d => storeClass d.store == .journal
  if h.nvm.lost = 0 || !first then h
  else
    let r : Rec := { tb := h.nvm.lostTb, devId := h.csb.myId, src := srcNvm, code := 0x8020, sev := 3
                     flags := if h.nvm.lostUns then 10 else 8, data := le32 h.nvm.lost }
    let h := h.modNvm fun n => { n with lost := 0 }
    if 3 < h.jnlMinSev then h.bump (cntNvm 19)
    else h.modNvm fun n => { n with inStore := { store := .record r, since := h.clk } :: n.inStore }

/-- The unit is free: the first waiting store that its energy covers starts, each class in its own order; the stores of a class that
fails the check are deferred (R318, R319); those to the active bank are refused (R321). -/
def Hub.lineStart (h : Hub) : Hub :=
  let bad := h.nvm.inStore.filter fun d => h.toActive d.store
  let h := bad.foldl (fun h d => h.activeRefused d.store) (h.modNvm fun n => { n with inStore := n.inStore.filter fun d => !h.toActive d.store })
  let line := h.nvm.inStore
  let short := (line.map fun d => storeClass d.store).takeWhile fun c => !h.energyFor c
  let out := line.filter fun d => short.contains (storeClass d.store)
  let back := out.filter Deferred.held
  let h := h.modNvm fun n =>
    { n with inStore := line.filter fun d => !short.contains (storeClass d.store)
             deferQ := (back.map fun d => { d with held := false }) ++ n.deferQ, drainCnt := n.drainCnt - back.length }
  (out.foldl Hub.lineDefer h).gapRecord

/-- A store joins those that wait for the unit, and starts where it is free (R318). -/
def Hub.linePut (h : Hub) (d : Deferred) : Hub :=
  let free := h.nvm.inStore.isEmpty
  let h := h.modNvm fun n => { n with inStore := n.inStore ++ [d] }
  if free then h.lineStart else h

/-- An earlier store of a class is deferred: none of it may start (R319). -/
def Hub.classDeferred (h : Hub) (c : StoreClass) : Bool := h.nvm.deferQ.any fun d => storeClass d.store == c

/-- A page store: to the active bank, refused; else it starts, waits its turn, is deferred, or is refused with QUEUE_FULL (R318-R321).
The requester asks `pageRefused` first. -/
def Hub.pageStore (h : Hub) (s : Store) : Hub :=
  if h.toActive s then h.activeRefused s
  else if h.pageRefused (storeClass s) then h.pageNoRoom (storeClass s)
  else if h.classDeferred (storeClass s) then h.storeDefer s
  else h.linePut { store := s, since := h.clk }

/-- A record that reaches the NVM unit (R315, R318-R320): below JNL_MIN_SEV it is counted only. -/
def Hub.recordStore (h : Hub) (r : Rec) : Hub :=
  if r.sev < h.jnlMinSev then h.bump (cntNvm 19)
  else if h.classDeferred .journal then h.recordDefer r
  else h.linePut { store := .record r, since := h.clk }

/-! #### Banks -/

/-- The idle bank (R321). -/
def Nvm.idle (n : Nvm) : Bank := if n.active = .a then .b else .a

/-- A bank's state. -/
def Nvm.bank (n : Nvm) (k : Bank) : BankInfo := if k = .a then n.bankA else n.bankB

/-- A bank's state, changed. -/
def Nvm.modBank (n : Nvm) (k : Bank) (f : BankInfo → BankInfo) : Nvm :=
  if k = .a then { n with bankA := f n.bankA } else { n with bankB := f n.bankB }

/-- The number of a bank (R328). -/
def bankNo (k : Bank) : Nat := if k = .a then 0 else 1

/-- The image held in a bank, page by page. -/
def BankInfo.image (b : BankInfo) : List (BitVec 8) := b.pages.flatMap Prod.snd

end Sys2Proof.Machine
end

