-- ==== Sys2Proof/Machine/BudgetBase.lean ====
section
/-! DEFINITION. Charges, headroom and claims (R153, R154, R156), and the queue of the regulator link (R164, R166). -/

namespace Sys2Proof.Machine

/-- VIN_SNS as measured, in 2 mV units (R168). -/
def Hub.budVin (h : Hub) (vin : Nat) : Hub := h.modBud fun b => { b with vinMeas := min 1023 vin }

/-- The input warning is asserted (R158). -/
def Hub.budWarn (h : Hub) : Bool := h.bud.warnVin || h.bud.warnOver

/-- A consumer is shed. -/
def Hub.consShed (h : Hub) (x : PathIx) : Bool := (h.cons x).shed

/-- The implicit charge at an Rp level in 0.25 W units: 4.5, 7.5 or 15 W (R154). -/
def implicitCharge (level : Nat) : Nat := if level = 0 then 18 else if level = 1 then 30 else 60

/-- The implicit current at an Rp level in 10 mA units: 0.9 A (4.5 W at 5 V), 1.5 A, 3.0 A (R121, R154). -/
def implicitCurrent (level : Nat) : Nat := if level = 0 then 90 else if level = 1 then 150 else 300

/-- I_C of a pod without an explicit contract (R121). -/
def Hub.implicitIc (h : Hub) (p : PodIx) : Nat := implicitCurrent (h.tc p).rpLevel

/-- The charge of a source pod without an explicit contract (R154): 0 while it is shed. DESIGN CHOICE (log 114): at a trip too. -/
def Hub.implicitOf (h : Hub) (p : PodIx) : Nat :=
  if h.consShed (podPath p) then 0 else implicitCharge (h.tc p).rpLevel

/-- The charge of a pod that is not attached as source (R154). -/
def Hub.idleCharge (h : Hub) (p : PodIx) : Nat :=
  if h.tcEn p && !(h.tc p).state == .attachedSnk && (isD p || h.tcRole p ≠ 2) && !h.consShed (podPath p) then 18 else 0

/-- The sum of the charges (R154). -/
def Hub.chargeSum (h : Hub) : Nat := h.bud.cons.toList.foldl (fun a q => a + q.charge) 0

/-- A frame queued on a CSB segment whose link is up (R256). -/
def Hub.csbQueue (h : Hub) (p : PodIx) (f : CsbFrame) : Hub :=
  if (h.clink p).state = 1 || (h.clink p).state = 2 then h.modClink p fun l => { l with queue := l.queue ++ [f] } else h

/-- A frame queued towards the manager (R262). -/
def Hub.csbUp (h : Hub) (b : CsbBody) : Hub :=
  if h.csb.parentUp then
    h.csbQueue (upPod h.csb.parentPod) { dst := 0, src := if h.csb.joined then h.csb.myId else 0x7E, body := b }
  else h

/-- GRANT_ACK, once the sum of charges is at or below the grant (R267). -/
def Hub.grantAckCheck (h : Hub) : Hub :=
  if h.csb.ackDue && decide (h.chargeSum ≤ h.bud.grant) then
    (h.modCsb fun c => { c with ackDue := false }).csbUp (.grantAck h.chargeSum)
  else h

/-- A charge is set (R154). -/
def Hub.budSetCharge (h : Hub) (x : PathIx) (c : Nat) : Hub :=
  (h.modCons x fun q => { q with charge := c, rpLower := false }).grantAckCheck

/-- The states in which the pod supplies the partner. DESIGN CHOICE (log 114): BOUNCE_HOLD keeps Rp and charge as Attached.SRC
does. -/
def Tc.srcAttached (t : Tc) : Bool := t.state == .attachedSrc || t.state == .bounceHold

/-- The charges of the pods not attached as source follow TC_EN, ROLE and the shed state (R154). -/
def Hub.budIdle (h : Hub) : Hub :=
  (List.finRange 16).foldl
    (fun h p =>
      if (h.tc p).srcAttached || (h.cons (podPath p)).charge == h.idleCharge p then h
      else h.budSetCharge (podPath p) (h.idleCharge p)) h

/-- What a consumer keeps under R155: its target where one cuts it, else its charge. -/
def Consumer.kept (q : Consumer) : Nat :=
  match q.target with
  | some t => min t q.charge
  | none => q.charge

/-- The headroom of R155 over the present charges and targets. -/
def Hub.headroomNow (h : Hub) : Int :=
  (h.bud.bEff : Int) - (h.bud.cons.toList.foldl (fun a q => if q.shed || q.marked then a else a + q.kept) 0 : Nat)

/-- HEAD_RSV kept back from a class, in 0.25 W units (R155). -/
def Hub.headRsvBelow (h : Hub) (c : Nat) : Nat :=
  (List.range 7).foldl (fun a k => if k < c then a + 4 * h.headRsv k else a) 0

/-- The visible headroom of a consumer for a headroom `hr` (R155). -/
def Hub.visible (h : Hub) (hr : Int) (x : PathIx) : Nat := (hr - (h.headRsvBelow (h.prio x) : Int)).toNat

/-- A claim is granted if the visible headroom covers the increase; none while the charges exceed B, or while BUDGET is in its
safe response (R156, R313). -/
def Hub.budClaimOk (h : Hub) (x : PathIx) (newCharge : Nat) : Bool :=
  !h.inSafe 26 && decide (h.chargeSum ≤ h.bud.bEff) &&
    decide (newCharge - (h.cons x).charge ≤ h.visible h.headroomNow x)

/-- A refused claim for a new charge (R156): the claim is the increase. A worker's refused claim sends a demand (R264). -/
def Hub.budRefused (h : Hub) (x : PathIx) (c : Nat) : Hub :=
  ((h.budEvt 6).bump (cntBud 4)).modCsb fun k =>
    { k with refusals := k.refusals.set x (some (c - (h.cons x).charge, h.clk)), demandDue := k.demandDue || k.joined }

/-- An outlet's charge is released (R134). -/
def Hub.outletRelease (h : Hub) (x : PathIx) : Hub :=
  match pathPod x with
  | some _ => h
  | none => (h.budSetCharge x 0).modOutlet x fun q => { q with grant := none }

/-! #### The queue of the regulator link -/

/-- The enabled slot of an owner (R164). -/
def Hub.slotOf (h : Hub) (owner : Nat) : Option (Fin 32) :=
  (List.finRange 32).find? fun n => h.slotEn n && h.slotOwner n == owner

/-- A request for an owner without an enabled linear slot fails at once with result 5 (R164); a slot of a BUDGET or RLINK
block in its safe response fails the same way (R313). DESIGN CHOICE (log 80): where the owner has no enabled slot, record 0x3201
has slot 0xFF and address 0, which the spec does not give. -/
def Hub.rlFailNow (h : Hub) (owner : Nat) : Hub :=
  match h.slotOf owner with
  | some n =>
    (h.modSlot n fun s => { s with lastRes := 5 }).raise srcRl 0x3201 3 [n.val, (h.slotAddr n).toNat, 5, 0, 0, 0]
  | none => h.raise srcRl 0x3201 3 [0xFF, 0, 5, 0, 0, 0]

/-- An owner's slot takes requests: it is enabled, linear, and not faulted by parity (R164, R313). -/
def Hub.slotUsable (h : Hub) (owner : Nat) : Bool :=
  match h.slotOf owner with
  | some n => !(h.rl.slots[n]).fault && !h.slotParity n
  | none => false

/-- A request is queued; it replaces the owner's earlier request that has not started (R166). -/
def Hub.rlEnqueue (h : Hub) (r : RlReq) : Hub :=
  h.modRl fun l => { l with queue := (l.queue.filter fun q => q.owner ≠ r.owner) ++ [r] }

/-- A request is made (R164, R166, R171). The requester of a converter does not act on an immediate failure (R165). -/
def Hub.rlRequest (h : Hub) (owner : Nat) (k : RlKind) : Hub :=
  let h := h.bump (cntBud 6)
  if h.slotUsable owner then h.rlEnqueue { owner := owner, kind := k } else h.rlFailNow owner

end Sys2Proof.Machine
end

