-- ==== Sys2Proof/Machine/MbxBase.lean ====
section
/-! DEFINITION. Messages, rings and jobs of the mailbox (R360-R369): the CRC, response storing, ring clear, restart abort. -/

namespace Sys2Proof.Machine

/-- A byte. -/
abbrev Byte := BitVec 8

/-! #### Messages -/

/-- One bit of the CRC-16 of R362. -/
def crcBit (c : BitVec 16) : BitVec 16 := if c.getLsbD 15 then (c <<< 1) ^^^ 0x1021 else c <<< 1

/-- One byte of the CRC-16 of R362. -/
def crcByte (c : BitVec 16) (b : Byte) : BitVec 16 :=
  (List.range 8).foldl (fun a _ => crcBit a) (c ^^^ (b.setWidth 16 <<< 8))

/-- The CRC-16 of R362 over bytes. -/
def crc16 (bs : List Byte) : BitVec 16 := bs.foldl crcByte 0xFFFF

/-- A byte of a message; 0 past its end. -/
def byteAt (bs : List Byte) (i : Nat) : Nat := (bs.getD i 0).toNat

/-- Two bytes, little-endian (R360). -/
def u16 (bs : List Byte) (i : Nat) : Nat := byteAt bs i + 256 * byteAt bs (i + 1)

/-- Four bytes, little-endian. -/
def u32 (bs : List Byte) (i : Nat) : Nat := u16 bs i + 65536 * u16 bs (i + 2)

/-- Eight bytes, little-endian. -/
def u64 (bs : List Byte) (i : Nat) : Nat := u32 bs i + 2 ^ 32 * u32 bs (i + 4)

/-- `n` little-endian bytes of a number. -/
def putLe (n v : Nat) : List Byte := (List.range n).map fun i => BitVec.ofNat 8 (v / 256 ^ i)

/-- The four bytes of a word. -/
def wordBytes (w : Word) : List Byte := putLe 4 w.toNat

/-- Header bytes 0-13 of a message (R360, R361). -/
def headBytes (opcode tag len flags seq : Nat) : List Byte :=
  putLe 2 opcode ++ putLe 2 tag ++ putLe 2 len ++ putLe 2 flags ++ putLe 4 seq ++ putLe 2 0

/-- A whole message with its CRC (R360, R362). -/
def message (opcode tag flags seq : Nat) (payload : List Byte) : List Byte :=
  let hd := headBytes opcode tag payload.length flags seq
  hd ++ putLe 2 (crc16 (hd ++ payload)).toNat ++ payload

/-- The bytes of a command message, as a worker or the internal ring sees it. -/
def Msg.bytes (m : Msg) : List Byte := message m.opcode m.tag.toNat 0 0 m.payload

/-- An urgent ring (R364). -/
def urgentRing (r : RingIx) : Bool := r.val = 1 || r.val = 3

/-- The bytes of a held response (R360, R361). -/
def Resp.bytes (x : Resp) (r : RingIx) : List Byte :=
  message x.opcode x.tag.toNat (1 + (if urgentRing r then 2 else 0) + (if x.completion then 4 else 0)) x.seq x.payload

/-! #### Tags and slots -/

/-- A tag is in use on a ring (R367). -/
def Hub.tagUsed (h : Hub) (r : RingIx) (t : BitVec 16) : Bool :=
  let g := h.ring r
  g.cmds.any (fun m => m.tag == t) || (match g.running with | some m => m.tag == t | none => false)
    || g.resps.any (fun x => x.tag == t)
    || h.mbx.jobs.toList.any fun j => match j with | some j => j.ring == r && j.tag == t | none => false

/-- A response slot of a ring is free (R365); a running command has its own reserved. -/
def Hub.respFree (h : Hub) (r : RingIx) : Bool :=
  (h.ring r).resps.length + (if (h.ring r).running.isSome then 1 else 0) < 8

/-- Held responses of a ring that are not yet delivered (R384, R396): on ring 4 a response is held until its link acknowledgement,
which delivers it. -/
def Hub.undelivered (h : Hub) (r : RingIx) : Nat :=
  if r.val = 4 then (h.ring r).resps.length else (h.ring r).resps.countP fun x => !x.delivered

/-- The master ID a ring's commands carry (R364, R378). -/
def Hub.ringMaster (h : Hub) (r : RingIx) : Master :=
  if r.val ≤ 1 then 2 else if r.val ≤ 3 then 3 else if r.val = 4 then 4 else if h.mbx.policy.isSome then 0 else 1

/-- STALLED (R365, R398): the ring's next command waits for a response slot; the time is counted when the wait ends. -/
def Hub.stallEval (h : Hub) (r : RingIx) : Hub :=
  let g := h.ring r
  let now := !g.cmds.isEmpty && g.running.isNone && !h.respFree r
  if now && !g.stalled then h.modRing r fun g => { g with stalled := true, stallAt := h.clk }
  else if !now && g.stalled then (h.bumpBy (cntRing r 2) (h.clk - g.stallAt)).modRing r fun g => { g with stalled := false }
  else h

/-- ERDY of an MF bulk endpoint: at SuperSpeed alone, as high speed has none (R370, R371). -/
def Hub.mfReady (h : Hub) (r : RingIx) : Hub := if r.val ≤ 1 && h.upstreamSs then h.mfSay r (.mbxReady r.val) else h

/-- All command slots of a ring are used. -/
def Hub.cmdFull (h : Hub) (r : RingIx) : Bool := decide (8 ≤ (h.ring r).cmds.length)

/-- What empties command slots of a ring: the MF hears ERDY where a full ring has a free slot again (R370). -/
def Hub.freeSlots (h : Hub) (r : RingIx) (f : Hub → Hub) : Hub :=
  if h.cmdFull r && !(f h).cmdFull r then (f h).mfReady r else f h

/-- A record with source block MBX (R397). -/
def Hub.mbxRaise (h : Hub) (code sev : Nat) (data : List Nat) : Hub := h.raise srcMbx code sev data

/-! #### Responses -/

/-- A response is stored (R363, R366): it takes the ring's next sequence number. A response on ring 5 other than OK is
journaled; every response there is acknowledged at once (R378). `job` is the number of the job a completion ends (R387). -/
def Hub.storeResp (h : Hub) (r : RingIx) (opcode : Nat) (tag : BitVec 16) (completion : Bool) (status detail : Nat)
    (data : List Byte) (job : Nat := 0) : Hub :=
  let h := h.bump (cntRing r 1)
  if r.val = 5 then
    let h := h.modRing r fun g => { g with nextSeq := (g.nextSeq + 1) % 2 ^ 32 }
    if status ≠ 0 then h.mbxRaise 0xA004 3 (le16 opcode ++ le16 status ++ le16 detail) else h
  else
    let h := h.modRing r fun g =>
      { g with
        resps := g.resps ++ [{ opcode := opcode, tag := tag, seq := g.nextSeq, completion := completion, job := job
                               payload := putLe 2 status ++ putLe 2 detail ++ data }]
        nextSeq := (g.nextSeq + 1) % 2 ^ 32 }
    (h.mfReady r).stallEval r

/-- BUSY_RESTART (R363, R369): dropped and counted where no response slot is free. -/
def Hub.busyRestart (h : Hub) (r : RingIx) (opcode : Nat) (tag : BitVec 16) (completion : Bool) (detail : Nat)
    (job : Nat := 0) : Hub :=
  let h := h.bump (cntMbx 4)
  if (h.ring r).resps.length < 8 then h.storeResp r opcode tag completion 9 detail [] job
  else (h.mbxEvt 7).bump (cntMbx 5)

/-- The jobs of a ring. -/
def Hub.jobsOn (h : Hub) (r : RingIx) : List (Fin 8) :=
  (List.finRange 8).filter fun j => match h.mbx.jobs[j] with | some x => x.ring == r | none => false

/-- A ring clear (R369): causes of record 0xA002 are 1 EP0 request, 2 CLEAR, 3 step 2 of R24. -/
def Hub.ringClear (h : Hub) (r : RingIx) (cause : Nat) : Hub :=
  let g := h.ring r
  let h := h.freeSlots r fun h =>
    (h.modRing r fun g => { g with cmds := [], resps := [], dropRun := g.running.isSome, cursor := 0 }).stallEval r
  let h := (h.jobsOn r).foldl (fun h j => h.modJob j fun x => x.map fun x => { x with drop := true }) h
  (h.mbxEvt 6).mbxRaise 0xA002 2 [r.val, cause, g.cmds.length, g.resps.length]

/-- Both MF rings are reset at step 2 of R24. -/
def Hub.mfRingsReset (h : Hub) : Hub := (h.ringClear 0 3).ringClear 1 3

/-- The jobs of a ring end with BUSY_RESTART (R369). -/
def Hub.abortJobs (h : Hub) (r : RingIx) : List (Fin 8) → Hub
  | [] => h
  | j :: js =>
    match h.mbx.jobs[j] with
    | none => h.abortJobs r js
    | some x =>
      let h := h.modJob j fun _ => none
      (if x.drop then h else h.busyRestart r x.opcode x.tag true 1 j.val).abortJobs r js

/-- The waiting commands of a ring are answered (R369). -/
def Hub.abortCmds (h : Hub) (r : RingIx) : List Msg → Hub
  | [] => h
  | m :: ms => (h.busyRestart r m.opcode m.tag false 0).abortCmds r ms

/-- Commands of a ring that a restart abort answers (R369, R397): those waiting, and the running one unless its response is
discarded. -/
def Ring.answered (g : Ring) : Nat := g.cmds.length + (if g.running.isSome && !g.dropRun then 1 else 0)

/-- The restart abort of one ring (R369). -/
def Hub.ringAbort (h : Hub) (r : RingIx) : Hub :=
  let g := h.ring r
  let js := h.jobsOn r
  let h := h.freeSlots r fun h => (h.modRing r fun g => { g with cmds := [], running := none, dropRun := false }).stallEval r
  let h := match g.running with
    | none => h
    | some m => if g.dropRun then h else h.busyRestart r m.opcode m.tag false 1
  (h.abortCmds r g.cmds).abortJobs r js

/-- Jobs running (R395). -/
def Hub.jobCount (h : Hub) : Nat := h.mbx.jobs.toList.countP Option.isSome

/-- Signature work a mailbox job waits for. -/
def sigOfJob : SigJob → Bool
  | .firmware j => j.isSome
  | .token j _ => j.isSome
  | .policy _ _ | .attest _ _ | .keyGen _ _ _ => true
  | _ => false

/-- The restart abort on all rings, at an MP restart and at MBX's safe response (R313, R369, R383), with its one record (R397).
The jobs' unfinished work goes with them. -/
def Hub.restartAbort (h : Hub) : Hub :=
  let answered := sumBy (fun r => (h.ring r).answered) (List.finRange 6)
  let jobs := h.jobCount
  let drops := h.cnt (cntMbx 5)
  let h := h.modMbx fun m => { m with policy := none }
  let h := h.modSec fun c => { c with engine := c.engine.filter fun j => !sigOfJob j, eraseJobs := [] }
  let h := h.modSeq fun q => { q with jobs := [] }
  let h := (List.finRange 6).foldl (fun h r => h.ringAbort r) h
  (h.mbxEvt 4).mbxRaise 0xA003 2 (le16 answered ++ [jobs, h.cnt (cntMbx 5) - drops])

/-! #### Jobs -/

/-- The lowest free job number (R368). -/
def Hub.freeJob (h : Hub) : Option (Fin 8) := (List.finRange 8).find? fun j => h.mbx.jobs[j].isNone

/-- A job's outcome is decided; its completion is stored once a slot is free (R368). -/
def Hub.jobEnd (h : Hub) (j : Fin 8) (o : Outcome) : Hub :=
  h.modJob j fun x => x.map fun x => { x with done := some o }

/-- A forwarded command stays unanswered (R391). -/
def Hub.fwdFail (h : Hub) (j : Fin 8) : Hub := ((h.jobEnd j { status := 8, detail := 1 }).mbxEvt 8).bump (cntMbx 7)

/-- A job waits for a worker's response. -/
def Hub.fwdWaits (h : Hub) (j : Fin 8) (w : Nat) : Bool :=
  match h.mbx.jobs[j] with
  | some x => x.done.isNone && (x.fwd.any fun f => f.worker == w)
  | none => false

/-- Every command forwarded to a worker that is lost stays unanswered (R391). -/
def Hub.fwdLost (h : Hub) (w : Nat) : Hub :=
  ((List.finRange 8).filter fun j => h.fwdWaits j w).foldl (fun h j => h.fwdFail j) h

end Sys2Proof.Machine
end

