-- ==== Sys2Proof/Machine/DomBase.lean ====
section
/-! DEFINITION. The domain sequencer as shared operations: refusals, entries, exits, wakes, the Husk's FIFO and staging buffer
(R332-R348, R353). -/

namespace Sys2Proof.Machine

/-! #### Tables (R313, R332, R345) -/

/-- The domains a domain requires (R332). -/
def domRequires (n : DomIx) : List DomIx :=
  if n.val < 16 then [domBus]
  else match n.val with
    | 16 => []
    | 17 => [domHusk]
    | 19 => [domBus, domNvm]
    | 20 => [domBus, domNvm, domSec]
    | 22 => [domBus, domNvm, domPe]
    | _ => [domBus]

/-- The domains that come on before a domain, in the order of their exits (R332). -/
def domBefore (n : DomIx) : List DomIx := (domRequires n).filter fun d => d ≠ domHusk

/-- A domain needs another, directly or through others; the lists of R332 are closed. -/
def domNeeds (n d : DomIx) : Bool := n == d || (domRequires n).contains d || (n.val ≠ 16 && d.val == 16)

/-- The parity block that stands for a domain as OWNER; 35 is the MP (R355). -/
def domOwner (n : DomIx) : Nat :=
  if n.val < 16 then 6 + n.val
  else match n.val with
    | 16 => 1 | 17 => 0 | 18 => 33 | 19 => 31 | 20 => 35 | 21 => 27 | 22 => 32 | _ => 22

/-- STATE code (R355). -/
def DomState.code : DomState → Nat
  | .on => 0 | .draining => 1 | .entering => 2 | .ret => 3 | .off => 4 | .exiting => 5

/-- PEND_TGT code (R355). -/
def DomTgt.code : DomTgt → Nat
  | .none => 0 | .ret => 1 | .off => 2 | .on => 3

/-- The order of a plan (R343). -/
def planOrder : List DomIx :=
  ((List.finRange 16).map fun p => podDom p) ++ [domOut, domCsb, domPe, domMp, domSec, domNvm, domBus]

/-! #### The Husk's FIFO and counters (R347, R359) -/

/-- Words held in the wake-event FIFO. -/
def Seq.fifoDepth (q : Seq) : Nat := sumBy List.length q.fifo

/-- An item is pushed into the wake-event FIFO: 0x70 exit started, 0x71 entry aborted, 0x72 replayed (R347). -/
def Hub.wakeItem (h : Hub) (ty source : Nat) : Hub :=
  let room := 64 - h.seq.fifoDepth
  let wd := fun (t len : Nat) => BitVec.ofNat 32 (t * 2 ^ 24 + source * 2 ^ 16 + len)
  if 2 ≤ room then h.modSeq fun q => { q with fifo := q.fifo ++ [[wd ty 2, BitVec.ofNat 32 h.huskTime]] }
  else
    let h := h.huskEvt 0
    if room = 1 then h.modSeq fun q => { q with fifo := q.fifo ++ [[wd (ty + 8) 1]] } else h

/-! #### Refusals (R335, R336) -/

/-- A pod's link is active (R335). -/
def Hub.linkActive (h : Hub) (p : PodIx) : Bool :=
  let l := h.link p
  l.ltssm == .u0 || l.ltssm == .u1 || l.ltssm == .u2 || l.ltssm == .recovery || l.u2 == .enabled || l.u2 == .resuming

/-- The lowest domain that requires n and is not in RET or OFF (R335). -/
def Hub.dependent (h : Hub) (n : DomIx) : Option DomIx :=
  (List.finRange 24).find? fun d => (domRequires d).contains n && (h.dom d).state != .ret && (h.dom d).state != .off

/-- A key slot is loaded. -/
def Hub.keyLoaded (h : Hub) : Bool := h.sec.keys.toList.any Option.isSome

/-- The path of a pod or outlet whose sequencer is not in VB.OFF, in a domain. -/
def Hub.contractOf (h : Hub) (n : DomIx) : Option PathIx :=
  (List.finRange 20).find? fun x =>
    (if n.val < 16 then x.val == n.val else n == domOut && 16 ≤ x.val) && (h.vb x).state != .off

/-- The pod whose link keeps a domain active: its own, for PE any. -/
def Hub.activeLinkOf (h : Hub) (n : DomIx) : Option PodIx :=
  (List.finRange 16).find? fun p => (n.val == p.val || n == domPe) && h.linkActive p

/-- A cascade link is up. -/
def Hub.anyCsbUp (h : Hub) : Bool := h.csb.links.toList.any fun l => l.state == 1 || l.state == 2

/-- The first reason that refuses an entry to a target: code, owner, detail (R324, R335). -/
def Hub.domReason (h : Hub) (n : DomIx) (t : DomTgt) : Option (Nat × Nat × Nat) :=
  if n = domHusk then some (6, domOwner ((h.dependent n).getD domBus), ((h.dependent n).getD domBus).val)
  else
    match h.dependent n with
    | some d => some (6, domOwner d, d.val)
    | none =>
      if n == domSec && (h.sec.erasePending || (h.keyLoaded && (t == .off || (h.retMask n).testBit 0 == false))) then
        some (9, 31, 0)
      else
        match h.contractOf n with
        | some x => some (2, if x.val < 16 then 6 + x.val else 22 + (x.val - 16), 0)
        | none =>
          match h.activeLinkOf n with
          | some p => some (3, 6 + p.val, 0)
          | none =>
            if n == domCsb && h.anyCsbUp then some (3, 32, 0)
            else if n == domNvm && t == .off && !h.nvm.deferQ.isEmpty then
              match h.nvm.deferQ with
              | d :: _ => if h.energyFor (storeClass d.store) then some (8, 33, 0) else some (7, 5, 0)
              | [] => none
            else if n == domMp && !h.nvm.deferQ.isEmpty && (t == .off || (h.retMask n).testBit 7 == false) then some (8, 33, 0)
            else if n == domBus && !h.seq.staging.isEmpty then some (8, 1, 0)
            else none

/-- Any packet or request held in Shell cells (R336). -/
def Hub.shellBusy (h : Hub) : Bool :=
  !h.upStored.isEmpty || !h.sched.rsvs.isEmpty || h.sched.credit.isSome
    || h.links.toList.any (fun l => !l.down.isEmpty || !l.tt.isEmpty)
    || h.sched.pq.toList.any fun q => !q.reqs.isEmpty

/-- Mailbox work that counts as in flight for BUS (R384). -/
def Hub.mbxWork (h : Hub) : Bool :=
  h.mbx.jobs.toList.any Option.isSome
    || (List.finRange 6).any fun r =>
        let g := h.ring r
        !g.cmds.isEmpty || g.running.isSome || g.asmOpen
          || ((r.val == 0 || r.val == 1 || r.val == 4) && decide (0 < h.undelivered r))

/-- The pod a piece of signature work belongs to. -/
def sigPod : SigJob → Option PodIx
  | .chain p => some p
  | .challenge p => some p
  | _ => none

/-- What the Shell holds lies in banks kept by RET_MASK (R336, R339). With some banks kept and some not, where a packet lies is the
die's own choice: a free value. -/
def Hub.shellKept (h : Hub) (t : DomTgt) : Bool :=
  let kept := h.retMask domPe % 65536
  t == .ret && (kept == 65535 || (kept != 0 && Config.freeBit h.freeCtr))

/-- A register access held for another domain than BUS is a transaction outstanding in BUS (R336). -/
def Hub.accOutstanding (h : Hub) : Bool := h.seq.heldAcc.any fun a => domOf (a.addr % 0x100000) != domBus

/-- The block that still holds a transfer of a domain (R336). -/
def Hub.inFlight (h : Hub) (n : DomIx) (t : DomTgt) : Option Nat :=
  if n.val < 16 then
    if h.sec.engine.any fun j => (sigPod j).any fun p => p.val == n.val then some (6 + n.val) else none
  else if n = domPe then
    if (h.shellBusy && !h.shellKept t) || h.gates.toList.any Gate.pending then some 27 else none
  else if n = domMp then
    if h.nvm.inRestart || (List.finRange 6).any (fun r => (h.ring r).running.isSome) then some 35 else none
  else if n = domSec then if !h.sec.engine.isEmpty || h.sec.respBusy.isSome then some 31 else none
  else if n = domNvm then if h.nvm.inStore.isEmpty then none else some 33
  else if n = domBus then if h.mbxWork then some 34 else if h.accOutstanding then some 0 else none
  else if n = domCsb then if h.csb.links.toList.any fun l => !l.queue.isEmpty then some 32 else none
  else none

/-! #### Jobs that wait for a transition (R390) -/

/-- DOM_n_REFUSER (R355). -/
def Dom.refuser (d : Dom) : Nat := d.refCode + d.refOwner * 16 + d.refDetail * 1024 + d.refSeq * 65536

/-- The jobs that wait for a domain end: OK at the end of the transition, naming the domain whose state the completion shows;
REFUSED_DOMAIN otherwise. -/
def Hub.domJobsEnd (h : Hub) (n : DomIx) (ok : Bool) : Hub :=
  let o : Outcome := if ok then { status := 0, data := [BitVec.ofNat 8 n.val] } else { status := 6, detail := (h.dom n).refCode * 4096 + n.val }
  let js := h.seq.jobs.filter fun j => j.dom == some n
  (js.foldl (fun h j => h.jobEnd j.job o) h).modSeq fun q => { q with jobs := q.jobs.filter fun j => j.dom != some n }

/-- The jobs that wait for a plan end (R390). -/
def Hub.planJobsEnd (h : Hub) : Hub :=
  let d := h.seq.stopDom
  let js := h.seq.jobs.filter fun j => j.dom.isNone
  let ref := if hd : d < 24 then (h.dom ⟨d, hd⟩).refuser else 0
  let o : Outcome :=
    { status := if d < 24 then 6 else 0, detail := if d < 24 then ref % 16 * 4096 + d else 0
      data := BitVec.ofNat 8 d :: putLe 4 ref }
  (js.foldl (fun h j => h.jobEnd j.job o) h).modSeq fun q => { q with jobs := q.jobs.filter fun j => j.dom.isSome }

/-! #### Rails (R338, R340, R344) -/

/-- A rail request of a kind is queued or in service. -/
def Hub.railAsked (h : Hub) (r : Fin 10) (k : RlKind) : Bool :=
  (h.rl.queue.any fun q => q.owner == 20 + r.val && q.kind == k)
    || h.rl.active.any fun a => a.req.owner == 20 + r.val && a.req.kind == k

/-- A rail is on, and no turn-off of it is under way (R340, R344). -/
def Hub.railUp (h : Hub) (r : Fin 10) : Bool := h.seq.railOn.getLsbD r.val && !h.railAsked r .railOff

/-- A domain uses a rail that is managed (R344). -/
def Hub.railOf (h : Hub) (n : DomIx) (r : Fin 10) : Bool := h.railEn r && (h.railMask r).testBit n.val

/-- Rails in ascending order that a domain uses, that are managed and off or going off. -/
def Hub.railsNeeded (h : Hub) (n : DomIx) : List (Fin 10) := (List.finRange 10).filter fun r => h.railOf n r && !h.railUp r

/-- A domain keeps its rails (R344): what another entry has still to turn off of them stays on, and a turn-off not yet started is
dropped. -/
def Hub.railsKeep (h : Hub) (n : DomIx) : Hub :=
  (h.modSeq fun q => { q with railsOff := q.railsOff.filter fun r => !h.railOf n r }).modRl fun l =>
    { l with queue := l.queue.filter fun q =>
        !(q.kind == .railOff && (List.finRange 10).any fun r => q.owner == 20 + r.val && h.railOf n r) }

/-- A rail request of an exit failed: EXIT_FAIL, the first failure journaled (R340). -/
def Hub.exitRailFail (h : Hub) (n : DomIx) (r : Fin 10) : Hub :=
  let h := h.modSeq fun q => { q with railFail := q.railFail ||| BitVec.twoPow 10 r.val }
  if (h.dom n).failing then h
  else
    let res := match h.slotOf (20 + r.val) with
      | some s => (h.rl.slots[s]).lastRes
      | none => 5
    ((h.modDom n fun d => { d with failing := true }).domEvt 5).raise srcDom 0x7005 3 [n.val, r.val, res]

/-- The rails of an exit are requested on, in ascending order (R340); what is asked for already is not asked again. -/
def Hub.railsRequestOn (h : Hub) (n : DomIx) : Hub :=
  (h.railsNeeded n).foldl
    (fun h r =>
      if h.railAsked r .railOn then h
      else
        let ok := h.slotUsable (20 + r.val)
        let h := h.rlRequest (20 + r.val) .railOn
        if ok then h else h.exitRailFail n r) h

/-! #### Exits (R337, R340, R353) -/

/-- One domain starts to exit; its stay in RET or OFF is over and counted (R358, R359). -/
def Hub.domExitOne (h : Hub) (src : Nat) (n : DomIx) : Hub :=
  let d := h.dom n
  if d.state = .ret ∨ d.state = .off then
    let ms := if d.fromRet then d.stay else msSince h.clk d.since
    let h := if d.fromRet then h else h.bumpBy (cntDom n (if d.state = .off then 4 else 3)) ms
    ((h.modDom n fun d =>
      { d with state := .exiting, prev := d.state, source := src, exitAt := h.clk, failing := false, stay := ms
               fromRet := false }).railsKeep n).railsRequestOn n
  else h

/-- A domain exits, the domains it requires first (R332, R340). -/
def Hub.domExit (h : Hub) (src : Nat) (n : DomIx) : Hub := (domBefore n ++ [n]).foldl (fun h d => h.domExitOne src d) h

/-- Exits of a set start, or come together with another source's: the wake has its item (R347, R353). -/
def Hub.exitsStart (h : Hub) (src : Nat) (set : List DomIx) : Bool :=
  set.any fun d => (domBefore d ++ [d]).any fun e =>
    (h.dom e).state == .ret || (h.dom e).state == .off
      || ((h.dom e).state == .exiting && (h.dom e).exitAt == h.clk && (h.dom e).source != src)

/-- The domains of a set exit. -/
def Hub.exitAll (h : Hub) (src : Nat) (set : List DomIx) : Hub := set.foldl (fun h d => h.domExit src d) h

/-! #### Entries (R334, R335, R343) -/

/-- An entry is under way. -/
def Hub.entryBusy (h : Hub) : Bool := h.doms.toList.any fun d => d.state == .draining || d.state == .entering

/-- An entry request waits: another entry is under way, or HUSK, DOM or CLK is in its safe response (R313, R334). -/
def Hub.entryWait (h : Hub) : Bool := h.entryBusy || h.inSafe 1 || h.inSafe 2 || h.inSafe 3

/-- A running plan stops at a refusal: the rest is dropped (R343). -/
def Hub.planStop (h : Hub) (n : DomIx) : Hub :=
  let rest := h.seq.plan
  let h := (h.modSeq fun q => { q with plan := [], stopDom := n.val }).domEvt 4
  (rest.foldl (fun h d => h.modDom d fun x => { x with queued := .none }) h).planJobsEnd

/-- The staged records go to the NVM unit ahead of what is raised later, with the loss their gap record will tell (R348). -/
def Hub.stageFlush (h : Hub) : Hub :=
  let q := h.seq
  (h.modNvm fun n =>
    { n with raised := q.staging ++ n.raised, lost := n.lost + q.stageLost
             lostTb := if n.lost = 0 && q.stageLost ≠ 0 then q.stageTb else n.lostTb
             lostUns := if n.lost = 0 && q.stageLost ≠ 0 then q.stageUns else n.lostUns }).modSeq fun q =>
      { q with staging := [], stageLost := 0 }

/-- The SMBus target takes over from the matcher, which releases SCL (R346). -/
def Hub.busTakes (h : Hub) : Hub :=
  if h.seq.stretch then (h.modSeq fun q => { q with stretch := false }).emit (.stretch false) else h

/-- An entry ends before its commit point (R333): the domain is ON again. One that left RET returns through EXITING, the domains it
requires first, with what its RET did not keep cleared (R332, R339). DESIGN CHOICE (log 106). -/
def Hub.domBack (h : Hub) (n : DomIx) (src : Nat) : Hub :=
  let d := h.dom n
  let h := h.modDom n fun d => { d with target := .none, committed := false }
  if d.state = .draining ∨ d.state = .entering then
    if d.fromRet then (h.modDom n fun d => { d with state := .ret }).domExit src n
    else
      let h := h.modDom n fun d => { d with state := .on }
      if n = domNvm then h.stageFlush else if n = domBus then h.busTakes else h
  else h

/-- A refusal is shown and recorded (R335, R355, R358); a plan it belongs to stops (R343). -/
def Hub.refuseNote (h : Hub) (n : DomIx) (code owner detail : Nat) : Hub :=
  let planned := (h.dom n).planned
  let h := h.modDom n fun d =>
    { d with planned := false, refCode := code, refOwner := owner, refDetail := detail, refSeq := (d.refSeq + 1) % 65536 }
  let h := ((h.domEvt 2).bump (cntDom n 2)).raise srcDom 0x7003 2 [n.val, code, owner, detail]
  (if planned then h.planStop n else h).domJobsEnd n false

/-- An entry is refused (R333, R335): a domain in an entry before its commit point goes back. -/
def Hub.domRefuse (h : Hub) (n : DomIx) (code owner detail : Nat) : Hub :=
  (h.domBack n (if code = 4 then detail else 31)).refuseNote n code owner detail

/-- An entry request is taken: refused, or draining (R333, R334); OFF from RET goes to ENTERING directly (R353), and the stay in RET
is over. -/
def Hub.domEnter (h : Hub) (n : DomIx) (t : DomTgt) : Hub :=
  match h.domReason n t with
  | some (c, o, d) => h.domRefuse n c o d
  | none =>
    let ret := (h.dom n).state == .ret
    let ms := msSince h.clk (h.dom n).since
    let h := if ret then h.bumpBy (cntDom n 3) ms else h
    h.modDom n fun d =>
      { d with state := if ret then .entering else .draining, target := t, committed := false, drainAt := h.clk, removed := 0
               fromRet := ret, stay := ms }

/-- A request whose turn has come runs as the state of its domain has it (R333, R353): a RET request of a domain that is OFF waits for
its exit; one during an exit waits for its end; one that asks for nothing new is done. -/
def Hub.domTake (h : Hub) (n : DomIx) (t : DomTgt) : Hub :=
  match (h.dom n).state with
  | .on => if t = .ret ∨ t = .off then h.domEnter n t else h.domJobsEnd n true
  | .ret => if t = .off then h.domEnter n .off else h.domJobsEnd n true
  | .off =>
    if t = .ret then ((h.modDom n fun d => { d with queued := .ret }).wakeItem 0x70 31).domExit 31 n
    else h.domJobsEnd n true
  | .exiting => h.modDom n fun d => { d with queued := t }
  | .draining | .entering => h

/-- A queued request runs; `planned`: it is one of a plan. -/
def Hub.queuedRun (h : Hub) (n : DomIx) (planned : Bool) : Hub :=
  let t := (h.dom n).queued
  ((h.modSeq fun q => { q with waiting := q.waiting.erase n, plan := q.plan.erase n }).modDom n fun d =>
    { d with queued := .none, planned := planned }).domTake n t

/-- The turn of a domain's request (R334, R343): a request of its own, or the first of the plan, which waits while its domain exits and
starts an exit that it needs. -/
def Hub.turnOf (h : Hub) (n : DomIx) : Hub :=
  if h.entryWait then h
  else if h.seq.waiting.contains n then h.queuedRun n false
  else if h.seq.plan.head? = some n then
    if (h.dom n).state = .exiting then h
    else if (h.dom n).state = .off ∧ (h.dom n).queued = .ret then (h.wakeItem 0x70 31).domExit 31 n
    else h.queuedRun n true
  else h

/-- What waits runs once no entry is under way, in the order of R343. -/
def Hub.domNext (h : Hub) : Hub :=
  let h := planOrder.foldl Hub.turnOf h
  if h.seq.plan.isEmpty && !h.entryWait then h.planJobsEnd else h

/-- The refusals of R335 are checked again until the commit point. -/
def Hub.domCheck (h : Hub) : Hub :=
  if h.entryBusy then
    ((List.finRange 24).foldl
      (fun h n =>
        let d := h.dom n
        if d.state == .draining || (d.state == .entering && !d.committed) then
          match h.domReason n d.target with
          | some (c, o, x) => h.domRefuse n c o x
          | none => h
        else h) h).domNext
  else h

/-- An attach on a draining pod (R353): CONTRACT_ACTIVE at once. -/
def Hub.attachRefuses (h : Hub) (p : PodIx) : Hub :=
  let d := h.dom (podDom p)
  if d.state == .draining || (d.state == .entering && !d.committed) then (h.domRefuse (podDom p) 2 (6 + p.val) 0).domNext else h

/-! #### Wakes (R337, R345, R353) -/

/-- The exit of a domain that one of a set needs is failing (R340). -/
def Hub.exitFails (h : Hub) (set : List DomIx) : Bool :=
  (List.finRange 24).any fun e => (h.dom e).state == .exiting && (h.dom e).failing && set.any fun d => domNeeds d e

/-- A wake that has an exit set (R337, R345, R353): it aborts an entry before its commit point, is latched after it or while an
exit it needs is failing, and otherwise starts exits. It pushes one item (R347). A source that comes together with the one that
started them has its own item (R353). -/
def Hub.wakeRun (h : Hub) (src : Nat) (set : List DomIx) (ty : Nat) : Hub :=
  if set.all fun d => h.domOn d then h
  else
    let hit := (List.finRange 24).filter fun e =>
      ((h.dom e).state == .draining || (h.dom e).state == .entering) && set.any fun d => domNeeds d e
    if (hit.any fun e => (h.dom e).committed) || h.exitFails set then
      h.modSeq fun q =>
        { q with wakePend := q.wakePend ||| BitVec.twoPow 32 src, wakeOn := if src = 31 then q.wakeOn ++ set else q.wakeOn }
    else if hit.isEmpty then (if h.exitsStart src set then (h.wakeItem ty src).exitAll src set else h)
    else ((hit.foldl (fun h e => h.domRefuse e 4 1 src) (h.wakeItem 0x71 src)).exitAll src set).domNext

/-- The exit set of a source (R345). -/
def Hub.wakeSet (h : Hub) (s : Nat) : List DomIx :=
  if hs : s < 16 then [⟨s, by omega⟩]
  else match s with
    | 16 => [domMp] | 17 => [domPe] | 18 => [domMp] | 19 => [domMp] | 20 => [domNvm]
    | 21 => (List.finRange 24).filter fun n => h.tmrDom.testBit n.val
    | 22 => [domOut] | 23 => [domNvm]
    | _ => []

/-- A wake source 0-23 (R345): without effect where it is masked or its exit set is ON. -/
def Hub.wakeSource (h : Hub) (s : Nat) : Hub :=
  if s < 24 && h.wakeEn.testBit s && !(h.wakeSet s).all fun d => h.domOn d then
    (h.bump (cntHusk s)).wakeRun s (h.wakeSet s) 0x70
  else h

/-- The exit set of a latched source (R345, R353). -/
def Hub.latchSet (h : Hub) (s : Nat) : List DomIx := if s = 31 then h.seq.wakeOn else h.wakeSet s

/-- A latched source is latched no more. -/
def Hub.unlatch (h : Hub) (s : Nat) : Hub :=
  h.modSeq fun q => { q with wakePend := q.wakePend &&& ~~~(BitVec.twoPow 32 s), wakeOn := if s = 31 then [] else q.wakeOn }

/-- A wake latched for an exit that was failing is delivered (R353). -/
def Hub.wakeDeliver (h : Hub) (s : Nat) : Hub :=
  let set := h.latchSet s
  let held := (List.finRange 24).any fun e => (h.dom e).state == .entering && (h.dom e).committed && set.any fun d => domNeeds d e
  if h.seq.wakePend.getLsbD s && !held && !h.exitFails set then (h.unlatch s).wakeRun s set 0x70 else h

/-! #### Requests (R343, R353) -/

/-- A latched wake is replayed after an entry (R337, R347, R358). -/
def Hub.replay (h : Hub) (n : DomIx) (s : Nat) : Hub :=
  let set := h.latchSet s
  if h.seq.wakePend.getLsbD s && (set.any fun d => domNeeds d n) then
    ((((h.unlatch s).domEvt 3).raise srcDom 0x7004 1 [s, n.val]).wakeItem 0x72 s).exitAll s set
  else h

/-- Every latched wake that needs a domain whose entry is over. -/
def Hub.replayAll (h : Hub) (n : DomIx) : Hub := (List.range 32).foldl (fun h s => h.replay n s) h

/-- A request that still waits gives way to a later one (R353). -/
def Hub.reqDrop (h : Hub) (n : DomIx) : Hub :=
  (h.modSeq fun q => { q with waiting := q.waiting.erase n, plan := q.plan.erase n }).modDom n fun d => { d with queued := .none }

/-- A request waits for its turn. -/
def Hub.domWait (h : Hub) (n : DomIx) (t : DomTgt) : Hub :=
  (h.modDom n fun d => { d with queued := t }).modSeq fun q => { q with waiting := q.waiting.erase n ++ [n] }

/-- The latest target of an entry under way is used (R353). One past its commit point that is to end in RET keeps its rails (R344). -/
def Hub.domRetarget (h : Hub) (n : DomIx) (t : DomTgt) : Hub :=
  let h := h.modDom n fun d => { d with target := t }
  if (h.dom n).committed && t == .ret then h.railsKeep n else h

/-- A request of a domain for a target runs (R343, R353). -/
def Hub.domRun (h : Hub) (n : DomIx) (t : DomTgt) : Hub :=
  match t with
  | .none => h
  | .on => if (h.dom n).state = .exiting then h else h.wakeRun 31 [n] 0x70
  | .ret | .off =>
    let own := h.modDom n fun d => { d with planned := false }
    match (h.dom n).state with
    | .draining | .entering => h.domRetarget n t
    | .on => if h.entryWait then h.domWait n t else own.domTake n t
    | .ret => if t = .off && h.entryWait then h.domWait n t else own.domTake n t
    | .off => if t = .ret then (own.modDom n fun d => { d with queued := .ret }).wakeRun 31 [n] 0x70 else own.domTake n t
    | .exiting => own.domTake n t

/-- A write of TGT and HOLD (R343): HUSK refuses every entry (R335). What the register asked for before and has not run gives way. -/
def Hub.domRequest (h : Hub) (n : DomIx) (t : DomTgt) (hold : Bool) : Hub :=
  if hold && (n ≠ domHusk || t = .on) then h.modDom n fun d => { d with pend := t, hold := true }
  else
    let h := ((h.reqDrop n).modDom n fun d => { d with pend := .none, hold := false }).domRun n t
    if h.seq.plan.isEmpty && !h.entryWait then h.planJobsEnd else h

/-- PLAN_GO (R343): every held request, exits first. -/
def Hub.planGo (h : Hub) : Hub :=
  let held := planOrder.filter fun n => (h.dom n).hold && (h.dom n).pend != .none
  let ons := held.filter fun n => (h.dom n).pend == .on
  let ents := held.filter fun n => (h.dom n).pend != .on
  let h := h.modSeq fun q => { q with stopDom := 31 }
  let h := ons.foldl (fun h n => ((h.reqDrop n).modDom n fun d => { d with pend := .none, hold := false }).domRun n .on) h
  let h := ents.foldl (fun h n => (h.reqDrop n).modDom n fun d => { d with queued := d.pend, pend := .none, hold := false }) h
  (h.modSeq fun q => { q with plan := planOrder.filter fun n => q.plan.contains n || ents.contains n }).domNext

/-- A target by its TGT code (R355): 0 ON, 1 RET, 2 OFF; 3 is ignored. -/
def tgtOf (c : Nat) : DomTgt := if c = 0 then .on else if c = 1 then .ret else if c = 2 then .off else .none

/-- A record raised while NVM is not ON waits in the Husk (R348). -/
def Hub.stageRecord (h : Hub) (r : Rec) : Hub :=
  let h :=
    if h.seq.staging.length < 16 then h.modSeq fun q => { q with staging := q.staging ++ [r] }
    else
      (((h.modSeq fun q => { q with stageTb := if q.stageLost = 0 then r.tb else q.stageTb, stageUns := if q.stageLost = 0 then r.flags.testBit 1 else q.stageUns, stageLost := q.stageLost + 1 }).huskEvt 2).bump
        (cntHusk 25))
  (h.wakeSource 20).domCheck

end Sys2Proof.Machine
end

