-- ==== Sys2Proof/Machine/CsbBase.lean ====
section
/-! DEFINITION. The cascade sideband as shared operations: reliability, routing, joining, grants, link loss (R252, R256, R257,
R260-R267, R271). -/

namespace Sys2Proof

/-- The priority tier of a frame (R256); NULL and POLL have none. -/
def CsbBody.tier : CsbBody → Nat
  | .null => 9 | .poll => 9
  | .sync _ => 1 | .delayReq => 1 | .delayResp _ => 1
  | .hello _ => 2 | .assign _ => 2 | .link _ => 2 | .grant _ => 2 | .demand _ => 2 | .grantAck _ => 2
  | .mbx _ => 3
  | .journal _ _ => 4 | .journalAck _ => 4
  | .fwOffer _ => 5 | .fwBlock _ _ _ => 5 | .fwStatus _ => 5 | .fwActivate => 5

/-- A frame that the receiver acknowledges (R256). -/
def CsbBody.reliable : CsbBody → Bool
  | .null => false | .poll => false | .sync _ => false | .delayReq => false | .delayResp _ => false
  | .fwBlock _ _ _ => false
  | _ => true

/-- TYPE (R256). -/
def CsbBody.code : CsbBody → Nat
  | .null => 0x00 | .poll => 0x01 | .hello _ => 0x02 | .assign _ => 0x03 | .link _ => 0x04
  | .sync _ => 0x10 | .delayReq => 0x11 | .delayResp _ => 0x12
  | .grant _ => 0x20 | .demand _ => 0x21 | .grantAck _ => 0x22
  | .mbx _ => 0x30
  | .journal _ _ => 0x40 | .journalAck _ => 0x41
  | .fwOffer _ => 0x50 | .fwBlock _ _ _ => 0x51 | .fwStatus _ => 0x52 | .fwActivate => 0x53

/-- A frame that counts against FW_SHARE (R269). -/
def CsbBody.shared : CsbBody → Bool
  | .fwBlock _ _ _ => true | .fwStatus _ => true
  | _ => false

end Sys2Proof

namespace Sys2Proof.Machine

/-! #### The frame on the wire (R255) -/

/-- The payload (R255, R269, R377). A type whose fields the spec names without their places has free bytes, 256 at most. -/
def csbPayload : CsbBody → List Byte
  | .null => [] | .poll => [] | .delayReq => []
  | .mbx bs => bs.take 256
  | .fwBlock tag k data => putLe 2 tag ++ putLe 2 k ++ [0, 0, 0, 0] ++ (data ++ List.replicate 240 0).take 240
  | b => (Config.csbPayload b).take 256

/-- One bit through the CRC-32 of polynomial 0x04C1_1DB7 (R255). -/
def crc32Bit (crc : Word) (b : Bool) : Word := if crc.msb == b then crc <<< 1 else (crc <<< 1) ^^^ 0x04C11DB7

/-- The CRC-32 of a byte string, its bits in the order they are sent, least significant first (R255; DEDUCED, log 102). -/
def crc32 (bs : List Byte) : Word :=
  (bs.flatMap fun b => (List.range 8).map fun i => b.getLsbD i).foldl crc32Bit Config.crcInit ^^^ Config.crcXor

/-- A frame's bytes, from the preamble to the CRC (R255). -/
def csbWire (seq ack : Nat) (turn ackValid : Bool) (f : CsbFrame) : List Byte :=
  let pay := csbPayload f.body
  let core := putLe 1 f.dst ++ putLe 1 f.src ++ putLe 1 f.body.code ++ putLe 1 (turn.toNat + 2 * ackValid.toNat) ++ putLe 1 seq
    ++ putLe 1 ack ++ putLe 2 pay.length ++ pay
  [0x55, 0x55, 0xA7] ++ core ++ putLe 4 (crc32 core).toNat

/-! #### Who the hub is -/

/-- The source a hub's own frames carry (R255). -/
def Hub.csbSrc (h : Hub) : Nat := if h.csb.role = 2 then 0 else if h.csb.myId ≠ 0 then h.csb.myId else 0x7E

/-- A link that carries frames. -/
def CsbLink.up (l : CsbLink) : Bool := l.state == 1 || l.state == 2

/-- The child segments that are their child's primary link (R262). -/
def Hub.csbChildren (h : Hub) : List PodIx :=
  (List.finRange 16).filter fun p => (h.clink p).isParent && (h.clink p).state == 1

/-- SUB_DEPTH: worker levels below this hub (R258, R275). -/
def Hub.subDepth (h : Hub) : Nat :=
  (h.csbChildren.flatMap fun p => (h.clink p).subtree).foldl (fun a x => max a (x.2 - h.csb.level)) 0

/-- The mode VDO of an upstream pod (R258); bit 6 speaks of the other one. -/
def Hub.modeVdo (h : Hub) (p : PodIx) : Word :=
  let r := if h.csb.role = 2 ∧ (h.csb.strap = 2 ∨ h.csb.workers.toList.any fun w => w.state = 1) then 3 else h.csb.role
  BitVec.ofNat 32
    (r + (if h.csb.joined then 4 else 0) + 8 * h.subDepth + (if h.csb.parentUp && upPod h.csb.parentPod != p then 64 else 0) + 2 ^ 28)

/-- The stand-alone value of B in 0.25 W units (R153): the local cap and the credited sink contracts. -/
def Hub.standAlone (h : Hub) : Nat :=
  let credit := fun (u : UpIx) =>
    let p := upPod u
    let c := (h.pde p).contract
    if c.ctype ≠ 0 && (h.vb (podPath p)).sinkDir && (h.vb (podPath p)).state == .on then h.snkCredit * c.v * c.i / 250000 else 0
  min 4800 (h.localCap + credit 0 + credit 1)

/-- The floor a worker reports (R266). -/
def Hub.reportedFloor (h : Hub) : Nat := min h.floorBudget h.standAlone

/-! #### B (R153, R253) -/

/-- The sink credit counted in the stand-alone value. -/
def Hub.budCredit (h : Hub) : Nat := h.standAlone - min h.standAlone h.localCap

/-- B before the brownout limit, and where it comes from: 1 local, 2 grant, 3 floor (R153, R253). -/
def Hub.bPlain (h : Hub) : Nat × Nat :=
  if h.csb.role = 2 then (h.standAlone, 1)
  else if h.bud.grantValid then (min h.standAlone h.bud.grant, if h.bud.grant ≤ h.standAlone then 2 else 1)
  else if h.bud.holding then (min 4800 h.bud.grant, 2)
  else (h.reportedFloor, 3)

/-- B is computed again (R153, R159 step 4, R168, R170): B_CHANGE and record 0x3105 where it changes. A loss of sink credit with
SNK_LOSS_WARN 0 is noted, so that it raises no warning (R161). In BUDGET's safe response B is held (R313). -/
def Hub.budNewB (h : Hub) : Hub :=
  if h.inSafe 26 then h else
  let (plain, where_) := h.bPlain
  let credit := h.budCredit
  let b := if h.bud.warnVin then min plain h.boBudget else plain
  let old := h.bud
  let src := if b < plain then 4 else if where_ = 1 ∧ credit ≠ old.credit then 5 else where_
  let said := if b < plain ∨ old.bSrc = 4 then 4 else src
  let quiet := if plain < old.plain then decide (credit < old.credit) && !h.snkLossWarn else old.lossQuiet
  let h := h.modBud fun q =>
    { q with bEff := b, bSrc := src, plain := plain, credit := credit, floored := where_ = 3, lossQuiet := quiet }
  if b = old.bEff then h else (h.budEvt 7).raise srcBud 0x3105 1 (le16 old.bEff ++ le16 b ++ [said])

/-! #### Sending (R256, R257) -/

/-- A firmware frame that leaves keeps its segment free of others until it takes FW_SHARE of the time: a bit lasts 100 ns, and a frame
has 15 bytes beside its payload (R254, R255, R269). -/
def Hub.fwPace (h : Hub) (p : PodIx) (b : CsbBody) : Hub :=
  if b.shared then h.modClink p fun l => { l with fwFree := h.clk + 8000 * (15 + (csbPayload b).length) / h.fwShare } else h

/-- A frame put on a segment; a reliable one takes the next SEQ and waits for its acknowledgement. -/
def Hub.csbTx (h : Hub) (p : PodIx) (f : CsbFrame) (turn : Bool) : Hub :=
  let l := h.clink p
  let seq := if f.body.reliable then (l.txSeq + 1) % 256 else l.txSeq
  let h := h.modClink p fun l =>
    { l with txSeq := seq, sent := if f.body.reliable then l.sent ++ [{ seq := seq, frame := f }] else l.sent }
  ((h.fwPace p f.body).bump (cntCsbLink p 0)).emit (.csb p.val seq l.rxSeq turn l.rxAny f (csbWire seq l.rxSeq turn l.rxAny f))

/-- A repeat (R256): counted; it keeps its SEQ. -/
def Hub.csbTxAgain (h : Hub) (p : PodIx) (x : CsbSent) (turn : Bool) : Hub :=
  let l := h.clink p
  let h := h.modClink p fun l =>
    { l with again := l.again.erase x, sent := l.sent ++ [{ x with repeats := x.repeats + 1 }] }
  (((h.fwPace p x.frame.body).bump (cntCsbLink p 0)).bump (cntCsbLink p 3)).emit
    (.csb p.val x.seq l.rxSeq turn l.rxAny x.frame (csbWire x.seq l.rxSeq turn l.rxAny x.frame))

/-- The lowest tier of a list of frames. -/
def lowTier (l : List CsbFrame) : Nat := l.foldl (fun a f => min a f.body.tier) 9

/-- A timestamp of TB to 1 ns (R263): where it falls within a tick is a free value (log 101). -/
def Hub.tbNs (h : Hub) : Nat := 10 * h.tb.toNat + Config.subTick h.freeCtr % 10

/-- A frame as it leaves: SYNC carries the time of its start; DELAY_REQ's is recorded (R263). -/
def Hub.csbStamp (h : Hub) (p : PodIx) (f : CsbFrame) : Hub × CsbFrame :=
  match f.body with
  | .sync _ => (h.drawn, { f with body := .sync h.tbNs })
  | .delayReq => ((h.modClink p fun l => { l with t3 := h.tbNs }).drawn, f)
  | _ => (h, f)

/-- A DEMAND as it stands (R264): per class the charges and the refused claims of the last DEMAND_INT. -/
def Hub.demandNow (h : Hub) : Demand :=
  let own := fun (x : PathIx) =>
    (h.cons x).charge +
      (match h.csb.refusals[x] with
        | some (c, t) => if h.clk ≤ t + h.demandInt * 10 * ticksPerMs then c else 0
        | none => 0)
  { cls := Vector.ofFn fun c => sumBy (fun x => if h.prio x = c.val then own x else 0) (List.finRange 20)
    charges := h.chargeSum, bEff := h.bud.bEff }

/-- A DEMAND sent, never more than one in 10 ms (R264). -/
def Hub.demandSend (h : Hub) : Hub :=
  let fresh := match h.csb.demandAt with
    | some t => decide (t + 10 * ticksPerMs ≤ h.clk)
    | none => true
  if h.csb.joined && h.csb.parentUp && fresh then
    (h.modCsb fun c => { c with demandAt := some h.clk, demandDue := false }).csbUp (.demand h.demandNow)
  else h

/-- The responses of ring 4 that are not on the link are sent, oldest first (R377). -/
def Hub.csbMbxFlush (h : Hub) : Hub :=
  if h.csb.joined && h.csb.parentUp then
    let new := (h.ring 4).resps.filter fun x => !x.delivered
    (new.foldl (fun h x => h.csbUp (.mbx (x.bytes 4))) h).modRing 4 fun g =>
      { g with resps := g.resps.map fun x => { x with delivered := true } }
  else h

/-- One frame sent in an end's turn: the lowest tier first, repeats before new frames of a tier; POLL or NULL when nothing
waits (R256, R257). Firmware frames wait for their share of the segment's time (R269). -/
def Hub.csbSend (h : Hub) (p : PodIx) (turn : Bool) : Hub :=
  let h := if (h.clink p).isParent then h
    else (if h.csb.demandDue then h.demandSend else h).csbMbxFlush
  let l := h.clink p
  let may := fun (f : CsbFrame) => !f.body.shared || decide (l.fwFree ≤ h.clk)
  let again := l.again.filter fun x => may x.frame
  let queue := l.queue.filter may
  let ta := lowTier (again.map CsbSent.frame)
  match again.find? fun x => x.frame.body.tier == ta && decide (ta ≤ lowTier queue) with
  | some x => h.csbTxAgain p x turn
  | none =>
    match queue.find? fun f => f.body.tier == lowTier queue with
    | some f =>
      let (h, g) := (h.modClink p fun l => { l with queue := l.queue.erase f }).csbStamp p f
      h.csbTx p g turn
    | none => h.csbTx p { dst := 0x7E, src := h.csbSrc, body := if turn then .poll else .null } turn

/-! #### Routing (R262) -/

/-- A frame sent down to a hub of the subtree; one no segment leads to is dropped. -/
def Hub.csbDown (h : Hub) (f : CsbFrame) : Hub :=
  match h.csbChildren.find? fun p => (h.clink p).subtree.any fun x => x.1 == f.dst with
  | some p => h.csbQueue p f
  | none => h

/-- A broadcast goes to every child segment that is its child's primary link. -/
def Hub.csbBroadcast (h : Hub) (f : CsbFrame) : Hub := h.csbChildren.foldl (fun h p => h.csbQueue p f) h

/-- A route to an ID through a child segment replaces an earlier one. -/
def Hub.csbLearn (h : Hub) (p : PodIx) (id level : Nat) : Hub :=
  let h := h.modCsb fun c =>
    { c with links := c.links.map fun l => { l with subtree := l.subtree.filter fun x => x.1 ≠ id } }
  h.modClink p fun l => { l with subtree := l.subtree ++ [(id, level)] }

/-- ASSIGN goes down the segment its HELLO came up last; a primary one teaches the route (R262), a standby one marks the segment. -/
def Hub.csbAssignDown (h : Hub) (a : Assign) : Hub :=
  match (List.finRange 16).find? fun p => (h.clink p).isParent && (h.clink p).up && (h.clink p).uids.contains (a.uid, a.standby) with
  | none => h
  | some p =>
    let near := decide (a.level = h.csb.level + 1)
    let h :=
      if a.result ≠ 0 then h
      else if a.standby then
        if near then h.modClink p fun l => { l with peerId := a.id % 64, state := 2 } else h
      else
        let h := h.csbLearn p a.id a.level
        if near then h.modClink p fun l => { l with peerId := a.id % 64, state := 1 } else h
    h.csbQueue p { dst := if a.result = 0 then a.id else 0x7E, src := 0, body := .assign a }

/-! #### The manager: grants (R265-R267) -/

/-- The worker IDs 1-63. -/
def workerIds : List HubId := (List.finRange 64).filter fun w => 0 < w.val

/-- The workers to which targets are given. -/
def Hub.csbGranted (h : Hub) : List HubId := workerIds.filter fun w => (h.worker w).state == 1 && (h.worker w).granted

/-- The sum of HELD over all workers but one. -/
def Hub.heldOthers (h : Hub) (w : HubId) : Nat := sumBy (fun v => if v = w then 0 else (h.worker v).held) workerIds

/-- POOL_FREE (R275). -/
def Hub.csbPoolFree (h : Hub) : Nat := h.sysBudget - sumBy (fun v => (h.worker v).held) workerIds

/-- One worker's place in the allocation of R265: its target so far and its cumulated demand. -/
structure Share where
  w   : HubId
  t   : Nat
  cum : Nat
  deriving DecidableEq, Repr

/-- The minimums of R265. -/
def Hub.shareMins (h : Hub) : List HubId → Nat → List Share × Nat
  | [], av => ([], av)
  | w :: ws, av =>
    let t := min (min (h.wMin w) (h.wMax w)) av
    let (r, a) := h.shareMins ws (av - t)
    ({ w := w, t := t, cum := 0 } :: r, a)

/-- One class of R265. -/
def Hub.shareClass (h : Hub) (c : Fin 8) : List Share → Nat → List Share × Nat
  | [], av => ([], av)
  | x :: xs, av =>
    let cum := x.cum + (h.worker x.w).demand[c]
    let add := min (min (cum - x.t) (h.wMax x.w - x.t)) av
    let (r, a) := h.shareClass c xs (av - add)
    ({ x with t := x.t + add, cum := cum } :: r, a)

/-- One round of sharing the rest, 0.25 W each (R265). -/
def Hub.shareRound (h : Hub) : List Share → Nat → List Share × Nat
  | [], av => ([], av)
  | x :: xs, av =>
    if x.t < h.wMax x.w && 0 < av then
      let (r, a) := h.shareRound xs (av - 1)
      ({ x with t := x.t + 1 } :: r, a)
    else
      let (r, a) := h.shareRound xs av
      (x :: r, a)

/-- The rest of R265, shared in rounds. -/
def Hub.shareRest (h : Hub) : Nat → List Share → Nat → List Share
  | 0, xs, _ => xs
  | fuel + 1, xs, av =>
    if av = 0 || !(xs.any fun x => x.t < h.wMax x.w) then xs
    else
      let r := h.shareRound xs av
      h.shareRest fuel r.1 r.2

/-- The targets of R265. -/
def Hub.csbTargets (h : Hub) : List Share :=
  let g := h.csbGranted
  let av := h.sysBudget - sumBy (fun v => if g.contains v then 0 else (h.worker v).held) workerIds
  let s0 := h.shareMins g av
  let s1 := (List.finRange 8).foldl (fun s c => h.shareClass c s.1 s.2) s0
  h.shareRest (s1.2 + 1) s1.1 s1.2

/-- A grant is issued (R266): HELD follows at once where it raises a grant already acknowledged. -/
def Hub.grantIssue (h : Hub) (w : HubId) (g : Nat) : Hub :=
  (h.modWorker w fun x => { x with issued := g, ackWait := true, held := if x.acked then max x.held g else x.held }).csbDown
    { dst := w.val, src := 0, body := .grant g }

/-- Grants follow their targets (R266): lowered at once, raised as far as the other workers' HELD permits. -/
def Hub.grantFollow (h : Hub) : Hub :=
  let g := h.csbGranted
  let h := g.foldl (fun h w => if (h.worker w).target < (h.worker w).issued then h.grantIssue w (h.worker w).target else h) h
  let h := g.foldl
    (fun h w =>
      let v := min (h.worker w).target (h.sysBudget - h.heldOthers w)
      if (h.worker w).issued < v then h.grantIssue w v else h) h
  h.modCsb fun c => { c with raiseWait := g.any fun w => decide ((h.worker w).issued < (h.worker w).target) }

/-- The manager's recomputation (R265, R266); none while CSB is in its safe response (R313). -/
def Hub.csbRetarget (h : Hub) : Hub :=
  if h.csb.role = 2 && !h.inSafe 32 then
    let ts := h.csbTargets
    let h := ts.foldl (fun h x => h.modWorker x.w fun w => { w with target := x.t }) h
    (h.modCsb fun c => { c with minShort := ts.any fun x => decide (x.t < h.wMin x.w) }).grantFollow
  else h

/-- Workers joined (R275). -/
def Hub.workerCount (h : Hub) : Nat := workerIds.countP fun w => (h.worker w).state == 1

/-- A worker is lost (R266, R271, R277). -/
def Hub.workerLost (h : Hub) (w : HubId) : Hub :=
  if (h.worker w).state = 1 then
    let h := h.modWorker w fun x => { x with state := 2, ackWait := false, granted := false }
    (((h.csbEvt 7).bump (cntCsb 4)).raise srcCsb 0x9009 3 ([w.val, 0] ++ le16 (h.worker w).held)).fwdLost w.val
  else h

/-- A worker lies in the subtree of another: up the chain of parents, four levels deep at most. -/
def Hub.below (h : Hub) (top : Nat) : Nat → HubId → Bool
  | 0, _ => false
  | fuel + 1, w =>
    if w.val = top then true
    else if w.val = 0 then false
    else h.below top fuel ⟨(h.worker w).parent % 64, Nat.mod_lt _ (by omega)⟩

/-- Every joined worker of a subtree is lost at once (R271). -/
def Hub.subtreeLost (h : Hub) (top : Nat) : Hub :=
  let ws := workerIds.filter fun w => h.below top 5 w
  let h := ws.foldl (fun h w => h.workerLost w) h
  (h.modCsb fun c =>
    { c with links := c.links.map fun l =>
        if l.isParent then { l with subtree := l.subtree.filter fun x => !(ws.any fun w => w.val == x.1) } else l }).csbRetarget

/-! #### Link start and loss (R252, R260, R261, R271) -/

/-- HELLO as this worker sends it; the parent end fills in itself (R260). -/
def Hub.helloNow (h : Hub) (standby : Bool) : Hello :=
  { uid := Config.dieUid, id := h.csb.myId, prefId := h.prefId, tree := h.csb.tree, subDepth := h.subDepth
    floor := h.reportedFloor, grantHold := h.grantHold, tMgrLoss := max h.tMgrLoss (2 * h.grantRefresh)
    fwVer := h.sec.runVersion, standby := standby, parent := 0x7E }

/-- HELLO queued on an upstream link. -/
def Hub.helloSend (h : Hub) (u : UpIx) (standby : Bool) : Hub :=
  h.csbQueue (upPod u) { dst := 0, src := h.csbSrc, body := .hello (h.helloNow standby) }

/-- The role is resolved or changes (R252); TREE_ID is the manager's own identifier, and 0 on a worker not yet joined (R275). -/
def Hub.csbSetRole (h : Hub) (r : Nat) : Hub :=
  if h.csb.role = r then h
  else
    ((h.modCsb fun c => { c with role := r, tree := if r = 2 then Config.dieUid else 0 }).csbEvt 8).raise srcCsb 0x9001 1 [r]

/-- The mode is entered on a pod (R93, R259, R260): the cascade link starts. -/
def Hub.csbLinkOpen (h : Hub) (p : PodIx) : Hub :=
  let h := h.modClink p fun _ => { state := 1, isParent := isD p }
  match podUp p with
  | none => h
  | some u =>
    if h.csb.parentUp then
      ((h.modClink p fun l => { l with state := 2 }).modCsb fun c => { c with stby := 1 }).helloSend u true
    else
      ((h.modCsb fun c => { c with parentPod := u, parentUp := true }).csbSetRole 1).helloSend u false

/-- What the parent end does at a loss (R271). -/
def Hub.csbChildLost (h : Hub) (l : CsbLink) : Hub :=
  if l.state = 2 then
    if h.csb.role = 2 then
      h.modWorker ⟨l.peerId % 64, Nat.mod_lt _ (by omega)⟩ fun w => { w with stby := false }
    else h
  else if h.csb.role = 2 then
    ((l.subtree.foldl
      (fun h x => h.workerLost ⟨x.1 % 64, Nat.mod_lt _ (by omega)⟩) h)).csbRetarget
  else if l.peerId = 0 then h
  else h.csbUp (.link (.lost l.peerId))

/-- The report of the running version, until it is acknowledged (R269, R272). -/
def Hub.csbReport (h : Hub) : Hub :=
  if h.csb.load.report && h.csb.joined then h.csbUp (.fwStatus (.running h.sec.runVersion)) else h

/-- What the worker does at the loss of its primary link (R252, R271): it moves to a READY standby link, on the level that link gives, or
waits. DESIGN CHOICE (log 115): no frame tells the workers below it their new level. -/
def Hub.csbParentLost (h : Hub) : Hub :=
  let o := upOther h.csb.parentPod
  let h := h.modCsb fun c => { c with parentUp := false }
  let h := h.modRing 4 fun g => { g with resps := g.resps.map fun x => { x with delivered := false } }
  if h.csb.stby = 2 && (h.clink (upPod o)).state == 2 then
    let old := h.csb.level
    let h := h.modCsb fun c =>
      { c with parentPod := o, parentUp := true, stby := 0, level := c.stbyLevel
               links := c.links.map fun l => { l with subtree := l.subtree.map fun x => (x.1, x.2 + c.stbyLevel - old) } }
    let h := h.modClink (upPod o) fun l => { l with state := 1 }
    let h := ((h.csbEvt 4).bump (cntCsb 2)).raise srcCsb 0x9006 2 [o.val]
    let sub := h.csbChildren.flatMap fun p => (h.clink p).subtree.map fun x => (x.1, x.2 - h.csb.level)
    (h.csbUp (.link (.moved h.csb.myId (h.clink (upPod o)).peerId sub))).csbReport
  else h

/-- Link loss (R271, R277): causes 1 mode ended, 2 silence, 3 repeats. Queued frames are discarded (R272). -/
def Hub.csbLoss (h : Hub) (p : PodIx) (cause : Nat) : Hub :=
  let l := h.clink p
  if l.up then
    let h := (h.csbEvt 3).raise srcCsb 0x9005 3 [p.val, l.peerId, cause]
    let h := h.modClink p fun l =>
      { l with state := 3, queue := [], sent := [], again := [], turn := false, subtree := [], uids := [] }
    if l.isParent then h.csbChildLost l
    else if l.state = 1 then h.csbParentLost
    else h.modCsb fun c => { c with stby := 0 }
  else h

/-- The mode ended on a pod (R93, R271). -/
def Hub.csbLinkClosed (h : Hub) (p : PodIx) : Hub := h.csbLoss p 1

/-- A pod left its attached state: the link is none. -/
def Hub.csbPodLeft (h : Hub) (p : PodIx) : Hub := (h.csbLoss p 1).modClink p fun _ => {}

/-! #### Receiving (R256, R262) -/

/-- A frame is acknowledged by an ACK: it was sent up to that SEQ, which wraps (R255, R256). -/
def CsbSent.ackedBy (x : CsbSent) (ack : Nat) : Bool := decide ((ack + 256 - x.seq % 256) % 256 < 128)

/-- An acknowledged response of ring 4 leaves its slot (R366, R377). -/
def Hub.csbMbxAcked (h : Hub) (x : CsbSent) : Hub :=
  match x.frame.body with
  | .mbx bs =>
    if x.frame.dst = 0 ∧ x.frame.src = h.csb.myId then
      (h.modRing 4 fun g => { g with resps := g.resps.eraseP fun r => r.bytes 4 == bs }).stallEval 4
    else h
  | _ => h

/-- The report of the running version has been told once its frame is acknowledged (R269, R272). -/
def Hub.csbTold (h : Hub) (done : List CsbSent) : Hub :=
  if done.any fun x => match x.frame.body with
    | .fwStatus (.running _) => x.frame.src == h.csb.myId
    | _ => false
  then h.modCsb fun c => { c with load := { c.load with report := false } } else h

/-- ACK in a received frame (R256). -/
def Hub.csbAcked (h : Hub) (p : PodIx) (hd : CsbHdr) : Hub :=
  if hd.ackValid then
    let done := ((h.clink p).sent ++ (h.clink p).again).filter fun x => x.ackedBy hd.ack
    let h := h.modClink p fun l =>
      { l with sent := l.sent.filter fun x => !x.ackedBy hd.ack, again := l.again.filter fun x => !x.ackedBy hd.ack }
    done.foldl (fun h x => h.csbMbxAcked x) (h.csbTold done)
  else h

/-- A reliable frame is the next in order (R256). DESIGN CHOICE (log 102): the first of a segment has SEQ 1. -/
def CsbLink.inOrder (l : CsbLink) (seq : Nat) : Bool := seq % 256 == (l.rxSeq + 1) % 256

end Sys2Proof.Machine
end

