-- ==== Sys2Proof/Machine/TcBase.lean ====
section
/-! DEFINITION. What the states of the connection machine mean (R34-R36, R51, R61). -/

namespace Sys2Proof.Machine

/-- TC_STATE code of a state (R61). -/
def TcState.code : TcState → Nat
  | .disabled => 0 | .errorRecovery => 1 | .unattachedSrc => 2 | .attachWaitSrc => 3 | .attachedSrc => 4
  | .unattachedSnk => 5 | .attachWaitSnk => 6 | .attachedSnk => 7 | .trySrc => 8 | .tryWaitSnk => 9
  | .wet => 10 | .bounceHold => 11 | .lockout => 12

/-- CC_SEEN code of a termination (R61). -/
def termCode : Term → Nat
  | .open => 0 | .ra => 1 | .rd => 2 | .rp _ => 3

/-- Whether a termination is an Rp. -/
def isRp : Term → Bool
  | .rp _ => true
  | _ => false

/-- The level an Rp shows (R61). -/
def rpOf : Term → Nat
  | .rp l => l.val
  | _ => 0

/-- The role in effect: true when the pod is source only (R34). -/
def Tc.srcOnly (t : Tc) : Bool := t.role == 1

/-- True when the pod is dual-role: ROLE 0, or 3, which acts as 0 (R59). -/
def Tc.drp (t : Tc) : Bool := t.role == 0 || t.role == 3

/-- The attached states (R51). -/
def Tc.attached (t : Tc) : Bool :=
  t.state == .attachedSrc || t.state == .attachedSnk || t.state == .bounceHold

/-- The states in which no termination is presented (R36). -/
def Tc.ccOpen (t : Tc) : Bool :=
  t.state == .disabled || t.state == .errorRecovery || t.state == .wet || t.state == .lockout

/-- The unattached states. -/
def Tc.unattached (t : Tc) : Bool := t.state == .unattachedSrc || t.state == .unattachedSnk

end Sys2Proof.Machine
end

