-- ==== Sys2Proof/Machine/Upsel.lean ====
section
/-! DEFINITION. Selection of the upstream pod, its loss, and the reconnection sequence (R13, R19-R26, R31, R472). -/

namespace Sys2Proof.Machine

/-! #### Selection states (R20, R29) -/

/-- A pod's selection state by its code: 0 NO_HOST, 1 POWER_ONLY, 2 STANDBY_READY, 3 ACTIVE (R20, R29). DESIGN CHOICE (log 71):
a source pod released for its host's speed and then hard reset shows NO_HOST until its data role has been swapped again (R19),
and POWER_ONLY from then on (R472). -/
def Hub.upState (h : Hub) (u : UpIx) : Nat :=
  let t := h.tc (upPod u)
  if h.upsel.active = some u then 3
  else if t.state == .attachedSnk || (t.srcAttached && h.upsel.swapped[u]) then if h.upsel.released[u] then 1 else 2
  else if t.srcAttached && h.upsel.refused[u] then 1
  else 0

/-- A pod in STANDBY_READY. -/
def Hub.upReady (h : Hub) (u : UpIx) : Bool := h.upState u == 2

/-- An upstream pod's pull-up and terminations are off: it has no USB connection (R20, R24). -/
def Hub.upOff (h : Hub) (u : UpIx) : Hub :=
  h.modLink (upPod u) fun l =>
    { l with speed := .none, ltssm := .ssDisabled, u2 := .notConnected, conn := false, portEn := false, u3Pending := false
             waking := [], resetting := false }

/-! #### Steps 1-3 of the reconnection sequence (R24) -/

/-- Packets held for the old connection. -/
def Hub.upHeld (h : Hub) : Nat :=
  h.upStored.length + sumBy (fun l => l.tt.countP fun b => b.dirIn && b.data.isSome) h.links.toList

/-- Every entry of a bank becomes invalid (R24 step 2). -/
def mapForget (m : List (Nat × Word)) : List (Nat × Word) :=
  (m.map fun x => (x.1, invalidWord x.2)).filter fun x => x.2 ≠ 0

/-- Step 2 of R24: what the old host asked for is discarded and counted; the map forgets every entry keyed by an old address;
the MF rings are reset. -/
def Hub.upDiscard (h : Hub) : Hub :=
  let n := h.upHeld
  let h := h.sched.rsvs.foldl (fun h r => h.rsvEnd r) h
  let h := (List.finRange 16).foldl (fun h p => h.ttDrop p fun _ => true) h
  let h := (h.reqsDrop fun _ => true).modSched fun s =>
    { s with uq := s.uq.map fun q => { q with pkts := [] }
             pq := s.pq.map fun q => { q with out := 0 }
             sending := none, rsvs := [], passes := [], credit := none, statusDue := false
             mapA := mapForget s.mapA, mapB := mapForget s.mapB }
  let h := (List.finRange 16).foldl (fun h p => (h.deferForget p).devicesGone p) h
  (h.bumpBy (cntUpsel 1) n).mfRingsReset

/-- Step 3 of R24 on one port: a Warm Reset of its SuperSpeed link, or its USB 2.0 port disabled; VBUS is unchanged. The new
host finds the port connected, with its change bit. -/
def Hub.upPortReset (h : Hub) (p : PodIx) : Hub :=
  let l := h.link p
  if !(l.conn || l.held || l.speed != .none || l.ltssm == .polling) then h
  else
    let h := (h.portFlush p).modLink p fun l =>
      { l with cConn := l.cConn || l.conn, cLink := false, portEn := false, disReason := if l.disReason = 3 then 3 else 4
               ltssm := if l.onSs then .rxDetect else l.ltssm, shown := none, shownU2 := none, u3Exit := false
               u2 := if l.onSs then l.u2 else .disabled, resetting := false, warm := false, treeSusp := false }
    if l.onSs then h.emit (.linkCmd p.val .warmReset) else h

/-- RECONNECT_START (R24 steps 1-3): `old` is the pod whose connection ends. -/
def Hub.upStart (h : Hub) (old : Option UpIx) (new : UpIx) (cause : Nat) (failover : Bool) : Hub :=
  let loss := match h.upsel.lostAt with
    | some t => (h.clk - t) / 100
    | none => 0
  let n := h.upHeld
  let h := match old with
    | some o => if o = new then h else h.upOff o
    | none => h
  let h := h.upDiscard
  let h := (List.finRange 16).foldl (fun h p => if isD p then h.upPortReset p else h) h
  h.modUpsel fun x =>
    { x with active := if old = some new then some new else none, timing := false, detached := false, lostAt := none
             seq := some { old := old, new := new, cause := cause, failover := failover, lossUs := loss, discard := n } }

/-- R21: with no pod ACTIVE, a pod in STANDBY_READY is connected; both being ready, UP_PREF names it. -/
def Hub.upSelect (h : Hub) : Hub :=
  if h.upsel.active.isSome || h.upsel.seq.isSome then h
  else
    let pref : UpIx := if h.upPref then 1 else 0
    if h.upReady pref then h.upStart none pref 4 false
    else if h.upReady (upOther pref) then h.upStart none (upOther pref) 4 false
    else h

/-! #### Steps 4 and 5 -/

/-- Record 0x4101 (R31); the spec states no severity for it. -/
def Hub.upRecord (h : Hub) (old new : Nat) (cause lossUs discard : Nat) : Hub :=
  h.raise (srcLink 0) 0x4101 (Config.upstreamSeverity % 8) ([old, new, cause, 0] ++ le32 lossUs ++ le32 discard)

/-- The number of an upstream pod in a record; 0xFF for none. -/
def upNo : Option UpIx → Nat
  | some u => u.val
  | none => 0xFF

/-- The new pod still qualifies at step 5 (R26). -/
def Hub.upStillReady (h : Hub) (u : UpIx) : Bool :=
  h.upReady u || (h.upsel.active == some u && (h.tc (upPod u)).attached && !h.upsel.detached)

/-- RECONNECT_CONNECT (R24 steps 4 and 5, R26, R30): the new pod is ACTIVE; where it has left STANDBY_READY, no pod is. -/
def Hub.upConnect (h : Hub) : Hub :=
  match h.upsel.seq with
  | none => h
  | some q =>
    if h.upStillReady q.new then
      let h := h.modUpsel fun x => { x with active := some q.new, seq := none, lastCause := q.cause, mfChange := true }
      let h := h.modLink (upPod q.new) fun l => { l with ltssm := if l.ltssm = .ssDisabled then .rxDetect else l.ltssm }
      let h := h.upRecord (upNo q.old) q.new.val q.cause q.lossUs q.discard
      if q.failover then (h.upEvt 0).bump (cntUpsel 0) else h
    else (h.modUpsel fun x => { x with active := none, seq := none, timing := false, lostAt := none, detached := false }).upSelect

/-! #### Loss (R22, R23) -/

/-- The ACTIVE pod's connection is lost: T_FAIL starts (R22, R23). -/
def Hub.upLost (h : Hub) (detached : Bool) : Hub :=
  h.modUpsel fun x =>
    { x with timing := true, detached := detached, lostAt := some h.clk, failEnd := h.clk + h.tFail * 10 * ticksPerMs }

/-- UPSTREAM_LINK_LOSS (R22 item 2). DESIGN CHOICE (log 111): of the states R22 names the pod then shows SS.Disabled, and USB 2.0 not
connected. -/
def Hub.upLinkLoss (h : Hub) (u : UpIx) : Hub :=
  if h.upsel.active = some u ∧ h.upsel.lostAt = none then (h.upOff u).upLost false else h

/-- A pod left its attached state (R19, R22, R23, R472): a detach of the ACTIVE pod is a loss, or turns the loss under T_FAIL
into one of item 1. -/
def Hub.upstreamPodLeft (h : Hub) (p : PodIx) : Hub :=
  match podUp p with
  | none => h
  | some u =>
    let h := h.modUpsel fun x =>
      { x with refused := x.refused.set u false, swapped := x.swapped.set u false, released := x.released.set u false }
    if h.upsel.active = some u then
      if h.upsel.timing then h.modUpsel fun x => { x with detached := true } else h.upLost true
    else h

/-- T_FAIL_EXPIRY (R23, R26, R30). -/
def Hub.upFail (h : Hub) : Hub :=
  match h.upsel.active with
  | none => h
  | some u =>
    if !h.upsel.timing then h
    else
      let o := upOther u
      let cause := if h.upsel.detached then 1 else 2
      let h := if h.upReady o then h else h.upEvt 3
      let drop := fun (h : Hub) =>
        (h.upOff u).modUpsel fun x => { x with active := none, timing := false, detached := false, lastCause := cause }
      if h.failEn then
        if h.upReady o then h.upStart (some u) o cause true else (drop h).upSelect
      else if h.upsel.detached then (drop h).upSelect
      else h.modUpsel fun x => { x with timing := false }

/-- An upstream pod is attached in the UFP data role (R19, R20). -/
def Hub.upUfp (h : Hub) (u : UpIx) : Bool :=
  let t := h.tc (upPod u)
  t.state == .attachedSnk || (t.srcAttached && h.upsel.swapped[u])

/-- UPSTREAM_RECOVERED (R23, R30): the connection of the lost pod, attached as UFP, is back at a speed of R13, within T_FAIL or
while it waits. -/
def Hub.upRecovered (h : Hub) (u : UpIx) (speed : Speed) : Hub :=
  if h.upsel.active = some u ∧ h.upsel.lostAt ≠ none ∧ h.upUfp u ∧ speedOk (upPod u) speed then
    let h := if h.upsel.timing then h.upEvt 1 else h
    (h.upStart (some u) u 5 false).linkUpAt (upPod u) speed
  else h

/-- UPSTREAM_FS_RELEASE (R472). DESIGN CHOICE (log 111): its record has 0xFF as the new pod, loss duration 0 and no discards. -/
def Hub.upFsRelease (h : Hub) (u : UpIx) : Hub :=
  if h.upsel.active = some u ∧ h.upsel.seq = none then
    let h := (h.upOff u).modUpsel fun x =>
      { x with active := none, timing := false, lostAt := none, detached := false, lastCause := 6
               released := x.released.set u true }
    (h.upRecord u.val 0xFF 6 0 0).upSelect
  else h

/-- A commanded switch can be taken (R23, R26). -/
def Hub.upSwitchOk (h : Hub) : Bool :=
  match h.upsel.active with
  | some u => h.upReady (upOther u)
  | none => false

/-- A commanded switch (R23, R26, R28): at once, without T_FAIL, or refused. DESIGN CHOICE (log 111): it is refused while no pod is
ACTIVE, in steps 1 to 5 of a failover or a selection too. -/
def Hub.upSwitch (h : Hub) : Hub :=
  match h.upsel.active with
  | some u => if h.upSwitchOk then h.upStart (some u) (upOther u) 3 false else (h.upEvt 2).bump (cntUpsel 2)
  | none => (h.upEvt 2).bump (cntUpsel 2)

/-! #### The data role of a source pod (R19) -/

/-- The hub's DR_Swap was accepted: the pod is UFP, and R21 is evaluated. -/
def Hub.upSwapped (h : Hub) (u : UpIx) : Hub :=
  (h.modUpsel fun x => { x with swapped := x.swapped.set u true }).upSelect

/-- The hub's DR_Swap was refused: POWER_ONLY until the next attach (R19, R30). -/
def Hub.upRefused (h : Hub) (u : UpIx) : Hub := (h.modUpsel fun x => { x with refused := x.refused.set u true }).upEvt 4

/-- A Hard Reset on an upstream pod attached as source whose DR_Swap had been accepted (R19): NO_HOST again; for the ACTIVE pod
a loss under R22 item 2. -/
def Hub.upHardReset (h : Hub) (p : PodIx) : Hub :=
  match podUp p with
  | none => h
  | some u =>
    if h.upsel.swapped[u] then
      let h := h.modUpsel fun x => { x with swapped := x.swapped.set u false }
      if h.upsel.active = some u ∧ h.upsel.lostAt = none then (h.upOff u).upLost false else h
    else h

/-! #### The commands -/

/-- UPSTREAM_LINK_LOSS (R22). -/
def execUpstreamLinkLoss (u : UpIx) (s : State) : Host.Outcome State Fault Refusal := onPod s (upPod u) fun h => h.upLinkLoss u

/-- UPSTREAM_RECOVERED (R23). -/
def execUpstreamRecovered (u : UpIx) (speed : Speed) (s : State) : Host.Outcome State Fault Refusal :=
  onPod s (upPod u) fun h => h.upRecovered u speed

/-- UPSTREAM_FS_RELEASE (R472). -/
def execUpstreamFsRelease (u : UpIx) (s : State) : Host.Outcome State Fault Refusal := onPod s (upPod u) fun h => h.upFsRelease u

/-- T_FAIL_EXPIRY (R23). -/
def execTFailExpiry (s : State) : Host.Outcome State Fault Refusal := perform s fun h => h.upFail

/-- RECONNECT_CONNECT (R24). -/
def execReconnectConnect (s : State) : Host.Outcome State Fault Refusal := perform s fun h => h.upConnect

end Sys2Proof.Machine
end

