-- ==== Sys2Proof/Machine/PdBase.lean ====
section
/-! DEFINITION. The PD policy engine: sending, capture, capability lists, the start and end of contracts (R69-R73, R76, R98,
R99, R128). The bit layouts of PD headers, power data objects and messages are those of USB Power Delivery (PRESUMED). -/

namespace Sys2Proof.Machine

/-- PE_STATE code (R106). -/
def PeState.code : PeState → Nat
  | .disabled => 0 | .waitVbus => 1 | .cableDisc => 2 | .sendCaps => 3 | .negotiate => 4 | .transition => 5
  | .ready => 6 | .snkSelect => 7 | .softReset => 8 | .hardReset => 9 | .hardResetRecover => 10
  | .vconnSwap => 11 | .eprEntry => 12 | .vdmDisc => 13 | .noPd => 14 | .drSwap => 15

/-- SWAP_STATE code (R106). -/
def SwapState.code : SwapState → Nat
  | .idle => 0 | .byPod => 1 | .byPartner => 2 | .awaitPsRdy => 3

/-- The pod has an explicit contract. -/
def Pde.explicit (e : Pde) : Bool := e.contract.ctype ≠ 0

/-- The pod works under Revision 3 rules (R70). -/
def Pde.r3 (e : Pde) : Bool := !e.revKnown || e.rev3

end Sys2Proof.Machine

namespace Sys2Proof

/-- Message type code, and whether it is an extended message, of a PD message. -/
def PdKind.code : PdKind → Nat × Bool
  | .accept => (3, false) | .reject => (4, false) | .wait => (12, false) | .psRdy => (6, false)
  | .drSwap => (9, false) | .vconnSwap => (11, false) | .softReset => (13, false) | .notSupported => (16, false)
  | .sourceCaps => (1, false) | .request => (2, false) | .sinkCaps => (4, false) | .alert => (6, false)
  | .eprMode => (10, false) | .sourceInfo => (11, false) | .revision => (12, false) | .vdm => (15, false)
  | .sourceCapsExt => (1, true) | .status => (2, true) | .manufacturerInfo => (7, true)
  | .securityRequest => (8, true) | .securityResponse => (9, true) | .ppsStatus => (12, true)
  | .sinkCapsExt => (15, true) | .eprKeepAliveAck => (16, true) | .eprSourceCaps => (17, true)

end Sys2Proof

namespace Sys2Proof.Machine

/-- The header of a message the pod sends on SOP, or on SOP' when `cable` (PD layout). -/
def Hub.pdHeader (h : Hub) (p : PodIx) (k : PdKind) (cable : Bool) (n : Nat) : BitVec 16 :=
  let e := h.pde p
  let rev := if e.r3 && h.rev3En p then 2 else 1
  BitVec.ofNat 16
    (k.code.1 + (if !cable && e.dfp then 32 else 0) + 64 * rev + (if !cable && e.roleSrc then 256 else 0)
      + 512 * ((if cable then e.cableId else e.msgId) % 8) + 4096 * (n % 8) + (if k.code.2 then 32768 else 0))

/-! #### The capture FIFO -/

/-- Words stored in a capture FIFO (R110 DEPTH). -/
def Capture.depth (c : Capture) : Nat := c.items.foldl (fun a i => a + i.length) 0

/-- Word 0 of an item: type, tag, length (R98). -/
def captureHead (ty tag len : Nat) : Word := BitVec.ofNat 32 (ty % 256 * 2 ^ 24 + tag % 256 * 2 ^ 16 + len % 65536)

/-- CAPTURE_PUSH (R98, R99): one item of type `ty` with the words from word 1 on; at full it closes truncated, and an item of
which no word can be stored is lost. -/
def Hub.capturePush (h : Hub) (p : PodIx) (ty : Nat) (body : List Word) : Hub :=
  if h.capEn p then
    let c := h.capture p
    let room := 256 - c.depth
    let len := body.length + 1
    let h := h.modCapture p fun c => { c with tag := (c.tag + 1) % 256 }
    if len ≤ room then
      h.modCapture p fun q => { q with items := q.items ++ [captureHead ty c.tag len :: body] }
    else
      let h := (h.evt (podBase p + 0x80C) 0).bump (cntPd p 14)
      if room = 0 then h
      else h.modCapture p fun q => { q with items := q.items ++ [captureHead (ty + 8) c.tag room :: body.take (room - 1)] }
  else h

/-- Words 1 and 2 of an item: the timebase. -/
def Hub.tbWords (h : Hub) : List Word := [h.tb.extractLsb' 0 32, h.tb.extractLsb' 32 32]

/-- A message captured on an SOP type: 0 SOP, 1 SOP' (R98). -/
def Hub.captureMsg (h : Hub) (p : PodIx) (ty sop : Nat) (crcOk : Bool) (retries : Nat) (header : BitVec 16) (ws : List Word) :
    Hub :=
  if (h.sopMask p).testBit sop then
    h.capturePush p ty (h.tbWords ++
      [BitVec.ofNat 32 (sop + (if crcOk then 8 else 0) + 16 * (retries % 16) + 65536 * header.toNat)] ++ ws)
  else h

/-- Hard Reset signalling captured: 0x22 received, 0x23 sent (R98). -/
def Hub.captureReset (h : Hub) (p : PodIx) (ty : Nat) : Hub := h.capturePush p ty (h.tbWords ++ [7])

/-- A read of POD_p_CAP_DATA pops the head word; empty, it returns Pip (R99). The answer is the word. -/
def Hub.capturePop (h : Hub) (p : PodIx) : Hub × Word :=
  match (h.capture p).items with
  | [] => (h, pip)
  | [] :: rest => (h.modCapture p fun q => { q with items := rest }, pip)
  | (w :: ws) :: rest => (h.modCapture p fun q => { q with items := if ws.isEmpty then rest else ws :: rest }, w)

/-- CAP_FLUSH (R99): everything stored is discarded; `rest` words of an item being pushed are discarded as orphans. -/
def Hub.captureFlush (h : Hub) (p : PodIx) (rest : Nat) : Hub :=
  let h := h.modCapture p fun q => { q with items := [] }
  if rest = 0 then h else (h.evt (podBase p + 0x80C) 1).bumpBy (cntPd p 15) rest

/-! #### Sending and receiving -/

/-- The GoodCRC that answers a message with header `hdr` (PD layout), from a port of these roles or from the cable. -/
def goodCrcHead (hdr : BitVec 16) (dfp src cable : Bool) : BitVec 16 :=
  BitVec.ofNat 16
    (1 + (if !cable && dfp then 32 else 0) + (hdr.extractLsb' 6 2).toNat * 64 + (if cable || src then 256 else 0)
      + (hdr.extractLsb' 9 3).toNat * 512)

/-- The GoodCRC of a message is captured where INCL_GOODCRC is 1 (R98): `ty` 0x20 received, 0x21 sent. -/
def Hub.captureGoodCrc (h : Hub) (p : PodIx) (ty sop : Nat) (hdr : BitVec 16) : Hub :=
  if h.inclGoodcrc p then
    let e := h.pde p
    let own := ty == 0x21
    h.captureMsg p ty sop false 0 (goodCrcHead hdr (e.dfp == own && sop != 1) (e.roleSrc == own && !(own && sop == 1)) (!own && sop == 1)) []
  else h

/-- nRetryCount: 2, and 3 under Revision 2.0 rules (PD). -/
def Pde.retryCount (e : Pde) : Nat := if e.r3 then 2 else 3

/-- A message sent on SOP (`cable` false) or SOP' (R91): counted, captured with the GoodCRC it gets, put on CC. DESIGN CHOICE
(log 75): PD_TX_CNT and PD_RX_CNT count a message once, and no GoodCRC. How many retransmissions it took no command says: the
captured number is free (log 95). -/
def Hub.pdSend (h : Hub) (p : PodIx) (k : PdKind) (cable : Bool) (ws : List Word) : Hub :=
  let hdr := h.pdHeader p k cable ws.length
  let sop := if cable then 1 else 0
  let h := (h.bump (cntPd p 1)).emit (.pd p.val k cable ws)
  let n := Config.sentRetries h.freeCtr % ((h.pde p).retryCount + 1)
  let h := if h.capEn p && (h.sopMask p).testBit sop then h.drawn else h
  ((h.captureMsg p 0x21 sop true n hdr ws).captureGoodCrc p 0x20 sop hdr).modPde p fun e =>
    if cable then { e with cableId := (e.cableId + 1) % 8 } else { e with msgId := (e.msgId + 1) % 8 }

/-- A control message sent on SOP. -/
def Hub.pdCtl (h : Hub) (p : PodIx) (k : PdKind) : Hub := h.pdSend p k false []

/-- The words of chunk `k` of an extended message of `size` bytes (PD layout): its extended header and bytes, zero-filled
(R98). -/
def extChunk (size k : Nat) (bs : List Byte) : List Word :=
  let all := putLe 2 (0x8000 + 2048 * (k % 16) + size % 512) ++ bs
  (List.range ((all.length + 3) / 4)).map fun i => BitVec.ofNat 32 (u32 all (4 * i))

/-- An extended message sent on SOP in chunks of up to 26 bytes (R70, R98). DESIGN CHOICE (log 76): the partner's chunk
requests are no commands, so all chunks go out at once. -/
def Hub.pdSendExt (h : Hub) (p : PodIx) (k : PdKind) (bs : List Byte) : Hub :=
  (List.range (max 1 ((bs.length + 25) / 26))).foldl
    (fun h c => h.pdSend p k false (extChunk bs.length c ((bs.drop (26 * c)).take 26))) h

/-- A message received on SOP or SOP' with a good CRC (R70, R98): counted and captured; the first one fixes the revision. -/
def Hub.pdRx (h : Hub) (p : PodIx) (f : PdFrame) (cable : Bool) : Hub :=
  let sop := if cable then 1 else 0
  let h := ((h.bump (cntPd p 0)).captureMsg p 0x20 sop true f.retries f.header f.words).captureGoodCrc p 0x21 sop f.header
  if cable || (h.pde p).revKnown then h
  else h.modPde p fun e => { e with revKnown := true, rev3 := h.rev3En p && 2 ≤ (f.header.extractLsb' 6 2).toNat }

/-- The engine acts on messages: it is started, PD is enabled, and no reset or missing VBUS stands in the way (R89, R97). -/
def Hub.pdActive (h : Hub) (p : PodIx) : Bool :=
  match (h.pde p).state with
  | .disabled | .waitVbus | .hardReset | .hardResetRecover => false
  | _ => (h.tc p).attached && !(h.pde p).disabling

/-- A message received on SOP, answered by `act` where the engine acts on messages. A disabled engine answers nothing, GoodCRC
included; the FIFO still shows what passed on CC (R97, R98; DEDUCED, log 77). -/
def Hub.pdOn (h : Hub) (p : PodIx) (f : PdFrame) (act : Hub → Hub) : Hub :=
  if (h.pde p).state = .disabled then
    if (h.tc p).attached then h.captureMsg p 0x20 0 false f.retries f.header f.words else h
  else
    let ok := h.pdActive p
    let h := h.pdRx p f false
    if ok then act h else h

/-! #### Capability lists -/

/-- p of R72 in 0.25 W units: the smaller of P_OFF and PDP_MAX. -/
def Hub.pdPower (h : Hub) (p : PodIx) : Nat := min (h.cons (podPath p)).pOff (4 * h.pdpMax p)

/-- I_CBL in 10 mA units (R71); a tripped VCONN counts as no e-marker. -/
def Hub.cableAmps (h : Hub) (p : PodIx) : Nat :=
  if (h.pde p).emarked && !(h.tc p).vconnOc && (h.pde p).iCbl = 2 then 500 else 300

/-- V_CBL in 10 mV units (R71). -/
def Hub.cableVolts (h : Hub) (p : PodIx) : Nat :=
  if (h.pde p).emarked && !(h.tc p).vconnOc && (h.pde p).vCbl ≠ 0 then 2800 else 2000

/-- The cable permits EPR (R71). -/
def Hub.cableEpr (h : Hub) (p : PodIx) : Bool :=
  (h.pde p).emarked && !(h.tc p).vconnOc && (h.pde p).iCbl = 2 && (h.pde p).eprCable && h.cableVolts p = 2800

/-- The current, in 10 mA units and rounded down to a multiple of `step`, that `q` quarter-watts carry at `v` (10 mV). -/
def floorCurrent (q v step : Nat) : Nat := (q * 2500 / v) / step * step

/-- One fixed object of R72: always at 5 V, else with 1.00 A at least. -/
def fixedOffer (q lim v : Nat) (enabled : Bool) : List PdObject :=
  let i := min lim (floorCurrent q v 1)
  if v = 500 then [.fixed v i] else if enabled && 100 ≤ i then [.fixed v i] else []

/-- One PPS object of R72. -/
def ppsOffer (q lim vmax vCbl : Nat) : List PdObject :=
  let i := min lim (floorCurrent q vmax 5)
  if 100 ≤ i ∧ vmax ≤ vCbl then [.pps vmax i] else []

/-- The capability list (R72, R70): objects by position, 28 V at position 8 in EPR mode. -/
def Hub.pdList (h : Hub) (p : PodIx) : List PdObject :=
  let q := h.pdPower p
  let lim := min 500 (h.cableAmps p)
  let vc := h.cableVolts p
  let fe := h.fixEn p
  let spr :=
    fixedOffer q lim 500 true
      ++ fixedOffer q lim 900 (fe.testBit 0 && 900 ≤ vc)
      ++ fixedOffer q lim 1500 (fe.testBit 1 && 1500 ≤ vc)
      ++ fixedOffer q lim 2000 (fe.testBit 2 && 2000 ≤ vc)
      ++ (if h.ppsEn p && (h.pde p).r3 && h.rev3En p then ppsOffer q lim 1100 vc ++ ppsOffer q lim 2100 vc else [])
  let i28 := min lim (floorCurrent q 2800 1)
  if (h.pde p).eprMode && !(h.pde p).eprLeaving && fe.testBit 3 && h.cableEpr p && 100 ≤ i28 then
    spr ++ List.replicate (7 - spr.length) PdObject.none ++ [.fixed 2800 i28]
  else spr

/-- The power data object of an offer, with the flags of R73 on the 5 V object (PD layout); under Revision 2.0 rules no EPR is
offered (R70). -/
def Hub.pdoWord (h : Hub) (p : PodIx) (o : PdObject) : Word :=
  match o with
  | .none => 0
  | .fixed v i =>
    let flags :=
      if v = 500 then
        (if !isD p && (h.tc p).drp then 2 ^ 29 else 0) + 2 ^ 26 + (if isD p then 0 else 2 ^ 25)
          + (if isD p && h.eprEn p && (h.pde p).r3 then 2 ^ 23 else 0)
      else 0
    BitVec.ofNat 32 (flags + v / 5 * 1024 + i)
  | .pps vmax i => BitVec.ofNat 32 (3 * 2 ^ 30 + vmax / 10 * 2 ^ 17 + 33 * 256 + i / 5)

/-- How many objects a list really offers. -/
def offerCount (l : List PdObject) : Nat := l.countP fun o => o ≠ .none

/-- A capability list is sent and becomes the last one (R72, R106, R107, R109): EPR_Source_Capabilities is an extended
message. -/
def Hub.pdSendList (h : Hub) (p : PodIx) (epr : Bool) : Hub :=
  let l := h.pdList p
  let ws := l.map fun o => h.pdoWord p o
  let h := if epr then h.pdSendExt p .eprSourceCaps (ws.flatMap wordBytes) else h.pdSend p .sourceCaps false ws
  h.modPde p fun e =>
    { e with offers := l, pdos := ws, numObj := offerCount l, offerSeq := (e.offerSeq + 1) % 256
             capsCount := min 255 (e.capsCount + 1) }

/-- Capabilities sent (R72, R76, R106, R107): EPR_Source_Capabilities in EPR mode, Source_Capabilities otherwise. -/
def Hub.pdSendCaps (h : Hub) (p : PodIx) : Hub :=
  (h.pdSendList p (h.pde p).eprMode).modPde p fun e =>
    { e with reoffer := false, resend := false, pendCaps := false, await := .request, pending := .none
             state := if e.explicit then .negotiate else .sendCaps }

/-! #### Collision avoidance (R77, R84, R87, R284) -/

/-- Something waits for tSinkTx. -/
def Pde.due (e : Pde) : Bool := e.pendAlert || e.pendCaps || e.pendVconn || e.pendCable || e.pendAuth

/-- The exchange of R284 is under way: an AMS from its first request to its result. -/
def Hub.authOpen (h : Hub) (p : PodIx) : Bool :=
  (h.fwl p).auth == .running && (h.fwl p).step != .idle && !(h.pde p).pendAuth

/-- Outside an AMS a Source with something to send sets Rp to SinkTxNG, and SinkTxOK otherwise; during one the step waits for
its end (R77 step 1). The exchange of R284 is an AMS in PDE.READY. -/
def Hub.pdTxPlan (h : Hub) (p : PodIx) : Hub :=
  let open_ := h.authOpen p
  h.modPde p fun e => if e.state = .ready then { e with sinkTxNg := e.roleSrc && (e.due || open_) } else e

/-- The contracted object, or that of a contract accepted and not yet in force, is no longer offered at its contracted current, or
the charge exceeds the new p (R76). -/
def Hub.pdMustLower (h : Hub) (p : PodIx) (l : List PdObject) : Bool :=
  let c := (h.pde p).pending.getD (h.pde p).contract
  let still :=
    l.any fun o => match o with
      | .fixed v i => c.ctype ≠ 2 && v = c.v && c.i ≤ i
      | .pps vmax i => c.ctype = 2 && c.vmax = vmax && c.i ≤ i
      | .none => false
  decide (h.pdPower p < (h.cons (podPath p)).charge) || (decide (c.ctype ≠ 0) && !still)

/-- The list in force, as it was last sent. -/
def Hub.pdListChanged (h : Hub) (p : PodIx) (l : List PdObject) : Bool := decide (l ≠ (h.pde p).offers)

/-- OFFER_RECOMPUTE (R76, R77): after a change of P_OFF, of the cable or of a committed offer field, once a first list has been
sent. A downward change sends new capabilities under R77, at the end of an AMS under way; another change waits for T_REOFFER, if
OFFER_UP_EN, and never while the pod's block is in its safe response (R313). -/
def Hub.pdReoffer (h : Hub) (p : PodIx) : Hub :=
  let e := h.pde p
  let l := h.pdList p
  if !e.roleSrc || !h.pdActive p || e.capsCount = 0 || e.state = .noPd then h
  else if h.pdMustLower p l then (h.modPde p fun e => { e with pendCaps := true }).pdTxPlan p
  else
    let up := h.pdListChanged p l && h.offerUpEn p && !h.inSafe (6 + p.val)
    h.modPde p fun e => { e with reoffer := up }

/-- EPR mode ends (R108, R111). -/
def Hub.pdEprEnd (h : Hub) (p : PodIx) : Hub :=
  if (h.pde p).eprMode then
    ((h.modPde p fun e => { e with eprMode := false, eprLeaving := false }).pdEvt p 11).raise (srcPd p) 0x2030 1 [0]
  else h

/-- The engine leaves EPR mode itself (R82): capabilities are due under R77. -/
def Hub.pdEprLeave (h : Hub) (p : PodIx) : Hub :=
  if (h.pde p).eprMode then (h.modPde p fun e => { e with eprLeaving := true, pendCaps := true }).pdTxPlan p else h

/-- The capabilities that are due (R77, R82): on leaving EPR mode a 28 V contract is first answered by a list without the 28 V
object, one below 28 V by EPR_Mode (Exit) and the SPR list. -/
def Hub.pdOffer (h : Hub) (p : PodIx) : Hub :=
  let e := h.pde p
  if e.eprMode && e.eprLeaving && e.contract.ctype ≠ 3 then
    ((h.pdSend p .eprMode false [BitVec.ofNat 32 (5 * 2 ^ 24)]).pdEprEnd p).pdSendCaps p
  else h.pdSendCaps p

/-! #### Start and end -/

/-- The UV trip is suppressed (R122): the input warning stands, a PPS contract, a voltage transition. -/
def Hub.uvSuppressed (h : Hub) (x : PathIx) : Bool :=
  h.budWarn || (h.vb x).pps || (h.vb x).transition

/-- VBUS stands below the window in ON: UV_HELD where the trip is suppressed, T_UV otherwise (R122). -/
def Hub.uvEval (h : Hub) (x : PathIx) : Hub :=
  let e := h.vb x
  let held := e.state == .on && e.below && h.uvSuppressed x
  let h := if held && !e.uvHeld then h.vbEvt x 7 else h
  h.modVb x fun e => { e with uvHeld := held }

/-- A contract's I_C as the sequencer has it (R75), and whether it is a PPS contract, which the UV trip follows (R122). -/
def Hub.vbSetIc (h : Hub) (x : PathIx) (i : Nat) (pps : Bool) : Hub :=
  (h.modVb x fun e => { e with iC := i, pps := pps }).uvEval x

/-- The end of an explicit contract with its cause (R108, R111): 1 detach, 2 Hard Reset, 3 PD_EN cleared, 4 shed, 5 WET,
6 LOCKOUT, 7 ErrorRecovery, 8 trip. A PPS contract no longer holds the UV trip (R122). -/
def Hub.pdContractEnd (h : Hub) (p : PodIx) (cause : Nat) : Hub :=
  let h := if (h.pde p).explicit then (h.pdEvt p 1).raise (srcPd p) 0x2002 1 [cause] else h
  let h := h.modPde p fun e =>
    { e with contract := {}, pending := none, converterAsked := false, vconnAsked := false, revKnown := false }
  (h.modVb (podPath p) fun e => { e with pps := false }).uvEval (podPath p)

/-- A swap under way is aborted (R88, R111): the cause is the second data byte of record 0x2021. -/
def Hub.pdSwapAbort (h : Hub) (p : PodIx) (why : Nat) : Hub :=
  if (h.pde p).swap ≠ .idle then
    let code := (h.pde p).swap.code
    let h := h.modPde p fun e => { e with swap := .idle, swapOwn := false, cmdVconn := false, vcRetried := false }
    ((h.pdEvt p 8).bump (cntPd p 11)).raise (srcPd p) 0x2021 2 [code, why]
  else h

/-- Edura Cascade mode ends on a pod: SBU opens, the cascade unit is informed (R93, R111). Causes: 1 Exit Mode, 2 Hard Reset,
3 detach, 4 CAS_EN cleared. -/
def Hub.pdCasLeave (h : Hub) (p : PodIx) (cause : Nat) : Hub :=
  if (h.pde p).casMode then
    let h := (h.modPde p fun e => { e with casMode := false }).modTc p fun t => { t with sbuCsb := false }
    (((h.pdEvt p 14).raise (srcPd p) 0x2050 2 [0, cause]).csbLinkClosed p)
  else h

/-! #### Structured VDMs (R92, R93) -/

/-- The Octalmya vendor ID and the hub's product ID (R427). -/
def octalmyaVid : Nat := 0x2F7A

/-- A structured VDM header (PD layout): SVID, version 2.0 under Revision 3 rules, object position, command type 0 request,
1 ACK, 2 NAK, 3 BUSY, command 1-6. -/
def Hub.vdmHead (h : Hub) (p : PodIx) (svid pos ty cmd : Nat) : Word :=
  BitVec.ofNat 32 (svid * 65536 + 32768 + (if (h.pde p).r3 && h.rev3En p then 8192 else 0) + pos * 256 + ty * 64 + cmd)

/-- A VDM sent on SOP. -/
def Hub.vdmSend (h : Hub) (p : PodIx) (svid pos ty cmd : Nat) (rest : List Word) : Hub :=
  h.pdSend p .vdm false (h.vdmHead p svid pos ty cmd :: rest)

/-- The cascade probe starts: Discover Identity on SOP (R93, R442); outside PDE.READY it waits for the next entry. -/
def Hub.probeStart (h : Hub) (p : PodIx) : Hub :=
  if isD p && h.casEn p && !(h.pde p).casMode then
    if (h.pde p).state == .ready then
      (h.modPde p fun e =>
        { e with probe := .identity, busy := 0, reprobe := false, casDue := false, probeDue := false, vdo := none
                 state := .vdmDisc }).vdmSend p 0xFF00 0 0 1 []
    else h.modPde p fun e => { e with casDue := true }
  else h

/-- A dry live SBU check after a cascade loss (R442): the DFP probes again. -/
def Hub.liveCheckDry (h : Hub) (p : PodIx) : Hub := if (h.pde p).reprobe then h.probeStart p else h

/-- A Hard Reset is in progress or its recovery runs (R89). -/
def Hub.pdHardResetRecovery (h : Hub) (p : PodIx) : Bool :=
  (h.pde p).state == .hardReset || (h.pde p).state == .hardResetRecover

/-- The 0x2002 cause of an exit from the attached state: `exit` 0 detach, 1 error recovery, 2 WET, 3 LOCKOUT, 4 Disabled.
DESIGN CHOICE (log 74): for an exit by TC_EN 0, which the table of R111 does not list, the cause is that of a detach. -/
def exitCause (exit : Nat) : Nat := if exit = 1 then 7 else if exit = 2 then 5 else if exit = 3 then 6 else 1

/-- The engine starts at an attach (R37, R69): as source it waits for VBUS; as sink for Source_Capabilities. -/
def Hub.pdStart (h : Hub) (p : PodIx) (src : Bool) : Hub :=
  let on := h.pdEn p
  h.modPde p fun e =>
    { srRun := e.srRun, hrRun := e.hrRun, lastViol := e.lastViol, offerSeq := e.offerSeq
      roleSrc := src, dfp := src, state := if !on then .disabled else if src then .waitVbus else .snkSelect }

/-- The engine stops as the machine leaves its attached state (R57, R82, R88, R95): both runs clear at a detach, and HR_RUN at
LOCKOUT. DESIGN CHOICE (log 113): PDO_n and NUM_OBJ read 0 from then on. -/
def Hub.pdStop (h : Hub) (p : PodIx) (exit : Nat) : Hub :=
  let h := (((h.pdSwapAbort p 2).pdCasLeave p 3).pdEprEnd p).pdContractEnd p (exitCause exit)
  let h := h.modPde p fun e =>
    { srRun := if exit = 0 ∨ exit = 4 then 0 else e.srRun, hrRun := if exit = 1 ∨ exit = 2 then e.hrRun else 0
      lastViol := e.lastViol, offerSeq := e.offerSeq }
  h.budSetCharge (podPath p) (h.idleCharge p)

/-- A trip of a source pod's sequencer (R128): the contract ends without a message, the charge is the implicit one, the engine
waits for VBUS. A swap under way goes on (R441). -/
def Hub.pdTripped (h : Hub) (p : PodIx) : Hub :=
  let h := (h.pdEprEnd p).pdContractEnd p 8
  let h := h.budSetCharge (podPath p) (h.implicitOf p)
  h.modPde p fun e =>
    if e.state = .disabled then e
    else { e with state := .waitVbus, await := .nothing, pendAlert := false, pendCaps := false, sinkTxNg := false }

/-- VBUS is on (R75, R84, R117): the charge is the implicit one; the first capabilities go out, after the first SOP' attempt
where VCONN is on. -/
def Hub.pdVbusOn (h : Hub) (p : PodIx) : Hub :=
  let h := if (h.pde p).explicit then h else h.budSetCharge (podPath p) (h.implicitOf p)
  if (h.pde p).state = .waitVbus then
    if (h.tc p).vconnOn && !(h.pde p).discDone then h.modPde p fun e => { e with state := .cableDisc }
    else h.pdSendCaps p
  else h

/-- VCONN tripped (R42, R71, R82): the cable counts as lacking an e-marker; EPR mode is left. -/
def Hub.pdVconnLost (h : Hub) (p : PodIx) : Hub := (h.pdReoffer p).pdEprLeave p

end Sys2Proof.Machine
end

