-- ==== Sys2Proof/Machine/Vbus.lean ====
section
/-! DEFINITION. The eFuse sequencers and the outlets (chapter 5: R113-R152, R440). -/

namespace Sys2Proof.Machine

/-- VB_STATE code of a state (R145). -/
def VbState.code : VbState → Nat
  | .off => 0 | .check0v => 1 | .windowWait => 2 | .insertDelay => 3 | .precharge => 4 | .ramp => 5
  | .on => 6 | .tripped => 7 | .retryWait => 8 | .coolDown => 9 | .latchedOff => 10

/-- The states from CHECK_0V to ON, in which a withdrawn request opens the gates and leads to OFF (R117). -/
def VbState.running : VbState → Bool
  | .check0v | .windowWait | .insertDelay | .precharge | .ramp | .on => true
  | _ => false

/-- I_LIM in 5 mA units: I_C x (1 + OC_MARGIN/16) (R121, R147). -/
def Hub.vbILim (h : Hub) (x : PathIx) : Nat := (h.vb x).iC * 2 * (16 + h.ocMargin x) / 16

/-- I_FAST in 5 mA units: I_LIM x FAST_MULT/10 (R121, R147). DESIGN CHOICE (log 78): I_LIM and I_FAST are rounded down to the
unit, I_FAST from the product that is not rounded; the spec gives no rounding. -/
def Hub.vbIFast (h : Hub) (x : PathIx) : Nat := (h.vb x).iC * 2 * (16 + h.ocMargin x) * h.fastMult x / 160

/-- The reverse threshold in 5 mA units: the larger of a tenth of I_LIM and 0.2 A (R121). -/
def Hub.vbIRev (h : Hub) (x : PathIx) : Nat := max (h.vbILim x / 10) 40

/-- The window in 10 mV units; in a transition it spans both targets (R121, R123). DESIGN CHOICE (log 78): both limits are rounded
down to the unit; the spec gives no rounding. -/
def Hub.vbWindow (h : Hub) (x : PathIx) : Nat × Nat :=
  let e := h.vb x
  let lo := if e.transition then min e.vTgt e.vOld else e.vTgt
  let hi := if e.transition then max e.vTgt e.vOld else e.vTgt
  (lo * (100 - h.winUv x) / 100, hi * (100 + h.winOv x) / 100)

/-- Milliseconds in VB.ON are added to ON_TIME as the state is left (R152). -/
def Hub.countOnTime (h : Hub) (x : PathIx) : Hub :=
  if (h.vb x).state == .on then h.bumpBy (cntVb x 8) (msSince h.clk (h.vb x).onSince) else h

/-- A pod's sequencer left VB.ON: a bounce hold under way ends with event 5 (R440). -/
def Hub.leftOn (h : Hub) (x : PathIx) : Hub :=
  let h := h.countOnTime x
  match pathPod x with
  | some p => if (h.vb x).state == .on then h.endHold p 5 else h
  | none => h

/-- Gates off and every flag of an on state clear; the table calls for the discharge unless VBUS is already below 0.8 V (R117,
R133). -/
def Efuse.gatesOff (e : Efuse) : Efuse :=
  { e with gpre := false, gmain := false, enhanced := false, pg := false, ocTiming := false, below := false
           uvHeld := false, transition := false, dsch := !e.low }

/-- The discharge output x_DSCH is driven on (R133): the table of R117 calls for it, and DSCH_EN is 1 now. -/
def Hub.dschOn (h : Hub) (x : PathIx) : Bool := (h.vb x).dsch && h.dschEn x

/-- The converter of a source path goes to its off state (R117). -/
def Hub.converterOff (h : Hub) (x : PathIx) : Hub :=
  if (h.vb x).sinkDir then h else h.rlRequest (pathOwner x) .off

/-- Entry to VB.OFF from a running state (R117, R134): the converter is set off, an outlet's charge is released. -/
def Hub.vbToOff (h : Hub) (x : PathIx) : Hub :=
  let was := (h.vb x).state
  let h := h.leftOn x
  let h := if was == .on then h.vbEvt x 4 else h
  let h := h.modVb x fun e => { e.gatesOff with state := .off, held := false, retrying := false }
  let h := if was == .coolDown then h else h.converterOff x
  h.outletRelease x

/-- The owning block is in its parity safe response (R139). -/
def Hub.vbParityHeld (h : Hub) (x : PathIx) : Bool :=
  h.inSafe (match pathPod x with | some p => 6 + p.val | none => 22 + (x.val - 16))

/-- A turn-on held under R139: the event and the record are made once. -/
def Hub.vbHold (h : Hub) (x : PathIx) : Hub :=
  if (h.vb x).held then h
  else
    (((h.modVb x fun e => { e with held := true }).vbEvt x 6).bump (cntVb x 7)).raise (srcVb x) 0x3006 2
      [(h.vb x).state.code]

/-- Entry to WINDOW_WAIT: a source path asks its converter for V_TGT (R117, R120). -/
def Hub.vbWindowWait (h : Hub) (x : PathIx) : Hub :=
  let h := h.modVb x fun e => { e with state := .windowWait, dsch := false }
  if (h.vb x).sinkDir then h else h.rlRequest (pathOwner x) (.voltage (h.vb x).vTgt)

/-- The first target and I_C of a turn-on (R118, R134): 5.00 V and the implicit current on a source pod, the granted settings
on an outlet, the contract's on a sink. -/
def Hub.vbFirstTarget (h : Hub) (x : PathIx) : Hub :=
  match pathPod x with
  | some p =>
    if (h.vb x).sinkDir then h
    else h.modVb x fun e => { e with vTgt := 500, iC := h.implicitIc p, pps := false }
  | none =>
    match (h.outletOf x).grant with
    | some (v, i) => h.modVb x fun e => { e with vTgt := v, iC := i }
    | none => h

/-- Entry to CHECK_0V, passed at once when VBUS is below 0.8 V, and on a sink (R117, R137). -/
def Hub.vbStart (h : Hub) (x : PathIx) : Hub :=
  if h.vbParityHeld x then h.vbHold x
  else
    let h := (h.vbFirstTarget x).modVb x fun e => { e with held := false, attemptAt := h.clk }
    if (h.vb x).sinkDir || (h.vb x).low then (h.vbWindowWait x).domCheck
    else (h.modVb x fun e => { e with state := .check0v, dsch := true }).domCheck

/-- T_COOL in micro-degrees; a value at or above T_TRIP acts as T_TRIP - 10 (R144). -/
def Hub.tCoolMicro (h : Hub) (x : PathIx) : Int :=
  ((if h.tTrip x ≤ h.tCool x then h.tTrip x - 10 else h.tCool x) : Nat) * 1000000

/-- T_EST is at or below T_COOL; before its seed the estimate holds nothing up (R117, R126). -/
def Hub.vbCool (h : Hub) (x : PathIx) : Bool := !(h.vb x).seeded || decide ((h.vb x).tEst ≤ h.tCoolMicro x)

/-- T_FLOOR, as it stood at the last trip, has elapsed since then (R117, R129, R138). -/
def Hub.vbFloorDone (h : Hub) (x : PathIx) : Bool :=
  match (h.vb x).tripAt with
  | none => true
  | some t => decide (t + (h.vb x).floor ≤ h.clk)

/-- A standing request in VB.OFF (R117): the turn-on, or the cool-down where the floor or the temperature asks for it. -/
def Hub.vbTryStart (h : Hub) (x : PathIx) : Hub :=
  if (h.vb x).state == .off && (h.vb x).request then
    if h.vbCool x && h.vbFloorDone x then h.vbStart x else (h.modVb x fun e => { e with state := .coolDown }).domCheck
  else h

/-- A source path's request is set by its owner (R118). -/
def Hub.vbRequestOn (h : Hub) (x : PathIx) : Hub :=
  (h.modVb x fun e => { e with request := true, sinkDir := false }).vbTryStart x

/-- The request is withdrawn (R117): not a trip. In the trip states only the request changes; a backoff or cool-down running
continues (R138), but what follows it is no retry. -/
def Hub.vbRequestOff (h : Hub) (x : PathIx) : Hub :=
  let h := h.modVb x fun e => { e with request := false, held := false, retrying := false }
  if (h.vb x).state.running then h.vbToOff x else h

/-- The sink switch is requested on (R137): receipt of PS_RDY for a contract within SNK_VMIN-SNK_VMAX. -/
def Hub.vbSinkOn (h : Hub) (x : PathIx) (v i : Nat) : Hub :=
  (h.modVb x fun e => { e with request := true, sinkDir := true, vTgt := v, iC := i, pps := false }).vbTryStart x

/-- The pod leaves Attached.SNK: the sink switch is withdrawn, and the path is a source's again (R137, R145). -/
def Hub.vbSinkOff (h : Hub) (p : PodIx) : Hub :=
  (h.vbRequestOff (podPath p)).modVb (podPath p) fun e => { e with sinkDir := false }

/-- Detach on a pod or load removal on an outlet (R130, R131): RETRY_CNT clears, and in the trip states the sequencer goes to,
or stays in, VB.COOL_DOWN. -/
def Hub.vbPartnerRemoved (h : Hub) (x : PathIx) : Hub :=
  let st := (h.vb x).state
  let h := h.modVb x fun e => { e with retryCnt := 0 }
  if st == .tripped || st == .retryWait || st == .coolDown || st == .latchedOff then
    let h := if st == .latchedOff then h.raise (srcVb x) 0x3004 1 [1] else h
    h.modVb x fun e => { e with request := false, retrying := false, state := .coolDown }
  else h

/-- T_EST as registers and records show it: -40 degrees + n x 0.25 degree, saturating (R146, R151). -/
def tEstCode (t : Int) : Nat := (clampInt 0 1023 ((t + 40000000) / 250000)).toNat

/-- Which trip counters a code advances beside TRIP_CNT (R152). -/
def tripCounter (code : Nat) : Option Nat :=
  if code = 1 ∨ code = 2 then some 2 else if code = 4 then some 3 else if code = 3 then some 4 else none

/-- Class C of R127: the current and thermal trips of R16. -/
def tripClassC (code : Nat) : Bool := 1 ≤ code && code ≤ 6

/-- TRIP (R127, R128): gates off, TRIPPED and discharge, the trip recorded, journaled and counted; on a source pod the
contract ends and the port is told. The backoff and the floor start with the fields of now (R129, R138). A negative I_MEAS
stands in record 0x3002 as its 12 bits with zeros above (DESIGN CHOICE, log 78: the spec gives no extension to 16 bits). -/
def Hub.vbTrip (h : Hub) (x : PathIx) (code : Nat) : Hub :=
  let e := h.vb x
  let h := h.leftOn x
  let h := h.modVb x fun e =>
    { e.gatesOff with state := .tripped, lastTrip := code, tripAt := some h.clk, retrying := false
                      backoff := 100 * ticksPerMs * 2 ^ e.retryCnt, floor := h.tFloor x * 100 * ticksPerMs }
  let h := (h.vbEvt x 0).raise (srcVb x) 0x3002 3
    ([code, e.state.code, e.retryCnt, 0] ++ le16 (int12 e.iMeas) ++ le16 e.vbusV ++ le16 (tEstCode e.tEst))
  let h := h.bump (cntVb x 1)
  let h := match tripCounter code with
    | some k => h.bump (cntVb x k)
    | none => h
  match pathPod x with
  | some p =>
    if e.sinkDir then h
    else
      let h := h.pdTripped p
      if tripClassC code && isD p then h.portOverCurrent p true else h
  | none => h

/-- Whether the sequencer is in one of the states where the running trips are armed (R122). -/
def Hub.vbArmed (h : Hub) (x : PathIx) : Bool := (h.vb x).state == .ramp || (h.vb x).state == .on

/-- The path is on. -/
def Hub.vbOn (h : Hub) (x : PathIx) : Bool := (h.vb x).state == .on

/-- Entry to VB.RAMP: the main gate is raised at GATE_I, the pre-charge gate of a source stays on (R117, R120, R137).
DESIGN CHOICE (log 114): that of a sink path is off. -/
def Hub.vbEnterRamp (h : Hub) (x : PathIx) : Hub :=
  h.modVb x fun e => { e with state := .ramp, gmain := true, gpre := !e.sinkDir, low := false }

/-! #### The sequencer's events -/

/-- VBUS below 0.8 V (R117, R133): the discharge ends and CHECK_0V is passed. -/
def Hub.vbBelow0v8 (h : Hub) (x : PathIx) : Hub :=
  let h := h.modVb x fun e => { e with low := true, dsch := false }
  if (h.vb x).state == .check0v then h.vbWindowWait x else h

/-- T_0V_EXPIRY (R117): BACKDRIVE. -/
def Hub.vbT0v (h : Hub) (x : PathIx) : Hub := if (h.vb x).state == .check0v then h.vbTrip x 11 else h

/-- WINDOW_QUALIFIED (R117, R137): a sink passes INSERT_DELAY and PRECHARGE at once. -/
def Hub.vbWindowOk (h : Hub) (x : PathIx) : Hub :=
  if (h.vb x).state == .windowWait then
    if (h.vb x).sinkDir then h.vbEnterRamp x else h.modVb x fun e => { e with state := .insertDelay }
  else h

/-- T_WIN_EXPIRY (R117): WINDOW_FAIL. -/
def Hub.vbTWin (h : Hub) (x : PathIx) : Hub := if (h.vb x).state == .windowWait then h.vbTrip x 10 else h

/-- T_INS_EXPIRY (R117): the pre-charge gate is turned on. -/
def Hub.vbTIns (h : Hub) (x : PathIx) : Hub :=
  if (h.vb x).state == .insertDelay then h.modVb x fun e => { e with state := .precharge, gpre := true, low := false } else h

/-- PRECHARGE_REACHED (R117). -/
def Hub.vbPrecharged (h : Hub) (x : PathIx) : Hub := if (h.vb x).state == .precharge then h.vbEnterRamp x else h

/-- T_PRE_EXPIRY (R124): PRECHARGE_FAIL. -/
def Hub.vbTPre (h : Hub) (x : PathIx) : Hub := if (h.vb x).state == .precharge then h.vbTrip x 4 else h

/-- RAMP_COMPLETE (R117, R120, R151): VB.ON; the PD engine of a source pod leaves WAIT_VBUS, and the credit of a sink path counts
in B (R153). -/
def Hub.vbRampDone (h : Hub) (x : PathIx) : Hub :=
  if (h.vb x).state == .ramp then
    let h := h.modVb x fun e =>
      { e with state := .on, gpre := false, gmain := true, enhanced := true, pg := true, onSince := h.clk, low := false }
    let e := h.vb x
    let h := ((h.vbEvt x 3).bump (cntVb x 0)).raise (srcVb x) 0x3001 1
      (le16 e.vTgt ++ le16 (min 4095 (h.vbILim x)) ++ le16 ((h.clk - e.attemptAt) / 10000) ++ [e.retryCnt])
    match pathPod x with
    | some p => if e.sinkDir then h.inDom domBus fun h => h.budNewB else (if isD p then h.portOverCurrent p false else h).pdVbusOn p
    | none => h
  else h

/-- T_RAMP_EXPIRY (R122): RAMP_TIMEOUT. -/
def Hub.vbTRamp (h : Hub) (x : PathIx) : Hub := if (h.vb x).state == .ramp then h.vbTrip x 6 else h

/-- FAST_TRIP (R122): SHORT_AT_RAMP or SHORT. -/
def Hub.vbFast (h : Hub) (x : PathIx) : Hub :=
  if (h.vb x).state == .ramp then h.vbTrip x 1 else if (h.vb x).state == .on then h.vbTrip x 2 else h

/-- OVERCURRENT_TRIP (R122). -/
def Hub.vbOver (h : Hub) (x : PathIx) : Hub := if h.vbArmed x then h.vbTrip x 5 else h

/-- OV_TRIP (R122). -/
def Hub.vbOv (h : Hub) (x : PathIx) : Hub := if (h.vb x).state == .on then h.vbTrip x 7 else h

/-- UV_TRIP (R122): unless suppressed. -/
def Hub.vbUv (h : Hub) (x : PathIx) : Hub :=
  if (h.vb x).state == .on && !h.uvSuppressed x then h.vbTrip x 9 else h

/-- REVERSE_TRIP (R122). -/
def Hub.vbReverse (h : Hub) (x : PathIx) : Hub := if h.vbArmed x then h.vbTrip x 8 else h

/-- CURRENT_ABOVE_I_LIM (R122). -/
def Hub.vbCurrent (h : Hub) (x : PathIx) (above : Bool) : Hub :=
  if h.vbArmed x then h.modVb x fun e => { e with ocTiming := above } else h

/-- VBUS_OUTSIDE_WINDOW (R122, R135). -/
def Hub.vbWindowChange (h : Hub) (x : PathIx) (below below95 : Bool) : Hub :=
  if (h.vb x).state == .on then
    (h.modVb x fun e => { e with below := below, pg := e.enhanced && !below95 }).uvEval x
  else h

/-- The board temperature in micro-degrees (R126): the die sensor, or BOARD_TEMP clamped to -40 to +125. -/
def Hub.boardMicro (h : Hub) (x : PathIx) (dieTemp : Int) : Int :=
  (if h.btSrc x then max (-40) (min 125 (h.boardTemp x)) else dieTemp) * 1000000

/-- One 10 us step of the estimate (R125), in micro-degrees: i in 5 mA, voltages in 10 mV units. DESIGN CHOICE (log 78): the
estimate is kept in whole micro-degrees, and each step's quotient is rounded down; the spec gives a real formula. -/
def thermStep (st : VbState) (tEst tBoard i : Int) (vsrc vbus ron rth tau : Nat) : Int :=
  let rise : Int :=
    match st with
    | .ramp => i * ((vsrc : Int) - vbus) * rth * 5
    | .on => i * i * ron * rth / 4000
    | _ => 0
  tEst + (tBoard + rise - tEst) / (100 * tau : Int)

/-- The discharge of a voltage transition to a lower target: on while VBUS is above the new window's upper limit (R123). -/
def Hub.vbTransDsch (h : Hub) (x : PathIx) : Bool :=
  let e := h.vb x
  e.transition && decide (e.vTgt < e.vOld) && decide (e.vTgt * (100 + h.winOv x) < e.vbusNow * 100)

/-- What a sample of VBUS does to the discharge (R117, R123, R133): VBUS below 0.8 V ends it, a transition's follows VBUS. -/
def Hub.vbSample (h : Hub) (x : PathIx) (vbus : Nat) : Hub :=
  let h := h.modVb x fun e => { e with vbusNow := vbus, low := decide (vbus < 80), dsch := e.dsch && decide (80 ≤ vbus) }
  if (h.vb x).transition then
    let d := h.vbTransDsch x
    h.modVb x fun e => { e with dsch := d }
  else if (h.vb x).state == .check0v && (h.vb x).low then h.vbWindowWait x
  else h

/-- The current of a path in 5 mA units (R115): the sense voltage, in uV and held to the input's range of -25 mV to +100 mV,
divided by SNS_RES. DESIGN CHOICE (log 100): the quotient is rounded down to the unit of I_MEAS. -/
def Hub.senseCurrent (h : Hub) (x : PathIx) (uv : Int) : Int := 2 * clampInt (-25000) 100000 uv / (h.snsRes x : Int)

/-- THERMAL_MODEL_UPDATE (R115, R122, R125, R126, R146): the current is the sense voltage over SNS_RES; the estimate steps
every 10 us, the measurement registers every tenth step; the estimate is seeded at the first entry to VB.RAMP. VIN_SNS is
sampled with it (R168; DESIGN CHOICE, log 81). -/
def Hub.vbThermal (h : Hub) (x : PathIx) (uv : Int) (vbus vsrc : Nat) (dieTemp : Int) (vin : Nat) : Hub :=
  let i5 := h.senseCurrent x uv
  let h := h.budVin vin
  let e := h.vb x
  let tb := h.boardMicro x dieTemp
  let driven := e.state == .ramp || e.state == .on
  let base := if e.seeded then e.tEst else tb + 25000000
  let est := if e.seeded || driven then thermStep e.state base tb i5 vsrc vbus (h.fetRon x) (h.fetRth x) (h.fetTau x) else base
  let full := e.measDiv = 9
  let h := h.modVb x fun e =>
    { e with tEst := est, seeded := e.seeded || driven, measDiv := (e.measDiv + 1) % 10
             vbusV := if full then vbus else e.vbusV, iMeas := if full then i5 else e.iMeas
             tEstMeas := if full then est else e.tEstMeas
             vsrcV := if full then vsrc else e.vsrcV, measSeq := if full then (e.measSeq + 1) % 128 else e.measSeq }
  let h := if full then (h.evt (vbBase x + 0x24) 31).evt (vbBase x + 0x28) 31 else h
  let h := h.vbSample x vbus
  if driven && decide ((h.tTrip x : Int) * 1000000 ≤ est) then h.vbTrip x 3 else h

/-- GATES_OFF_CONFIRMED (R117, R129, R151): the backoff, or LATCHED_OFF at RETRY_MAX. An outlet's request ends there with its
grant (R134). -/
def Hub.vbGatesOff (h : Hub) (x : PathIx) : Hub :=
  if (h.vb x).state == .tripped then
    if (h.vb x).retryCnt < h.retryMax x then h.modVb x fun e => { e with state := .retryWait }
    else
      let h := h.modVb x fun e => { e with state := .latchedOff }
      let h := ((h.vbEvt x 2).bump (cntVb x 5)).raise (srcVb x) 0x3003 4 [(h.vb x).lastTrip, h.retryMax x]
      let h := (h.converterOff x).outletRelease x
      match pathOut x with
      | some _ => h.modVb x fun e => { e with request := false }
      | none => h
  else h

/-- BACKOFF_EXPIRY (R117, R129). -/
def Hub.vbBackoff (h : Hub) (x : PathIx) : Hub :=
  if (h.vb x).state == .retryWait then
    h.modVb x fun e => { e with state := .coolDown, retryCnt := e.retryCnt + 1, retrying := e.request }
  else h

/-- COOL_DOWN_END (R117, R139, R148): the turn-on from CHECK_0V, a retry where the cool-down followed a backoff, or OFF without a
request. -/
def Hub.vbCoolEnd (h : Hub) (x : PathIx) : Hub :=
  if (h.vb x).state == .coolDown && h.vbCool x then
    if (h.vb x).request then
      if h.vbParityHeld x then h.vbHold x
      else
        let h := if (h.vb x).retrying then h.vbEvt x 1 else h
        (h.modVb x fun e => { e with retrying := false }).vbStart x
    else h.vbToOff x
  else h

/-- T_STABLE_EXPIRY (R130). -/
def Hub.vbStable (h : Hub) (x : PathIx) : Hub :=
  if (h.vb x).state == .on then h.modVb x fun e => { e with retryCnt := 0 } else h

/-- RETRY_CLR (R130): a backoff running keeps its length. -/
def Hub.vbRetryClr (h : Hub) (x : PathIx) : Hub := h.modVb x fun e => { e with retryCnt := 0 }

/-- DISCHARGE_TIMEOUT (R133): the sequence continues. -/
def Hub.vbDschTimeout (h : Hub) (x : PathIx) : Hub :=
  if h.dschOn x && !(h.vb x).low then
    ((h.vbEvt x 5).bump (cntVb x 6)).raise (srcVb x) 0x3005 3 (le16 (h.vb x).vbusV)
  else h

/-- A target change in VB.ON is a voltage transition (R123); VBUS as last sampled decides the discharge. -/
def Hub.vbSetTarget (h : Hub) (x : PathIx) (v : Nat) : Hub :=
  if (h.vb x).state == .on && v ≠ (h.vb x).vTgt then
    let h := h.modVb x fun e => { e with vOld := e.vTgt, vTgt := v, transition := true }
    let d := h.vbTransDsch x
    (h.modVb x fun e => { e with dsch := d }).uvEval x
  else h.modVb x fun e => { e with vTgt := v }

/-- VOLTAGE_TRANSITION_END (R123). -/
def Hub.vbTransitionEnd (h : Hub) (x : PathIx) : Hub :=
  if (h.vb x).transition then
    (h.modVb x fun e => { e with transition := false, dsch := false, vOld := e.vTgt }).uvEval x
  else h

/-! #### Outlets -/

/-- The charge of an outlet in 0.25 W units for settings V (10 mV) and I (10 mA) (R134, R154). -/
def outletCharge (v i : Nat) : Nat := (v * i + 2499) / 2500

/-- OUTLET_CLAIM (R134): the outlet claims V_SET x I_SET, or waits with BUDGET_WAIT. -/
def Hub.outletClaim (h : Hub) (o : OutIx) : Hub :=
  let v := h.vSet o
  let i := h.iSet o
  let c := outletCharge v i
  let h := h.budIdle
  if h.budClaimOk (outPath o) c then
    ((h.budSetCharge (outPath o) c).modOut o fun q => { q with grant := some (v, i), budgetWait := false }).vbRequestOn (outPath o)
  else
    ((h.modOut o fun q => { q with budgetWait := true }).bump (cntOut o 9)).budRefused (outPath o) c |>.raise
      (srcVb (outPath o)) 0x3007 1 (le16 c)

/-- The first two conditions of R134: the outlet is enabled and a load is present. -/
def Hub.outletWants (h : Hub) (o : OutIx) : Bool := h.outEn o && ((h.outlet o).pres || !h.presEn o)

/-- The outlet's request follows its conditions (R131, R134, R136): it claims, where the charge is still granted the request stands
again, or it is withdrawn. A latched outlet waits for its release. -/
def Hub.outletEval (h : Hub) (o : OutIx) : Hub :=
  let x := outPath o
  if h.outletWants o then
    if h.consShed x || (h.vb x).state == .latchedOff then h
    else if (h.outlet o).grant = none then h.outletClaim o
    else if (h.vb x).request then h
    else h.vbRequestOn x
  else
    (h.vbRequestOff (outPath o)).modOut o fun q => { q with budgetWait := false }

/-- LATCH_CLR (R132): ignored in any state but LATCHED_OFF. An outlet, whose charge the latch released, claims again (DEDUCED, log
79). -/
def Hub.vbLatchClr (h : Hub) (x : PathIx) : Hub :=
  if (h.vb x).state == .latchedOff then
    let h := (h.modVb x fun e => { e with state := .coolDown, retryCnt := 0, retrying := false }).raise (srcVb x) 0x3004 1 [2]
    match pathOut x with
    | some o => h.outletEval o
    | none => h
  else h

/-- An outlet acts on a change of its presence (R131, R134). -/
def Hub.outletCatch (h : Hub) (o : OutIx) : Hub :=
  if (h.outlet o).missed then
    let h := h.modOut o fun q => { q with missed := false }
    let h := if !(h.outlet o).pres && h.presEn o then h.vbPartnerRemoved (outPath o) else h
    h.outletEval o
  else h

/-- OUTLET_PRESENCE_CHANGE (R131, R134, R150): OUT_o_PRES held its level for PRES_DEB. While OUT is not ON it is a wake (R345); it is
acted on once OUT runs. -/
def Hub.outletPresence (h : Hub) (o : OutIx) (pin : Bool) : Hub :=
  let pres := if h.presPol o then pin else !pin
  let h := h.modOut o fun q => { q with pres := pres, missed := true }
  let h := if h.domOn domOut then h else h.wakeSource 22
  if h.domRuns domOut then h.outletCatch o else h

/-- OUT_o_STAT is asserted (R135). -/
def Hub.statAsserted (h : Hub) (o : OutIx) : Bool :=
  if h.statMode o then (h.vb (outPath o)).pg else h.budWarn

/-- The level of the open-drain pin OUT_o_STAT: true when driven low (R135). -/
def Hub.statDrivenLow (h : Hub) (o : OutIx) : Bool := xor (h.statAsserted o) (h.statPol o)

/-! #### The commands -/

/-- T_0V_EXPIRY (R117). -/
def execT0vExpiry (x : PathIx) (s : State) : Host.Outcome State Fault Refusal :=
  onPath s x fun h => h.vbT0v x

/-- WINDOW_QUALIFIED (R117). -/
def execWindowQualified (x : PathIx) (s : State) : Host.Outcome State Fault Refusal :=
  onPath s x fun h => h.vbWindowOk x

/-- T_WIN_EXPIRY (R117). -/
def execTWinExpiry (x : PathIx) (s : State) : Host.Outcome State Fault Refusal :=
  onPath s x fun h => h.vbTWin x

/-- T_INS_EXPIRY (R117). -/
def execTInsExpiry (x : PathIx) (s : State) : Host.Outcome State Fault Refusal :=
  onPath s x fun h => h.vbTIns x

/-- PRECHARGE_REACHED (R117). -/
def execPrechargeReached (x : PathIx) (s : State) : Host.Outcome State Fault Refusal :=
  onPath s x fun h => h.vbPrecharged x

/-- T_PRE_EXPIRY (R124). -/
def execTPreExpiry (x : PathIx) (s : State) : Host.Outcome State Fault Refusal :=
  onPath s x fun h => h.vbTPre x

/-- RAMP_COMPLETE (R117). -/
def execRampComplete (x : PathIx) (s : State) : Host.Outcome State Fault Refusal :=
  onPath s x fun h => h.vbRampDone x

/-- T_RAMP_EXPIRY (R122). -/
def execTRampExpiry (x : PathIx) (s : State) : Host.Outcome State Fault Refusal :=
  onPath s x fun h => h.vbTRamp x

/-- FAST_TRIP (R122). -/
def execFastTrip (x : PathIx) (s : State) : Host.Outcome State Fault Refusal :=
  onPath s x fun h => h.vbFast x

/-- OVERCURRENT_TRIP (R122). -/
def execOvercurrentTrip (x : PathIx) (s : State) : Host.Outcome State Fault Refusal :=
  onPath s x fun h => h.vbOver x

/-- OV_TRIP (R122). -/
def execOvTrip (x : PathIx) (s : State) : Host.Outcome State Fault Refusal :=
  onPath s x fun h => h.vbOv x

/-- UV_TRIP (R122). -/
def execUvTrip (x : PathIx) (s : State) : Host.Outcome State Fault Refusal :=
  onPath s x fun h => h.vbUv x

/-- REVERSE_TRIP (R122). -/
def execReverseTrip (x : PathIx) (s : State) : Host.Outcome State Fault Refusal :=
  onPath s x fun h => h.vbReverse x

/-- GATES_OFF_CONFIRMED (R117, R129). -/
def execGatesOffConfirmed (x : PathIx) (s : State) : Host.Outcome State Fault Refusal :=
  onPath s x fun h => h.vbGatesOff x

/-- BACKOFF_EXPIRY (R117, R129). -/
def execBackoffExpiry (x : PathIx) (s : State) : Host.Outcome State Fault Refusal :=
  onPath s x fun h => h.vbBackoff x

/-- COOL_DOWN_END (R117, R139). -/
def execCoolDownEnd (x : PathIx) (s : State) : Host.Outcome State Fault Refusal :=
  onPath s x fun h => h.vbCoolEnd x

/-- T_STABLE_EXPIRY (R130). -/
def execTStableExpiry (x : PathIx) (s : State) : Host.Outcome State Fault Refusal :=
  onPath s x fun h => h.vbStable x

/-- DISCHARGE_TIMEOUT (R133). -/
def execDischargeTimeout (x : PathIx) (s : State) : Host.Outcome State Fault Refusal :=
  onPath s x fun h => h.vbDschTimeout x

/-- VOLTAGE_TRANSITION_END (R123). -/
def execVoltageTransitionEnd (x : PathIx) (s : State) : Host.Outcome State Fault Refusal :=
  onPath s x fun h => h.vbTransitionEnd x

/-- THERMAL_MODEL_UPDATE (R125, R146, R168). -/
def execThermalModelUpdate (x : PathIx) (uv : Int) (vbus vsrc : Nat) (b : BoardSense) (s : State) :
    Host.Outcome State Fault Refusal :=
  onPath s x fun h => h.vbThermal x uv vbus vsrc b.dieTemp b.vin

/-- CURRENT_ABOVE_I_LIM (R122). -/
def execCurrentAboveILim (x : PathIx) (above : Bool) (s : State) : Host.Outcome State Fault Refusal :=
  onPath s x fun h => h.vbCurrent x above

/-- VBUS_OUTSIDE_WINDOW (R122, R135). -/
def execVbusOutsideWindow (x : PathIx) (below below95 : Bool) (s : State) : Host.Outcome State Fault Refusal :=
  onPath s x fun h => h.vbWindowChange x below below95

/-- OUTLET_PRESENCE_CHANGE (R131, R134, R150); OUT being off, the Husk sees it (R345). -/
def execOutletPresenceChange (o : OutIx) (pin : Bool) (s : State) : Host.Outcome State Fault Refusal :=
  perform s fun h => h.outletPresence o pin

end Sys2Proof.Machine
end

