-- ==== Sys2Proof/Machine/TypeC.lean ====
section
/-! DEFINITION. The Type-C connection machine, the moisture check and bounce hold (chapter 3: R34-R68, R439, R440). -/

namespace Sys2Proof.Machine

/-- ROLE and TRY_SRC_EN as they stand in the active copy; a D pod is source only without Try.SRC (R34, R59). -/
def Hub.latchRole (h : Hub) (p : PodIx) : Hub :=
  h.modTc p fun t => { t with role := h.tcRole p, trySrc := h.tcTrySrc p }

/-- Entry to the unattached state of the role then in effect (R36, R59). -/
def Hub.enterUnattached (h : Hub) (p : PodIx) : Hub :=
  (h.latchRole p).modTc p fun t =>
    { t with
      state := if t.srcOnly then .unattachedSrc else .unattachedSnk
      orient := false, vconnOn := false, rpLevel := 0, sbuCsb := false, dryCnt := 0, vconnOc := false
      checking := false, debounced := false, lost := false, vbusCounted := false, liveWet := false }

/-- One chatter transition (R39). -/
def Hub.chatterTransition (h : Hub) (p : PodIx) : Hub :=
  let t := h.tc p
  let seen := h.clk :: t.chatter.filter fun x => h.clk - x < ticksPerSecond
  if t.chatterExt then h
  else if h.chatterThr p ≠ 0 ∧ h.chatterThr p ≤ seen.length then
    (((h.modTc p fun t => { t with chatterExt := true, chatter := [] }).tcEvt p 7).bump (cntTc p 5)).raise
      (srcTc p) 0x1031 2 [seen.length]
  else h.modTc p fun t => { t with chatter := seen }

/-- Recognition of an unsupported accessory, once per insertion (R35). -/
def Hub.accessory (h : Hub) (p : PodIx) : Hub :=
  let t := h.tc p
  if t.accCounted then h
  else
    (((h.modTc p fun t => { t with accCounted := true }).tcEvt p 8).bump (cntTc p 7)).raise
      (srcTc p) 0x1032 1 [termCode t.cc1, termCode t.cc2]

/-- Both pins show the same accessory pair for the presented terminations (R35). -/
def accessoryPair (src : Bool) (c1 c2 : Term) : Bool :=
  (c1 == .ra && c2 == .ra) || (src && c1 == .rd && c2 == .rd) || (!src && isRp c1 && isRp c2)

/-- The partner's termination that this side acts on stands on exactly one pin (R34, R36). -/
def wanted (src : Bool) (c1 c2 : Term) : Bool :=
  if src then xor (c1 == .rd) (c2 == .rd) else xor (isRp c1) (isRp c2)

/-- Evaluation of the CC pins in an unattached state (R35, R36). -/
def Hub.evalUnattached (h : Hub) (p : PodIx) : Hub :=
  let t := h.tc p
  let src := t.state == .unattachedSrc
  if accessoryPair src t.cc1 t.cc2 then h.accessory p
  else if wanted src t.cc1 t.cc2 then
    (h.modTc p fun t =>
      { t with state := if src then .attachWaitSrc else .attachWaitSnk
               rpLevel := if src then 0 else rpOf (if isRp t.cc2 then t.cc2 else t.cc1)
               debounced := false, lost := false, vbusCounted := false, checking := false }).chatterTransition p
  else h

/-- The CC pins read `c1` and `c2` (R36): the common part of a termination appearing or disappearing. -/
def Hub.ccPins (h : Hub) (p : PodIx) (c1 c2 : Term) : Hub :=
  h.modTc p fun t => { t with cc1 := c1, cc2 := c2 }

/-- The pod presents Rp: it acts on Rd (R34, R36). -/
def Tc.actsSrc (t : Tc) : Bool := t.state == .unattachedSrc || t.state == .attachWaitSrc || t.state == .trySrc || t.srcAttached

/-- The pin on which an attached pod found its partner shows Rd (R36, R57). -/
def Tc.rdStays (t : Tc) (c1 c2 : Term) : Bool := (if t.orient then c2 else c1) == .rd

/-- RP_LEVEL of a sink after its pins read `c1` and `c2` (R61): the detected level; with no Rp the last one stays. -/
def Tc.rpSeen (t : Tc) (c1 c2 : Term) : Nat :=
  if t.actsSrc then t.rpLevel else if isRp c1 then rpOf c1 else if isRp c2 then rpOf c2 else t.rpLevel

/-- A waiting pod's pins change (R35, R36, R39). `kept` says that the wanted termination stood before and stands on the same
pin. DEDUCED (log 72): a termination that returned or moved is a new one, for which debounce and check start afresh. -/
def Hub.waitPins (h : Hub) (p : PodIx) (kept : Bool) : Hub :=
  let t := h.tc p
  if wanted t.actsSrc t.cc1 t.cc2 then
    if kept then h else h.modTc p fun t => { t with lost := false, debounced := false, checking := false }
  else
    let h := h.modTc p fun t => { t with lost := true }
    if accessoryPair t.actsSrc t.cc1 t.cc2 then h.accessory p else h

/-- The CC pins change to `c1` and `c2` (R35, R36, R61): an unattached pod evaluates them; a waiting one keeps or loses its
partner's termination; an attached source loses it with the connected pin's Rd. A pod that presents no termination, or whose
domain is not ON, sees nothing. -/
def Hub.ccChange (h : Hub) (p : PodIx) (c1 c2 : Term) : Hub :=
  let t := h.tc p
  if t.ccOpen || !h.domOn (podDom p) then h
  else
    let h := (h.ccPins p c1 c2).modTc p fun t => { t with rpLevel := t.rpSeen c1 c2 }
    if t.unattached then h.evalUnattached p
    else if t.srcAttached then h.modTc p fun t => { t with lost := !t.rdStays c1 c2 }
    else if t.attached then h
    else
      h.waitPins p
        (wanted t.actsSrc t.cc1 t.cc2 && !t.lost && (if t.actsSrc then (t.cc1 == .rd) == (c1 == .rd) else isRp t.cc1 == isRp c1))

/-- The two ends of tDRP (R35, R36): a dual-role pod changes its unattached state; one that presents Rp advertises Default. -/
def Hub.drpToggle (h : Hub) (p : PodIx) : Hub :=
  let t := h.tc p
  if t.drp && t.unattached then
    h.modTc p fun t =>
      { t with state := if t.state == .unattachedSrc then .unattachedSnk else .unattachedSrc, cc1 := .open, cc2 := .open
               rpLevel := 0 }
  else h

/-- The pod's SuperSpeed multiplexer lane when attached, by orientation (R41): none while released. -/
def Tc.ssLane (t : Tc) : Option Nat :=
  if t.attached then some (if t.orient then 2 else 1) else none

/-- The contact pairs that carry the SuperSpeed lanes, lane 0 first (R41): two at Gen 2x2 on an upstream pod, none while
released. -/
def Hub.ssLanes (h : Hub) (p : PodIx) : List Nat :=
  match (h.tc p).ssLane with
  | none => []
  | some n => if !isD p && (h.link p).speed == .gen2x2 then [n, 3 - n] else [n]

/-- The CC pin onto which VCONN is switched, 1 or 2 (R41, R42): the one that is not connected. -/
def Tc.vconnPin (t : Tc) : Option Nat := if t.vconnOn then some (if t.orient then 1 else 2) else none

/-- The SBU pins, 1 or 2, that carry CSB lines A and B (R41): none outside Edura Cascade mode. -/
def Tc.csbPins (t : Tc) : Option (Nat × Nat) :=
  if t.attached && t.sbuCsb then some (if t.orient then (2, 1) else (1, 2)) else none

/-! #### Attach -/

/-- What every attach does (R37, R41, R62, R67). -/
def Hub.attachCommon (h : Hub) (p : PodIx) (st : TcState) (orient : Bool) (rp : Nat) : Hub :=
  let h := h.modTc p fun t =>
    { t with state := st, orient := orient, rpLevel := rp, attachedAt := h.clk, checking := false, debounced := false
             lost := false, vconnOc := false, liveWet := false }
  let t := h.tc p
  (((h.tcEvt p 0).bump (cntTc p 0)).raise (srcTc p) 0x1001 1
    [st.code, t.orient.toNat, termCode t.cc1, termCode t.cc2, t.rpLevel]).attachRefuses p

/-- Attached.SRC (R36, R37, R41, R42, R136, R154): multiplexers, VCONN where Ra was seen, PD engine, request for VBUS; a shed pod's
request waits for the end of the shed. -/
def Hub.attachSrc (h : Hub) (p : PodIx) : Hub :=
  let t := h.tc p
  let orient := t.cc2 == .rd
  let ra := if orient then t.cc1 == .ra else t.cc2 == .ra
  let h := h.attachCommon p .attachedSrc orient 0
  let h := h.modTc p fun t => { t with vconnOn := ra }
  let h := h.pdStart p true
  if h.consShed (podPath p) then h.modPde p fun e => { e with shedReset := true, recovered := true }
  else h.vbRequestOn (podPath p)

/-- Attached.SNK (R36, R37, R41); the path is the sink switch from here on (R137, R145). -/
def Hub.attachSnk (h : Hub) (p : PodIx) : Hub :=
  let t := h.tc p
  let orient := isRp t.cc2
  let h := h.attachCommon p .attachedSnk orient (rpOf (if orient then t.cc2 else t.cc1))
  let h := h.modVb (podPath p) fun e => { e with sinkDir := true }
  (h.pdStart p false).upSelect

/-- The attach of a source pod whose termination is debounced, once VBUS is below 0.8 V (R36, R40, R43). -/
def Hub.trySrcAttach (h : Hub) (p : PodIx) (vbusLow : Bool) : Hub :=
  let t := h.tc p
  if (t.state == .attachWaitSrc || t.state == .trySrc) && t.debounced && !t.lost && wanted true t.cc1 t.cc2 && vbusLow then
    h.attachSrc p
  else h

/-- The attach of a sink pod whose termination is debounced, once partner VBUS is present (R36, R471). -/
def Hub.trySnkAttach (h : Hub) (p : PodIx) (vbusPresent : Bool) : Hub :=
  let t := h.tc p
  if (t.state == .attachWaitSnk || t.state == .tryWaitSnk) && t.debounced && !t.lost && wanted false t.cc1 t.cc2 && vbusPresent then
    h.attachSnk p
  else h

/-- The way on from AttachWait after a dry check (R36). -/
def Hub.afterDry (h : Hub) (p : PodIx) (vbusMv : Nat) : Hub :=
  let h := h.modTc p fun t => { t with checking := false, debounced := true }
  let t := h.tc p
  if t.state == .attachWaitSrc then h.trySrcAttach p (vbusMv < 800)
  else if t.state == .attachWaitSnk && t.drp && t.trySrc && !t.lost && wanted false t.cc1 t.cc2 then
    h.modTc p fun t => { t with state := .trySrc, debounced := false, rpLevel := 0, cc1 := .open, cc2 := .open }
  else h.trySnkAttach p (4000 ≤ vbusMv)

/-- T_CC_DEBOUNCE_EXPIRY (R36, R45): the termination was stable for tCCDebounce or the extended debounce. -/
def Hub.ccDebounce (h : Hub) (p : PodIx) (vbusMv : Nat) : Hub :=
  let t := h.tc p
  if t.lost || t.checking || t.debounced || !wanted t.actsSrc t.cc1 t.cc2 then h
  else if t.state == .attachWaitSrc || t.state == .attachWaitSnk then
    if h.moistEn p then h.modTc p fun t => { t with checking := true, vconnOn := false }
    else h.afterDry p vbusMv
  else if t.state == .tryWaitSnk then
    (h.modTc p fun t => { t with debounced := true }).trySnkAttach p (4000 ≤ vbusMv)
  else h

/-! #### The moisture check -/

/-- A pin's threshold in sixteenths of 100 ohm, so that the product of R48 is exact. -/
def Hub.pinThreshold (h : Hub) (p : PodIx) (pin : MoistPin) : Nat :=
  let abs := h.wetThr p * 1600
  if pin.baseValid && h.wetRel p ≠ 0 then min 160000 (max abs (pin.base * h.wetRel p)) else abs

/-- The class of a reading in 100 ohm units of pin i, 0 CC1 to 3 SBU2 (R47). -/
def Hub.classify (h : Hub) (p : PodIx) (i : Fin 4) (r : Nat) : MoistClass :=
  if i.val < 2 ∧ 7 ≤ r ∧ r ≤ 13 then .ra
  else if i.val < 2 ∧ 40 ≤ r ∧ r ≤ 62 then .rd
  else if h.pinThreshold p ((h.tc p).pins[i]) ≤ 16 * r then .dry
  else .wet

/-- A reading contributes to the pin's baseline (R49). DESIGN CHOICE (log 112): BASE shows the lowest reading so far before there are
three. -/
def gatherBase (absThr : Nat) (r : Nat) (pin : MoistPin) : MoistPin :=
  if pin.baseValid ∨ r < absThr then pin
  else
    let v := min r 20000
    { pin with
      base := if pin.baseCnt = 0 then v else min pin.base v
      baseCnt := pin.baseCnt + 1
      baseValid := 3 ≤ pin.baseCnt + 1 }

/-- A reading in 100 ohm units as it is reported (R46): above 2 megohm it is open. -/
def readingCode (r : Nat) : Nat := if 20000 < r then 0xFFFF else r

/-- A pin after a reading of a class: the sequence number advances, the baseline gathers (R46, R49, R64). -/
def MoistPin.read (q : MoistPin) (r : Nat) (c : MoistClass) (thr : Nat) : MoistPin :=
  let q := { q with res := readingCode r, cls := c, seq := (q.seq + 1) % 256 }
  if c = .ra ∨ c = .rd then q else gatherBase thr r q

/-- One pin measured (R45-R49, R64): its class, reading, sequence number, VALID and baseline. -/
def Hub.measurePin (h : Hub) (p : PodIx) (i : Fin 4) (r : Nat) : Hub :=
  let c := h.classify p i r
  let thr := h.wetThr p * 100
  (h.modTc p fun t => { t with pins := t.pins.set i.val (t.pins[i.val].read r c thr) }).evt (podBase p + 0x14 + 4 * i.val) 18

/-- Pin i is enabled in PIN_EN (R45, R63). -/
def Hub.pinEnabled (h : Hub) (p : PodIx) (i : Fin 4) : Bool := (h.pinEn p).testBit i.val

/-- The enabled pins among those listed, measured in order. -/
def Hub.measurePins (h : Hub) (p : PodIx) : List (Fin 4 × Nat) → Hub
  | [] => h
  | (i, r) :: rest => (if h.pinEnabled p i then h.measurePin p i r else h).measurePins p rest

/-- How many enabled pins of the last check have class c. -/
def Hub.classCount (h : Hub) (p : PodIx) (c : MoistClass) : Nat :=
  ([0, 1, 2, 3] : List (Fin 4)).countP fun i => h.pinEnabled p i && decide ((h.tc p).pins[i].cls = c)

/-- Pin i makes the last check wet: it is Wet, or one of several Rd or of several Ra (R47, R67). -/
def Hub.pinWet (h : Hub) (p : PodIx) (i : Fin 4) : Bool :=
  let c := (h.tc p).pins[i].cls
  h.pinEnabled p i &&
    (c == .wet || (c == .rd && 1 < h.classCount p .rd) || (c == .ra && 1 < h.classCount p .ra))

/-- The wet-pin mask of record 0x1010 (R67). -/
def Hub.wetMask (h : Hub) (p : PodIx) : Nat :=
  ([0, 1, 2, 3] : List (Fin 4)).foldl (fun m i => if h.pinWet p i then m + 2 ^ i.val else m) 0

/-- The four latest readings as record bytes (R67). -/
def Hub.readingBytes (h : Hub) (p : PodIx) : List Nat :=
  ([0, 1, 2, 3] : List (Fin 4)).flatMap fun i => le16 (h.tc p).pins[i].res

/-- Entry to WET (R50, R54): journaled with the four readings and counted. -/
def Hub.enterWet (h : Hub) (p : PodIx) : Hub :=
  let was := (h.tc p).state
  let mask := h.wetMask p
  let h := h.modTc p fun t =>
    { t with state := .wet, checking := false, debounced := false, lost := false, liveWet := false, dryCnt := 0
             vconnOn := false, sbuCsb := false, rpLevel := 0, wetSince := h.clk, cc1 := .open, cc2 := .open }
  ((h.tcEvt p 2).bump (cntTc p 1)).raise (srcTc p) 0x1010 3 (h.readingBytes p ++ [mask, was.code])

/-- A re-check in WET was dry: the third in a row leaves WET (R50). -/
def Hub.dryRecheck (h : Hub) (p : PodIx) : Hub :=
  let t := h.tc p
  if 2 ≤ t.dryCnt then
    let data := h.readingBytes p ++ le32 (msSince h.clk t.wetSince)
    (((h.enterUnattached p).tcEvt p 3).raise (srcTc p) 0x1011 1 data)
  else h.modTc p fun t => { t with dryCnt := t.dryCnt + 1, checking := false }

/-- The end of a moisture check whose pins are measured (R36, R40, R47, R50). -/
def Hub.checkEnd (h : Hub) (p : PodIx) (vbusMv : Nat) : Hub :=
  let t := h.tc p
  let wet := h.wetMask p ≠ 0
  if t.state == .wet then
    if wet then h.modTc p fun t => { t with dryCnt := 0, checking := false } else h.dryRecheck p
  else if wet then h.enterWet p
  else h.afterDry p vbusMv

/-- MOISTURE_CHECK_DONE (R45-R50): the readings, in 100 ohm units, of CC1, CC2, SBU1 and SBU2. -/
def Hub.moistureDone (h : Hub) (p : PodIx) (r0 r1 r2 r3 : Nat) (vbusMv : Nat) : Hub :=
  if (h.tc p).checking then
    (h.measurePins p [(0, r0), (1, r1), (2, r2), (3, r3)]).checkEnd p vbusMv
  else h

/-- WET_RECHECK (R50): a new check in WET; with MOIST_EN 0 it is skipped and counts as dry (R63). -/
def Hub.wetRecheck (h : Hub) (p : PodIx) : Hub :=
  let t := h.tc p
  if t.state == .wet && !t.checking then
    if h.moistEn p then h.modTc p fun t => { t with checking := true } else h.dryRecheck p
  else h

/-! #### Leaving the attached states -/

/-- The exit actions of a detach (R57 steps 1-5, R54, R439) of a pod that was attached as a source or not, with the ending event
of a hold under way. `cause` is passed to the PD engine: 0 detach, 1 error recovery, 2 WET, 3 LOCKOUT, 4 Disabled. DESIGN CHOICE
(log 112): ORIENT keeps the last orientation until an unattached state is entered. -/
def Hub.leaveAs (h : Hub) (p : PodIx) (src : Bool) (holdCode cause : Nat) : Hub :=
  let h := h.endHold p holdCode
  let h := h.modTc p fun t => { t with vconnOn := false }
  let h := if src then h.vbRequestOff (podPath p) else h.vbSinkOff p
  let h := h.pdStop p cause
  let h := h.csbPodLeft p
  let h := h.modTc p fun t => { t with sbuCsb := false, bhAvail := false, rpLevel := 0, liveWet := false }
  let h := h.portGone p
  let h := h.secDetach p
  h.upstreamPodLeft p

/-- The exit actions of the pod's present attached state (R57). -/
def Hub.leaveAttached (h : Hub) (p : PodIx) (holdCode cause : Nat) : Hub := h.leaveAs p (h.tc p).srcAttached holdCode cause

/-- TYPEC_DETACH (R57): the exit actions, the detach event and record, the unattached state. The record of a detach out of a
hold carries the timebase of the loss (R67). A pod that `target` sends to Disabled sees nothing on its CC pins (R61). -/
def Hub.typecDetach (h : Hub) (p : PodIx) (holdCode cause : Nat) (target : Option TcState) : Hub :=
  let t := h.tc p
  let tb := match t.hold with
    | some hd => hd.lossTb
    | none => h.tb
  let h := h.leaveAttached p holdCode cause
  let h := (h.tcEvt p 1).raiseAt tb (srcTc p) 0x1002 1 (t.state.code :: le32 (msSince h.clk t.attachedAt))
  let h := (h.vbPartnerRemoved (podPath p)).enterUnattached p
  match target with
  | none => h
  | some st => h.modTc p fun t => { t with state := st, cc1 := .open, cc2 := .open }

/-- LOCKOUT at the PD engine's request (R36, R40, R67). -/
def Hub.enterLockout (h : Hub) (p : PodIx) : Hub :=
  if (h.tc p).attached then
    let h := h.leaveAttached p 6 3
    let h := h.modTc p fun t =>
      { t with state := .lockout, lockoutEnd := h.clk + h.tLockout p * ticksPerSecond, cc1 := .open, cc2 := .open
               checking := false, lost := false, debounced := false }
    ((h.tcEvt p 6).bump (cntTc p 6)).raise (srcTc p) 0x1030 3 [h.tLockout p]
  else h

/-- ErrorRecovery, at the PD engine's request or FORCE_DETACH (R36, R40, R59): without effect in Disabled, ErrorRecovery, WET
and LOCKOUT. -/
def Hub.errorRecovery (h : Hub) (p : PodIx) : Hub :=
  let t := h.tc p
  if t.ccOpen then h
  else
    let h := if t.attached then h.leaveAttached p 6 1 else h
    h.modTc p fun t =>
      { t with state := .errorRecovery, checking := false, debounced := false, lost := false, cc1 := .open, cc2 := .open }

/-- LOCKOUT ends (R36). -/
def Hub.endLockout (h : Hub) (p : PodIx) : Hub :=
  if (h.tc p).state == .lockout then h.enterUnattached p else h

/-- T_PD_DEBOUNCE_EXPIRY (R35, R36, R39, R57): a termination stayed lost for tPDDebounce, or, in Try.SRC, Rd was stable for it. -/
def Hub.pdDebounce (h : Hub) (p : PodIx) (vbusMv : Nat) : Hub :=
  let t := h.tc p
  let h := if t.cc1 == .open && t.cc2 == .open then h.modTc p fun t => { t with accCounted := false } else h
  match t.state with
  | .attachWaitSrc => if t.lost then (h.enterUnattached p).chatterTransition p else h
  | .attachWaitSnk => if t.lost then (h.enterUnattached p).chatterTransition p else h
  | .trySrc =>
    if wanted true t.cc1 t.cc2 && !t.lost then
      (h.modTc p fun t => { t with debounced := true }).trySrcAttach p (vbusMv < 800)
    else h
  | .tryWaitSnk => if t.lost then h.enterUnattached p else h
  | .attachedSrc => if t.lost then h.typecDetach p 3 0 none else h
  | .bounceHold => if t.lost then h.typecDetach p 3 0 none else h
  | _ => h

/-- T_DRP_TRY_EXPIRY (R36): tDRPTry without Rd. -/
def Hub.drpTryEnd (h : Hub) (p : PodIx) : Hub :=
  if (h.tc p).state == .trySrc then
    h.modTc p fun t => { t with state := .tryWaitSnk, debounced := false, lost := false, rpLevel := 0, cc1 := .open, cc2 := .open }
  else h

/-- T_DRP_TRY_WAIT_EXPIRY (R36). -/
def Hub.drpTryWaitEnd (h : Hub) (p : PodIx) : Hub :=
  if (h.tc p).state == .tryWaitSnk then h.enterUnattached p else h

/-- The contract voltage by which partner VBUS is judged, in 10 mV units (R471): from Accept to PS_RDY of a change the lower of
the old and the new one. -/
def Pde.sinkVolts (e : Pde) : Nat :=
  let now := if e.explicit then e.contract.v else 500
  match e.pending with
  | some c => if e.state = .transition then min now c.v else now
  | none => now

/-- The disconnect threshold in mV (R471): vSinkDisconnect at 5 V, else 80 % of the contract voltage. -/
def Pde.sinkThreshold (e : Pde) : Nat := if e.sinkVolts ≤ 500 then 3670 else e.sinkVolts * 8

/-- SINK_VBUS_DISCONNECT (R36, R57, R471): partner VBUS, `mv` in mV, is below the disconnect threshold of the contract. During
Hard Reset recovery R89 governs. -/
def Hub.sinkDisconnect (h : Hub) (p : PodIx) (mv : Nat) : Hub :=
  if (h.tc p).state == .attachedSnk && !h.pdHardResetRecovery p && mv < (h.pde p).sinkThreshold then h.typecDetach p 0 0 none else h

/-- VBUS_PRESENT_TIMEOUT (R40). -/
def Hub.vbusPresentTimeout (h : Hub) (p : PodIx) : Hub :=
  let t := h.tc p
  if t.state == .attachWaitSrc && t.debounced && !t.vbusCounted then
    ((h.modTc p fun t => { t with vbusCounted := true }).tcEvt p 10).bump (cntTc p 9)
  else h

/-- T_ERROR_RECOVERY_EXPIRY (R36). -/
def Hub.errorRecoveryEnd (h : Hub) (p : PodIx) : Hub :=
  if (h.tc p).state == .errorRecovery then h.enterUnattached p else h

/-- A live check runs in an attached state with SBU_LIVE_EN 1 and the SBU switch not on CSB (R51). DESIGN CHOICE (log 73): it
runs whatever MOIST_EN is, of which R63 says no more than that the check is skipped and treated as dry. -/
def Hub.liveCheckable (h : Hub) (p : PodIx) : Bool := (h.tc p).attached && h.sbuLive p && !(h.tc p).sbuCsb

/-- An enabled SBU pin of the last live check is wet. -/
def Hub.sbuWet (h : Hub) (p : PodIx) : Bool :=
  ([2, 3] : List (Fin 4)).any fun i => h.pinEnabled p i && (h.tc p).pins[i].cls == .wet

/-- LIVE_SBU_CHECK (R51). -/
def Hub.liveCheck (h : Hub) (p : PodIx) (r2 r3 : Nat) : Hub :=
  if h.liveCheckable p then
    let h := h.measurePins p [(2, r2), (3, r3)]
    if h.sbuWet p then h.modTc p fun t => { t with liveWet := true } else h.liveCheckDry p
  else h

/-- LIVE_SBU_CONFIRM (R40, R51, R57): the second reading, 100 ms after a wet one. A wet one enters WET, and the exit actions
follow; `lockout` says that the PD engine requests LOCKOUT in the same evaluation, which a wet reading drops but counts. -/
def Hub.liveConfirm (h : Hub) (p : PodIx) (r2 r3 : Nat) (lockout : Bool) : Hub :=
  if h.liveCheckable p && (h.tc p).liveWet then
    let h := h.measurePins p [(2, r2), (3, r3)]
    if h.sbuWet p then
      let src := (h.tc p).srcAttached
      let h := if lockout then h.bump (cntTc p 6) else h
      (h.enterWet p).leaveAs p src 4 2
    else
      let h := ((h.modTc p fun t => { t with liveWet := false }).bump (cntTc p 2)).liveCheckDry p
      if lockout then h.enterLockout p else h
  else h

/-- REBASE (R49, R63): the four baselines are discarded. -/
def Hub.rebase (h : Hub) (p : PodIx) : Hub :=
  h.modTc p fun t => { t with pins := t.pins.map fun q => { q with base := 0, baseValid := false, baseCnt := 0 } }

/-- VCONN_OC_TRIP (R42). -/
def Hub.vconnTrip (h : Hub) (p : PodIx) : Hub :=
  if (h.tc p).vconnOn then
    let h := h.modTc p fun t => { t with vconnOn := false, vconnOc := true }
    (((h.tcEvt p 9).bump (cntTc p 8)).raise (srcTc p) 0x1033 3 [h.vconnIlim p]).pdVconnLost p
  else h

/-- HUSK_ATTACH_SENSE (R52): the Husk recognises an attach on a pod whose domain is RET or OFF (R345). -/
def Hub.huskSense (h : Hub) (p : PodIx) (c1 c2 : Term) : Hub :=
  let src := h.tcRole p == 1
  let hit := if src then c1 == .rd || c2 == .rd else xor (isRp c1) (isRp c2)
  if ((h.dom (podDom p)).state == .ret || (h.dom (podDom p)).state == .off) && h.stbySense p && hit then h.wakeSource p.val else h

/-! #### Bounce hold -/

/-- The connection of a port is one whose loss R53 speaks of: a SuperSpeed link in U0 to U3 or on the way between them, a USB 2.0
connection of a port that is not disabled (R437: not one disabled for POLICY). -/
def Link.losable (l : Link) : Bool :=
  l.disReason ≠ 3 && if l.speed.ss then l.ltssm.live else l.u2 != .disabled && l.u2 != .notConnected

/-- DATA_LINK_LOSS on a D pod (R53, R55, R437): a hold starts, or the loss is reported at once. In SS.Disabled the link detects
nothing. -/
def Hub.dataLinkLoss (h : Hub) (p : PodIx) : Hub :=
  let t := h.tc p
  let sp := (h.link p).speed
  if !isD p || sp == .none || t.hold.isSome || (sp.ss && (h.link p).ltssm == .ssDisabled) then h
  else if t.state == .attachedSrc && h.bhWin p ≠ 0 && t.bhAvail && !t.lost && h.vbOn (podPath p) && (h.link p).losable then
    (h.modTc p fun t =>
      { t with state := .bounceHold, hold := some { lossTb := h.tb, since := h.clk, speed := sp }, lastUsb2 := sp.usb2 }).linkHoldStart p
  else h.portDisconnect p

/-- BOUNCE_HOLD_RECOVER (R13, R54, R56): the link is back; at another speed of R13 the hold ends as an expiry and the link comes up anew. -/
def Hub.holdRecover (h : Hub) (p : PodIx) (speed : Speed) : Hub :=
  match (h.tc p).hold with
  | none => h
  | some hd =>
    if hd.speed = speed then (h.endHold p 0).linkHoldRecovered p speed
    else if !speedOk p speed then h
    else ((h.endHold p 7).linkUpAt p speed).modTc p fun t => { t with bhAvail := true }

/-- BOUNCE_HOLD_EXPIRY (R56). -/
def Hub.holdExpire (h : Hub) (p : PodIx) : Hub := h.endHold p 1

/-- The machine follows a commit of TC_EN, ROLE or TRY_SRC_EN (R36, R40, R59). DESIGN CHOICE (log 74): a hold that TC_EN 0 ends
writes ending event 6 of record 0x1021, since R56 and R67 list none for it. -/
def Hub.tcCommit (h : Hub) (p : PodIx) : Hub :=
  let t := h.tc p
  if !h.tcEn p then
    if t.state == .disabled then h
    else if t.attached then h.typecDetach p 6 4 (some .disabled)
    else h.modTc p fun t => { t with state := .disabled, checking := false, debounced := false, lost := false
                                     cc1 := .open, cc2 := .open }
  else if t.state == .disabled then h.enterUnattached p
  else if t.unattached && (t.role ≠ h.tcRole p || t.trySrc ≠ h.tcTrySrc p) then h.enterUnattached p
  else h

/-- A commit changed TC_EN, ROLE or TRY_SRC_EN: the machine and the reserve follow (R36, R40, R59, R154). -/
def Hub.tcCommitted (h : Hub) (p : PodIx) : Hub :=
  let h := h.tcCommit p
  if (h.tc p).srcAttached then h else h.budSetCharge (podPath p) (h.idleCharge p)

/-- PARTNER_VBUS_PRESENT (R36, R89, R97): after a Hard Reset the sink waits for Source_Capabilities again, a disabled engine is
DISABLED. -/
def Hub.partnerVbus (h : Hub) (p : PodIx) : Hub :=
  if (h.tc p).state == .attachedSnk then
    if h.pdHardResetRecovery p then
      let off := (h.pde p).disabling || !h.pdEn p
      h.modPde p fun e => { e with state := if off then .disabled else .snkSelect, disabling := false }
    else h
  else h.trySnkAttach p true

/-! #### The commands -/

/-- TC_TERMINATION_SEEN (R35, R36, R39). -/
def execTcTerminationSeen (p : PodIx) (cc1 cc2 : Term) (s : State) : Host.Outcome State Fault Refusal :=
  onPod s p fun h => h.ccChange p cc1 cc2

/-- CC_TERMINATION_LOST (R36). -/
def execCcTerminationLost (p : PodIx) (cc1 cc2 : Term) (s : State) : Host.Outcome State Fault Refusal :=
  onPod s p fun h => h.ccChange p cc1 cc2

/-- CHATTER_QUIET_EXPIRY (R39): the debounce is the normal one again. -/
def execChatterQuietExpiry (p : PodIx) (s : State) : Host.Outcome State Fault Refusal :=
  onPod s p fun h => h.modTc p fun t => { t with chatterExt := false }

/-- DRP_TOGGLE (R36). -/
def execDrpToggle (p : PodIx) (s : State) : Host.Outcome State Fault Refusal :=
  onPod s p fun h => h.drpToggle p

/-- T_CC_DEBOUNCE_EXPIRY (R36, R45). -/
def execTCcDebounceExpiry (p : PodIx) (vbusMv : Nat) (s : State) : Host.Outcome State Fault Refusal :=
  onPod s p fun h => h.ccDebounce p vbusMv

/-- MOISTURE_CHECK_DONE (R45-R50). -/
def execMoistureCheckDone (p : PodIx) (r0 r1 r2 r3 vbusMv : Nat) (s : State) : Host.Outcome State Fault Refusal :=
  onPod s p fun h => h.moistureDone p r0 r1 r2 r3 vbusMv

/-- T_PD_DEBOUNCE_EXPIRY (R36, R57). -/
def execTPdDebounceExpiry (p : PodIx) (vbusMv : Nat) (s : State) : Host.Outcome State Fault Refusal :=
  onPod s p fun h => h.pdDebounce p vbusMv

/-- T_DRP_TRY_EXPIRY (R36). -/
def execTDrpTryExpiry (p : PodIx) (s : State) : Host.Outcome State Fault Refusal :=
  onPod s p fun h => h.drpTryEnd p

/-- T_DRP_TRY_WAIT_EXPIRY (R36). -/
def execTDrpTryWaitExpiry (p : PodIx) (s : State) : Host.Outcome State Fault Refusal :=
  onPod s p fun h => h.drpTryWaitEnd p

/-- PARTNER_VBUS_PRESENT (R36, R89, R471): a debounced sink attaches; a sink's Hard Reset recovery ends. -/
def execPartnerVbusPresent (p : PodIx) (s : State) : Host.Outcome State Fault Refusal :=
  onPod s p fun h => h.partnerVbus p

/-- SINK_VBUS_DISCONNECT (R36, R471). -/
def execSinkVbusDisconnect (v : VbusDrop) (s : State) : Host.Outcome State Fault Refusal :=
  onPod s v.pod fun h => h.sinkDisconnect v.pod v.mv

/-- VBUS_PRESENT_TIMEOUT (R40). -/
def execVbusPresentTimeout (p : PodIx) (s : State) : Host.Outcome State Fault Refusal :=
  onPod s p fun h => h.vbusPresentTimeout p

/-- T_ERROR_RECOVERY_EXPIRY (R36). -/
def execTErrorRecoveryExpiry (p : PodIx) (s : State) : Host.Outcome State Fault Refusal :=
  onPod s p fun h => h.errorRecoveryEnd p

/-- WET_RECHECK (R50). -/
def execWetRecheck (p : PodIx) (s : State) : Host.Outcome State Fault Refusal :=
  onPod s p fun h => h.wetRecheck p

/-- LIVE_SBU_CHECK (R51). -/
def execLiveSbuCheck (p : PodIx) (r2 r3 : Nat) (s : State) : Host.Outcome State Fault Refusal :=
  onPod s p fun h => h.liveCheck p r2 r3

/-- LIVE_SBU_CONFIRM (R40, R51). -/
def execLiveSbuConfirm (p : PodIx) (r : SbuRead) (lockout : Bool) (s : State) : Host.Outcome State Fault Refusal :=
  onPod s p fun h => h.liveConfirm p r.sbu1 r.sbu2 lockout

/-- LOCKOUT_EXPIRY (R36, R38). -/
def execLockoutExpiry (p : PodIx) (s : State) : Host.Outcome State Fault Refusal :=
  onPod s p fun h => h.endLockout p

/-- VCONN_OC_TRIP (R42). -/
def execVconnOcTrip (p : PodIx) (s : State) : Host.Outcome State Fault Refusal :=
  onPod s p fun h => h.vconnTrip p

/-- HUSK_ATTACH_SENSE (R52). -/
def execHuskAttachSense (p : PodIx) (cc1 cc2 : Term) (s : State) : Host.Outcome State Fault Refusal :=
  perform s fun h => h.huskSense p cc1 cc2

/-- DATA_LINK_LOSS (R53, R55). -/
def execDataLinkLoss (p : PodIx) (s : State) : Host.Outcome State Fault Refusal :=
  onPod s p fun h => h.dataLinkLoss p

/-- BOUNCE_HOLD_RECOVER (R56). -/
def execBounceHoldRecover (p : PodIx) (speed : Speed) (s : State) : Host.Outcome State Fault Refusal :=
  onPod s p fun h => h.holdRecover p speed

/-- BOUNCE_HOLD_EXPIRY (R56). -/
def execBounceHoldExpiry (p : PodIx) (s : State) : Host.Outcome State Fault Refusal :=
  onPod s p fun h => h.holdExpire p

/-- VBUS below 0.8 V lets a source pod attach (R36). -/
def Hub.below0v8 (h : Hub) (x : PathIx) : Hub :=
  let h := h.vbBelow0v8 x
  match pathPod x with
  | some p => h.trySrcAttach p true
  | none => h

/-- VBUS_BELOW_0V8 (R36, R117, R133): the discharge ends, CHECK_0V is passed, a debounced source pod attaches. The discharge of a
reset ends as well (R463). -/
def execVbusBelow0v8 (x : PathIx) (s : State) : Host.Outcome State Fault Refusal :=
  if s.hub.held = .none then onPath s x fun h => h.below0v8 x
  else performAlways s fun h => h.modVb x fun e => { e with low := true, dsch := false }

end Sys2Proof.Machine
end

