-- ==== Sys2Proof/Machine/FwlBase.lean ====
section
/-! DEFINITION. The port firewall and the authentication initiator as shared operations (R209, R210, R279-R287, R301). -/

namespace Sys2Proof.Machine

/-! #### Elements and rules (R279) -/

/-- Word w of rule k in force (R304). -/
def Hub.ruleWord (h : Hub) (k w : Nat) : Nat := (h.cfg (0x60400 + 16 * k + 4 * w)).toNat

/-- A rule matches an element on a pod's port (R279). -/
def Hub.ruleMatches (h : Hub) (p : PodIx) (e : Elem) (k : Nat) : Bool :=
  let id := h.ruleWord k 0
  let mask := h.ruleWord k 1
  let c := h.ruleWord k 2
  c.testBit 29 && (h.ruleWord k 3).testBit (p.val - 2) && (c / 2 ^ 27 % 2 == e.level)
    && (Nat.xor e.vid (id % 65536)).land (mask % 65536) == 0 && (Nat.xor e.pid (id / 65536)).land (mask / 65536) == 0
    && (!c.testBit 24 || c % 256 == e.cls) && (!c.testBit 25 || c / 256 % 256 == e.sub)
    && (!c.testBit 26 || c / 65536 % 256 == e.proto)

/-- The verdict on an element (R279, R280): none admits; otherwise the cause, 1 RULE or 2 DEFAULT, and the rule. -/
def Hub.verdict (h : Hub) (p : PodIx) (e : Elem) : Option (Nat × Nat) :=
  match (List.range 32).find? fun k => h.ruleMatches p e k with
  | some k => if (h.ruleWord k 2).testBit 28 then none else some (1, k)
  | none => if h.defAct p then none else some (2, 0)

/-- The device element. -/
def devElem (d : DevDesc) : Elem := { level := 0, vid := d.vid, pid := d.pid, cls := d.cls, sub := d.sub, proto := d.proto }

/-- An interface element. -/
def ifElem (d : DevDesc) (i : IfDesc) : Elem :=
  { level := 1, vid := d.vid, pid := d.pid, cls := i.cls, sub := i.sub, proto := i.proto }

/-- The snoop of a device is complete: neither SNOOP_MISS nor SNOOP_TRUNC is set for it (R193, R280). -/
def Dev.whole (d : Dev) : Bool := !d.missed && !d.cfgs.any CfgSet.truncated

/-- SNOOP_TRUNC of a pod: a set held is truncated (R200). -/
def Hub.snoopTrunc (h : Hub) (p : PodIx) : Bool := h.sched.devs.any fun d => d.pod == p && d.cfgs.any CfgSet.truncated

/-- What the snoop has reported of a device, in order: an interface element needs the IDs of the device descriptor (R279). -/
def Dev.elems (d : Dev) : List Elem :=
  match d.desc with
  | none => []
  | some x => devElem x :: (d.cfgs.flatMap CfgSet.ifs).map (ifElem x)

/-- The first element of a list that is denied, with its cause and rule. -/
def Hub.firstDenied (h : Hub) (p : PodIx) : List Elem → Option (Elem × Nat × Nat)
  | [] => none
  | e :: es =>
    match h.verdict p e with
    | some (c, k) => some (e, c, k)
    | none => h.firstDenied p es

/-! #### Denial (R281, R303, R305) -/

/-- An element with nothing in it, for denials that no element causes. -/
def noElem : Elem := { level := 0, vid := 0, pid := 0, cls := 0, sub := 0, proto := 0 }

/-- A device changed in place. -/
def Hub.modDev (h : Hub) (p : PodIx) (addr : Nat) (f : Dev → Dev) : Hub :=
  h.modSched fun s => { s with devs := s.devs.map fun d => if d.pod == p && d.addr == addr then f d else d }

/-- A denial stops a port, or an address behind a further hub (R281). -/
def Hub.denyEffect (h : Hub) (p : PodIx) (addr : Nat) : Hub :=
  let byAddr := match h.dev p addr with
    | some d => !d.direct && !d.hs && h.deepAction p
    | none => false
  if byAddr then
    ((h.modFwl p fun f => { f with blocked := (f.blocked.filter fun a => a ≠ addr) ++ [addr] }).fwlEvt p 3).mapInval addr
  else (h.modFwl p fun f => { f with policy := true }).portDisable p 3

/-- DEVICE_DENY (R281): causes as R280. -/
def Hub.fwlDeny (h : Hub) (p : PodIx) (addr cause rule : Nat) (e : Elem) : Hub :=
  let h := h.modFwl p fun f => { f with verdict := 3, denyCause := cause, denyRule := rule }
  let h := ((h.fwlEvt p 0).bump (cntFwl p 0)).raise (srcFwl p) 0x6001 3
    ([addr, cause, rule, 0] ++ le16 e.vid ++ le16 e.pid ++ [e.cls, e.sub, e.proto])
  (h.modDev p addr fun d => { d with admitted := false }).denyEffect p addr

/-! #### Learning (R209, R210) -/

/-- A learned entry's word (R207, R209). -/
def learnWord (queue cls : Nat) (secure pace : Bool) (pol : Option Nat) : Word :=
  BitVec.ofNat 32
    (queue + (if pace then 64 else 0) + (if secure then 128 else 0)
      + (match pol with | some m => m % 128 * 256 + 32768 | none => 0) + cls * 65536 + 2 ^ 31)

/-- A learned entry is written into the active bank, and into the standby bank unless a master wrote there (R210). -/
def Hub.learnWrite (h : Hub) (i : Nat) (w : Word) : Hub :=
  let act := h.sched.mapActB
  let h := h.setMapWord act i w
  if !h.learnStby then h
  else if (h.mapWord (!act) i).getLsbD 18 then (h.mapEvt 2).bump (cntMap 2)
  else h.setMapWord (!act) i w

/-- The word of an endpoint on a pod's port (R209); on a secure port an interrupt IN endpoint goes to UQ_2, after a FAILED
or TIMEOUT only once it has passed (R287). -/
def Hub.learnEndpoint (h : Hub) (p : PodIx) (e : EpDesc) : Word :=
  let n := p.val - 1
  let pol := if h.autoPolEn p then some (h.autoPol p) else none
  if e.num = 0 then learnWord 3 0 false false none
  else if e.ttype = 1 then learnWord 1 1 false false pol
  else if e.ttype = 3 then
    if h.securePort p && !(e.dirIn && ((h.fwl p).auth == .failed || (h.fwl p).auth == .timeout)) then learnWord 2 3 true false pol
    else learnWord (4 + 4 * (n - 1)) 3 false (h.autoPace p && e.dirIn) pol
  else learnWord (4 + 4 * (n - 1) + h.bulkClass p) 2 false (h.autoPace p && e.dirIn) pol

/-- The endpoints active under the present configuration and alternate settings (R192). -/
def Dev.active (d : Dev) : List EpDesc :=
  match d.cfgs.find? fun c => c.value == d.cfg with
  | none => []
  | some c => (c.ifs.filter fun i => i.alt == ((d.alts.find? fun a => a.1 == i.num).map Prod.snd).getD 0).flatMap IfDesc.eps

/-- MAP_LEARN (R209): EP0 in both directions, and every active endpoint; a high-speed device is not learned (R193). -/
def Hub.mapLearn (h : Hub) (p : PodIx) (d : Dev) : Hub :=
  if h.learnEn && !d.hs && d.addr ≠ 0 then
    let ep0 : List EpDesc := [{ num := 0, dirIn := true, ttype := 0, maxPkt := 0 }, { num := 0, dirIn := false, ttype := 0, maxPkt := 0 }]
    (ep0 ++ d.active).foldl (fun h e => h.learnWrite (mapIndex d.addr e.num e.dirIn) (h.learnEndpoint p e)) h
  else h

/-! #### Admission (R279, R280, R287) -/

/-- Authentication does not stand in the way of an admission (R279, R287). -/
def Hub.authClear (h : Hub) (p : PodIx) : Bool :=
  !h.securePort p ||
    match (h.fwl p).auth with
    | .running => false
    | .failed | .timeout => !h.authRequired p
    | _ => true

/-- A device whose configuration is set and whose elements pass is admitted (R279); none while SEC or the pod's block is in its
safe response (R313). -/
def Hub.fwlAdmit (h : Hub) (p : PodIx) (addr : Nat) : Hub :=
  match h.dev p addr with
  | none => h
  | some d =>
    if d.cfg ≠ 0 && h.authClear p && !(h.fwl p).blocked.contains addr && !h.inSafe 31 && !h.inSafe (6 + p.val) then
      ((h.modDev p addr fun d => { d with admitted := true }).modFwl p fun f => { f with verdict := 2 }).mapLearn p d
    else if d.admitted then h else h.modFwl p fun f => { f with verdict := 1 }

/-- FIREWALL_VERDICT (R279, R280): the elements reported and not yet evaluated are judged; an evaluated one stands until it is
judged again under R283; with FWL_EN 0 all are admitted. `complete` says that the snoop of the device is complete. A port disabled for POLICY and a blocked
address have their verdict (R281). -/
def Hub.fwlJudge (h : Hub) (p : PodIx) (addr : Nat) (complete : Bool) : Hub :=
  match h.dev p addr with
  | none => h
  | some d =>
    if (h.fwl p).policy || (h.fwl p).blocked.contains addr then h
    else if !h.fwlEn then (h.modDev p addr fun d => { d with passed := d.elems }).fwlAdmit p addr
    else if h.securePort p && !d.direct then h.fwlDeny p addr 3 0 noElem
    else if h.securePort p && !complete then h.fwlDeny p addr 5 0 noElem
    else
      match h.firstDenied p (d.elems.filter fun e => !d.passed.contains e) with
      | some (e, c, k) => h.fwlDeny p addr c (if c = 1 then k else 0) e
      | none => (h.modDev p addr fun d => { d with passed := d.elems }).fwlAdmit p addr

/-- An admitted device is judged again, and one that now fails is denied with cause 6 (R280, R283). -/
def Hub.fwlAgain (h : Hub) (p : PodIx) (addr : Nat) (d : Dev) : Hub :=
  if !h.fwlEn || (h.fwl p).policy then h
  else if h.securePort p && (!d.direct || !d.whole) then h.fwlDeny p addr 6 0 noElem
  else
    match h.firstDenied p d.elems with
    | some (e, c, k) => h.fwlDeny p addr 6 (if c = 1 then k else 0) e
    | none => h.modDev p addr fun d => { d with passed := d.elems }

/-- REEVAL (R283, R301): every admitted device of the D pods is judged again; of a device in mid-enumeration the evaluated
elements are. -/
def Hub.fwlReeval (h : Hub) : Hub :=
  h.sched.devs.foldl
    (fun h d =>
      match h.dev d.pod d.addr with
      | none => h
      | some _ =>
        if d.admitted then h.fwlAgain d.pod d.addr d
        else (h.modDev d.pod d.addr fun d => { d with passed := [] }).fwlJudge d.pod d.addr d.whole) h

/-! #### The authentication initiator (R284, R286, R287) -/

/-- A response of the partner is awaited (R284). -/
def Hub.authAwaits (h : Hub) (p : PodIx) : Bool :=
  let f := h.fwl p
  f.auth == .running && !f.restart && !(h.pde p).pendAuth
    && (f.step == .digests || f.step == .certificate || f.step == .challenge)

/-- AUTH_STATE code (R303). -/
def AuthState.code : AuthState → Nat
  | .none => 0 | .running => 1 | .passed => 2 | .failed => 3 | .timeout => 4

/-- A USB Type-C Authentication message (its layout): version, type, two parameters, content. -/
def authMsg (ty p1 p2 : Nat) (rest : List (BitVec 8)) : List (BitVec 8) :=
  putLe 1 1 ++ putLe 1 ty ++ putLe 1 p1 ++ putLe 1 p2 ++ rest

/-- A request of the initiator on SOP. -/
def Hub.authSend (h : Hub) (p : PodIx) (ty p1 : Nat) (rest : List (BitVec 8)) : Hub :=
  h.pdSendExt p .securityRequest (authMsg ty p1 0 rest)

/-- The exchange ends with a result (R286, R287, R305). The devices that waited for it are judged (R279), and the endpoints of an
admitted one are learned again after a pass, an interrupt IN endpoint now into UQ_2 (R209, R287). A required authentication that
fails denies the device, and the port reports none. -/
def Hub.authEnd (h : Hub) (p : PodIx) (st : AuthState) (err root : Nat) : Hub :=
  let dur := msSince h.clk (h.fwl p).since
  let h := h.modFwl p fun f =>
    { f with auth := st, authErr := err, step := .idle, restart := false, keep := false, rootUsed := if st = .passed then root else f.rootUsed }
  let h := if st = .passed then (h.fwlEvt p 1).bump (cntFwl p 1) else (h.fwlEvt p 2).bump (cntFwl p 2)
  let h := h.raise (srcFwl p) 0x6002 2 ([st.code, err, (h.fwl p).rootUsed, 0] ++ le16 dur)
  if st ≠ .passed && h.authRequired p then (h.portHide p).fwlDeny p (h.link p).devAddr 4 0 noElem
  else
    let h := h.portReveal p
    (h.sched.devs.filter fun d => d.pod = p && d.cfg ≠ 0).foldl
      (fun h d => if !d.admitted then h.fwlJudge p d.addr d.whole else if st = .passed then h.mapLearn p d else h) h

/-- AUTH_START (R284, R286): the exchange starts, with collision avoidance; a partner at Revision 2.0 fails it at once. The port
reports no connection while it runs (R287), unless SECURE_PORT was set with a device already admitted (R301). -/
def Hub.authStart (h : Hub) (p : PodIx) : Hub :=
  let h := if (h.fwl p).keep then h else h.portHide p
  let h := h.modFwl p fun f => { f with auth := .running, authErr := 0, step := .digests, since := h.clk, got := 0, total := 0
                                        restart := false, verdict := if f.verdict = 0 then 1 else f.verdict }
  if (h.pde p).r3 then (h.modPde p fun e => { e with pendAuth := true }).pdTxPlan p else h.authEnd p .failed 1 0

/-- At PDE.READY (R284, R286): the first after an attach, or the one after a Hard Reset that cut an exchange. -/
def Hub.authReady (h : Hub) (p : PodIx) : Hub :=
  if isD p && h.securePort p && !h.inSafe 31 && ((h.fwl p).auth == .none || (h.fwl p).restart) then h.authStart p else h

/-- A Hard Reset during the exchange (R286): it restarts at the next PDE.READY. -/
def Hub.authHardReset (h : Hub) (p : PodIx) : Hub :=
  if (h.fwl p).auth == .running then
    ((h.modFwl p fun f => { f with restart := true, step := .idle }).authFree p)
  else h

end Sys2Proof.Machine
end

