-- ==== Sys2Proof/Machine/PdReset.lean ====
section
/-! DEFINITION. Resets, violations, contracts and swaps of the PD engine as shared operations (R75, R78, R79, R81, R82, R84-R89,
R93-R95, R97, R442). -/

namespace Sys2Proof.Machine

/-! #### Hard Reset (R79, R88, R89, R95) -/

/-- The orientation pin that shows Ra: VCONN is applied there (R42). -/
def Tc.raSeen (t : Tc) : Bool := if t.orient then t.cc1 == .ra else t.cc2 == .ra

/-- Error recovery or LOCKOUT at the limit of the Hard Reset run (R95); the LOCKOUT test is made first. -/
def Hub.pdRunLimit (h : Hub) (p : PodIx) : Hub :=
  let n := (h.pde p).hrRun
  if h.hrLock p ≤ n then
    ((h.modPde p fun e => { e with hrRun := 0 }).pdEvt p 18).raise (srcPd p) 0x2013 4 [n] |>.enterLockout p
  else if h.hrErr p ≤ n then
    (((h.pdEvt p 17).bump (cntPd p 7)).raise (srcPd p) 0x2012 3 [n]).errorRecovery p
  else h

/-- What every Hard Reset does (R88, R89, R137): AMS and modes end, VCONN opens, the contract ends with `endCause`, the Soft_Reset
run clears, a source pod is DFP again, a sink switch is withdrawn. -/
def Hub.pdResetAll (h : Hub) (p : PodIx) (sent : Bool) (endCause : Nat) : Hub :=
  let h := h.pdSwapAbort p (if sent then 0 else 1)
  let h := (h.modTc p fun t => { t with vconnOn := false }).pdCasLeave p 2
  let h := (h.pdEprEnd p).pdContractEnd p endCause
  let h := (h.upHardReset p).authHardReset p
  let h := if (h.pde p).roleSrc then h else h.vbRequestOff (podPath p)
  h.modPde p fun e =>
    { e with state := if e.roleSrc then .hardReset else .hardResetRecover, dfp := e.roleSrc, srRun := 0, capsCount := 0
             swap := .idle, swapOwn := false, await := .nothing, waits := 0, probe := .idle, vdo := none, busy := 0
             drWaits := 0, vcWaiting := false, drWaiting := false, casDue := false, probeDue := false
             reprobe := false, csbLossAt := none, enterAcked := false, vconnRetry := false, vcRetried := false, cmdVconn := false
             pendAlert := false, pendCaps := false, pendVconn := false, pendCable := false, pendAuth := false
             cable := if !e.discDone then .idle else if e.cable = .asked ∨ e.cable = .busy then .silent else e.cable
             reoffer := false, resend := false, sinkTxNg := false, madeExplicit := false, readySeen := false
             eprAsked := false, msgId := 0, cableId := 0, recovered := false }

/-- The record of a Hard Reset (R108, R111, R112). -/
def Hub.pdResetNote (h : Hub) (p : PodIx) (sent : Bool) (cause : Nat) : Hub :=
  ((h.pdEvt p 3).bump (cntPd p (if sent then 4 else 5))).raise (srcPd p) 0x2011 3 [if sent then 0 else 1, cause, (h.pde p).hrRun]

/-- Hard Reset signalling sent (R89): `cause` as record 0x2011 has it; `run` says that it counts in HR_RUN (R95). -/
def Hub.pdHardReset (h : Hub) (p : PodIx) (cause endCause : Nat) (run : Bool) : Hub :=
  let h := (h.emit (.hardReset p.val)).captureReset p 0x23
  let h := h.pdResetAll p true endCause
  let h := if run then h.modPde p fun e => { e with hrRun := min 15 (e.hrRun + 1) } else h
  let h := h.pdResetNote p true cause
  if run then h.pdRunLimit p else h

/-- Hard Reset signalling received (R89, R95). -/
def Hub.pdResetReceived (h : Hub) (p : PodIx) : Hub :=
  if !(h.tc p).attached then h
  else if (h.pde p).state = .disabled then h.captureReset p 0x22
  else
    let h := (h.captureReset p 0x22).pdResetAll p false 2
    let h := h.modPde p fun e => { e with hrRun := min 15 (e.hrRun + 1) }
    (h.pdResetNote p false (h.pde p).lastViol).pdRunLimit p

/-- tPSHardReset has elapsed (R89): the sequencer switches VBUS off. -/
def Hub.pdPsReset (h : Hub) (p : PodIx) : Hub :=
  if (h.pde p).state = .hardReset then
    (h.modPde p fun e => { e with state := .hardResetRecover }).vbRequestOff (podPath p)
  else h

/-- The engine acts as after attach (R79, R89, R97): VCONN under R42, VBUS from CHECK_0V. -/
def Hub.pdRestart (h : Hub) (p : PodIx) : Hub :=
  let on := h.pdEn p && !(h.pde p).disabling
  let h := h.modPde p fun e =>
    { e with state := if on then .waitVbus else .disabled, shedReset := false, recovered := false, disabling := false }
  (h.modTc p fun t => { t with vconnOn := t.raSeen && !t.vconnOc }).vbRequestOn (podPath p)

/-- tSrcRecover has elapsed (R79, R89): a shed pod waits for the end of its shed. -/
def Hub.pdSrcRecover (h : Hub) (p : PodIx) : Hub :=
  if (h.pde p).roleSrc && (h.tc p).srcAttached && ((h.pde p).state = .hardResetRecover || (h.pde p).shedReset) then
    if h.consShed (podPath p) then h.modPde p fun e => { e with recovered := true } else h.pdRestart p
  else h

/-- SHED_HARD_RESET (R79): VBUS goes off as the signalling ends; it counts in no run. A disabled engine signals nothing. -/
def Hub.pdShed (h : Hub) (p : PodIx) : Hub :=
  if (h.tc p).srcAttached then
    let h := if (h.pde p).state = .disabled then h else h.pdHardReset p 0x11 4 false
    (h.modPde p fun e =>
      { e with shedReset := true, recovered := false, state := if e.state = .disabled then .disabled else .hardResetRecover }).vbRequestOff
      (podPath p)
  else h

/-- The budget unit ends a shed (R79): at the later of this and tSrcRecover VBUS comes on again. -/
def Hub.pdShedEnd (h : Hub) (p : PodIx) : Hub :=
  if (h.pde p).shedReset && (h.pde p).recovered && !h.consShed (podPath p) then h.pdRestart p else h

/-! #### Soft_Reset and violations (R90, R94, R95) -/

/-- Soft_Reset sent. -/
def Hub.pdSoftReset (h : Hub) (p : PodIx) : Hub :=
  let h := (h.modPde p fun e => { e with msgId := 0 }).pdCtl p .softReset
  let h := h.modPde p fun e =>
    { e with state := .softReset, await := .softReset, pending := none, converterAsked := false, swap := .idle, swapOwn := false
             cableId := 0, cmdVconn := e.cmdVconn && !e.vcTaken }
  ((h.pdEvt p 2).bump (cntPd p 3)).raise (srcPd p) 0x2010 2 [0, (h.pde p).lastViol, (h.pde p).srRun]

/-- A violation is counted and journaled (R94). -/
def Hub.pdViolNote (h : Hub) (p : PodIx) (code header : Nat) : Hub :=
  (((h.modPde p fun e => { e with lastViol := code }).pdEvt p 4).bump (cntPd p 6)).raise (srcPd p) 0x2070 2 (code :: le16 header)

/-- A violation in the run (R95): answered with Soft_Reset, at SR_TO_HR with Hard Reset. -/
def Hub.pdViolSoft (h : Hub) (p : PodIx) (code header : Nat) : Hub :=
  let h := (h.pdViolNote p code header).modPde p fun e => { e with srRun := min 15 (e.srRun + 1) }
  if h.srToHr p ≤ (h.pde p).srRun then h.pdHardReset p code 2 true else h.pdSoftReset p

/-- A violation answered with Hard Reset (R94); `header` is that of the offending message, 0 where a message is missing. -/
def Hub.pdViolHard (h : Hub) (p : PodIx) (code header : Nat) : Hub := (h.pdViolNote p code header).pdHardReset p code 2 true

/-- A message that is valid but unexpected (R90). -/
def Hub.pdUnexpected (h : Hub) (p : PodIx) (f : PdFrame) : Hub := h.pdViolSoft p 2 f.header.toNat

/-- Not_Supported; Reject under Revision 2.0 rules (R70, R90). -/
def Hub.pdNotSup (h : Hub) (p : PodIx) : Hub := h.pdCtl p (if (h.pde p).r3 then .notSupported else .reject)

/-! #### PDE.READY and what starts there (R19, R86, R93, R284) -/

/-- VCONN_PREF asks for another VCONN state (R86), which no trip rules out (R42). -/
def Hub.vconnWanted (h : Hub) (p : PodIx) : Bool :=
  (h.vconnPref p == 1 && !(h.tc p).vconnOn && !(h.tc p).vconnOc) || (h.vconnPref p == 2 && (h.tc p).vconnOn)

/-- DR_SWAP_SEND (R19, R91): an upstream source pod with its contract, not refused on this attach, and not waiting after a
Wait. -/
def Hub.drSwapSend (h : Hub) (p : PodIx) : Hub :=
  match podUp p with
  | none => h
  | some u =>
    if (h.pde p).roleSrc && (h.pde p).dfp && (h.pde p).explicit && !h.upsel.refused[u] && !(h.pde p).drWaiting
        && (h.pde p).state = .ready then
      (h.modPde p fun e => { e with state := .drSwap, await := .drSwap }).pdCtl p .drSwap
    else h

/-- A VCONN_Swap of the pod still has its reason: VCONN_PREF, or the command bit (R86, R109). -/
def Hub.vconnDue (h : Hub) (p : PodIx) : Bool := h.vconnWanted p || (h.pde p).cmdVconn

/-- Whether the pod's own VCONN_Swap is due (R86): once per explicit contract, as VCONN_PREF now asks. -/
def Hub.vconnPlan (h : Hub) (p : PodIx) : Hub :=
  let due := h.vconnDue p
  let new := h.vconnWanted p && (h.pde p).explicit && !(h.pde p).vconnAsked
  h.modPde p fun e => { e with pendVconn := due && (e.pendVconn || new) }

/-- The command of the probe's present step, sent (again) in PDE.READY or the probe's own AMS, else at the next PDE.READY
(R93). -/
def Hub.probeSend (h : Hub) (p : PodIx) : Hub :=
  if (h.pde p).state = .ready || (h.pde p).state = .vdmDisc then
    let h := h.modPde p fun e => { e with state := .vdmDisc, probeDue := false }
    match (h.pde p).probe with
    | .identity => h.vdmSend p 0xFF00 0 0 1 []
    | .svids => h.vdmSend p 0xFF00 0 0 2 []
    | .modes => h.vdmSend p octalmyaVid 0 0 3 []
    | .enter => h.vdmSend p octalmyaVid 1 0 4 []
    | _ => h
  else h.modPde p fun e => { e with probeDue := true }

/-- Entry to PDE.READY (R19, R77, R86, R93, R284): what waits for it starts, after an attach or Hard Reset authentication and the
probe. -/
def Hub.pdReady (h : Hub) (p : PodIx) : Hub :=
  let first := !(h.pde p).readySeen
  let h := h.modPde p fun e => { e with state := .ready, await := .nothing, readySeen := true }
  let h := if first || (h.fwl p).restart then h.authReady p else h
  let h := (h.vconnPlan p).pdTxPlan p
  let h :=
    if h.authOpen p then h.modPde p fun e => { e with casDue := e.casDue || first }
    else if first || (h.pde p).casDue then (h.modPde p fun e => { e with casDue := false }).probeStart p
    else if (h.pde p).probeDue then h.probeSend p
    else h
  h.drSwapSend p

/-- The end of an AMS: back to PDE.READY, or to waiting for capabilities. -/
def Hub.pdBack (h : Hub) (p : PodIx) : Hub :=
  if (h.pde p).explicit || (h.pde p).roleSrc then h.pdReady p
  else h.modPde p fun e => { e with state := .snkSelect, await := .nothing }

/-! #### Contracts (R74, R75, R83) -/

/-- The record and event of a contract made or changed (R108, R111). -/
def Hub.pdContractNote (h : Hub) (p : PodIx) : Hub :=
  let c := (h.pde p).contract
  (h.pdEvt p 0).raise (srcPd p) 0x2001 1 (le16 (c.v / 2) ++ le16 c.i ++ [c.pos, c.ctype] ++ le16 c.charge)

/-- PD_PS_RDY_SEND (R75, R82): the contract is in force; I_C and the charge are those of it; Rp is SinkTxOK, where nothing is due.
Leaving EPR mode goes on. -/
def Hub.pdPsRdy (h : Hub) (p : PodIx) : Hub :=
  match (h.pde p).pending with
  | none => h
  | some c =>
    let h := (h.pdCtl p .psRdy).modPde p fun e =>
      { e with contract := c, pending := none, converterAsked := false, madeExplicit := true
               pendCaps := e.pendCaps || (e.eprMode && e.eprLeaving && decide (c.ctype ≠ 3)) }
    let h := ((h.budSetCharge (podPath p) c.charge).vbSetIc (podPath p) c.i (c.ctype = 2)).pdContractNote p
    h.pdReady p

/-- What a contract asks of the source converter (R75): a PPS contract, its current limit as well. -/
def Contract.converter (c : Contract) : RlKind := if c.ctype = 2 then .pps c.v c.i else .voltage c.v

/-- tSrcTransition has elapsed (R75): the new voltage is requested; where the voltage does not change, PS_RDY is sent, and the
converter's current limit alone follows the contract. -/
def Hub.pdSrcTransition (h : Hub) (p : PodIx) : Hub :=
  match (h.pde p).pending with
  | none => h
  | some c =>
    if (h.pde p).state ≠ .transition || (h.pde p).converterAsked || !(h.pde p).roleSrc then h
    else
      let x := podPath p
      let old := (h.pde p).contract
      if c.v ≠ (h.vb x).vTgt then
        let h := (h.modPde p fun e => { e with converterAsked := true }).vbSetTarget x c.v
        h.rlRequest (pathOwner x) c.converter
      else if (c.ctype = 2 && (old.ctype ≠ 2 || old.i ≠ c.i)) || (c.ctype ≠ 2 && old.ctype = 2) then
        (h.rlRequest (pathOwner x) c.converter).pdPsRdy p
      else h.pdPsRdy p

/-- The regulator link confirms what a pod asked of its converter (R75): PS_RDY follows where it is what the contract waits for. -/
def Hub.pdConverterDone (h : Hub) (p : PodIx) (k : RlKind) : Hub :=
  if (h.pde p).state = .transition && (h.pde p).converterAsked && (h.pde p).pending.any fun c => k == c.converter then h.pdPsRdy p
  else h

/-- What a Request asks for (R74): the contract, or none where it is invalid; the charge it would carry. DESIGN CHOICE (log 113): 0
where its position names no offered object. -/
def requestOf (offers : List PdObject) (r : PdRdo) : Option Contract × Nat :=
  match offers.getD (r.pos - 1) .none with
  | .none => (none, 0)
  | .fixed v i =>
    let ic := min r.maxI i
    let c := max 18 ((v * ic + 2499) / 2500)
    if r.pos = 0 then (none, 0)
    else if i < r.opI && !r.mismatch then (none, c)
    else (some { v := v, i := ic, pos := r.pos, ctype := if r.pos = 8 then 3 else 1, mismatch := r.mismatch, charge := c }, c)
  | .pps vmax i =>
    let ic := min r.opI i
    let c := max 18 ((r.ppsV * ic + 2499) / 2500)
    if r.pos = 0 then (none, 0)
    else if (i < r.opI && !r.mismatch) || r.ppsV < 330 || vmax < r.ppsV then (none, c)
    else (some { v := r.ppsV, i := ic, pos := r.pos, ctype := 2, mismatch := r.mismatch, charge := c, vmax := vmax }, c)

/-- Accept of a Request (R74, R75): the charge and I_C rise at once where the contract raises them. -/
def Hub.pdAccept (h : Hub) (p : PodIx) (c : Contract) (eprCap : Bool) : Hub :=
  let x := podPath p
  let h := h.budSetCharge x (max (h.cons x).charge c.charge)
  let h := h.modVb x fun e => { e with iC := max e.iC c.i }
  (h.modPde p fun e =>
    { e with state := .transition, await := .nothing, pending := some c, converterAsked := false, eprAsked := eprCap }).pdCtl p .accept

/-- A state in which a source pod takes a Request (R74, R91): capabilities were sent and no contract change or swap is under way.
One that comes while the probe's VDM awaits its answer is taken as well; the answer may still follow (log 97). -/
def Pde.takesRequest (e : Pde) : Bool :=
  e.roleSrc && (e.state = .sendCaps || e.state = .negotiate || e.state = .ready || e.state = .cableDisc || e.state = .vdmDisc)

/-- A Request or EPR_Request on a source pod (R74). -/
def Hub.pdRequest (h : Hub) (p : PodIx) (f : PdFrame) (r : PdRdo) : Hub :=
  let e := h.pde p
  if !e.takesRequest then h.pdUnexpected p f
  else
    match requestOf e.offers r with
    | (none, c) =>
      let h := ((h.pdCtl p .reject).pdEvt p 6).bump (cntPd p 9)
      let h := (h.raise (srcPd p) 0x2080 1 (1 :: le16 c)).pdViolNote p 9 f.header.toNat
      (h.modPde p fun e => { e with resend := e.resend || !e.explicit }).pdReady p
    | (some k, c) =>
      let h := h.budIdle
      if c ≤ (h.cons (podPath p)).charge || h.budClaimOk (podPath p) c then h.pdAccept p k r.eprCap
      else
        let h := (((h.pdCtl p .reject).pdEvt p 5).bump (cntPd p 8)).budRefused (podPath p) c
        let h := h.raise (srcPd p) 0x2080 1 (0 :: le16 c)
        (h.modPde p fun e => { e with pendCaps := true }).pdReady p

/-- I_sel of R83 for an offer, in 10 mA units. -/
def Hub.snkSel (h : Hub) (p : PodIx) (v i : Nat) : Nat := min (min i (h.snkImax p * 50)) (h.snkPmax p * 10000 / v)

/-- The best candidate of R83: position, voltage, I_sel; the largest power, equal values to the lower voltage. -/
def Hub.snkBest (h : Hub) (p : PodIx) : Nat → List SrcObject → Option (Nat × Nat × Nat) → Option (Nat × Nat × Nat)
  | _, [], best => best
  | n, .other :: os, best => h.snkBest p (n + 1) os best
  | n, .fixed v i :: os, best =>
    if h.snkVmin p * 100 ≤ v ∧ v ≤ h.snkVmax p * 100 then
      let s := h.snkSel p v i
      match best with
      | none => h.snkBest p (n + 1) os (some (n, v, s))
      | some (_, bv, bs) =>
        if bv * bs < v * s ∨ (bv * bs = v * s ∧ v < bv) then h.snkBest p (n + 1) os (some (n, v, s))
        else h.snkBest p (n + 1) os best
    else h.snkBest p (n + 1) os best

/-- The current of the 5 V object, the first of a list. -/
def firstFixed : List SrcObject → Nat
  | .fixed _ i :: _ => i
  | _ => 0

/-- What a sink pod asks for (R83): object position, voltage and current, with Capability Mismatch where it is too little.
DESIGN CHOICE (log 113): the contract of a sink pod has charge 0. -/
def Hub.snkChoice (h : Hub) (p : PodIx) (objs : List SrcObject) : Contract :=
  match h.snkBest p 1 objs none with
  | some (n, v, s) => { v := v, i := s, pos := n, ctype := 1, mismatch := decide (v * s < h.snkPmin p * 10000), charge := 0 }
  | none => { v := 500, i := h.snkSel p 500 (firstFixed objs), pos := 1, ctype := 1, mismatch := true, charge := 0 }

/-- Source_Capabilities on a sink pod (R83): the Request, with the contract it asks for. -/
def Hub.snkSelect (h : Hub) (p : PodIx) (objs : List SrcObject) : Hub :=
  let c := h.snkChoice p objs
  (h.modPde p fun e => { e with state := .negotiate, await := .accept, converterAsked := false, pending := some c }).pdSend p .request
    false [BitVec.ofNat 32 (c.pos * 2 ^ 28 + (if c.mismatch then 2 ^ 26 else 0) + c.i * 1024 + c.i)]

/-- PS_RDY on a sink pod (R83, R137): the contract is in force; the sink switch closes where the voltage is in the window. -/
def Hub.snkPsRdy (h : Hub) (p : PodIx) : Hub :=
  match (h.pde p).pending with
  | none => h
  | some c =>
    let h := (h.modPde p fun e => { e with contract := c, pending := none, madeExplicit := true }).pdContractNote p
    let x := podPath p
    let h := if h.snkVmin p * 100 ≤ c.v ∧ c.v ≤ h.snkVmax p * 100 then h.vbSinkOn x c.v c.i else h.vbRequestOff x
    (h.vbTransitionEnd x).pdReady p

/-! #### VCONN swap (R85-R88) -/

/-- The swap is complete (R85, R111); after a trip VCONN is not applied again (R42). -/
def Hub.vconnDone (h : Hub) (p : PodIx) (on : Bool) : Hub :=
  let own := (h.pde p).swapOwn
  let on := on && !(h.tc p).vconnOc
  let h := (h.modTc p fun t => { t with vconnOn := on }).modPde p fun e =>
    { e with swap := .idle, swapOwn := false, cmdVconn := e.cmdVconn && !own, vcRetried := false }
  (((h.pdEvt p 7).bump (cntPd p 10)).raise (srcPd p) 0x2020 1 [on.toNat, if own then 0 else 1]).pdReady p

/-- The accepted swap runs (R42, R85): a VCONN source, also one whose switch a trip has just opened, waits for PS_RDY; the other
side closes its switch and sends it. -/
def Hub.vconnRun (h : Hub) (p : PodIx) : Hub :=
  if (h.tc p).vconnOn || (h.tc p).vconnOc then h.modPde p fun e => { e with state := .vconnSwap, await := .nothing, swap := .awaitPsRdy }
  else (h.pdCtl p .psRdy).vconnDone p true

/-- VCONN_Swap sent by the pod (R86); one that the command bit asks for is not the request of the contract (R109). -/
def Hub.vconnSend (h : Hub) (p : PodIx) : Hub :=
  (h.modPde p fun e =>
    { e with state := .vconnSwap, await := .vconnSwap, swap := .byPod, swapOwn := true, vconnAsked := e.vconnAsked || !e.cmdVconn
             vcTaken := e.vcTaken || e.cmdVconn, pendVconn := false, vcWaiting := false }).pdCtl p .vconnSwap

/-- The pod's VCONN_Swap is due now (R86, R87): where its reason still stands, a Source waits for tSinkTx, a Sink sends it. -/
def Hub.vconnNow (h : Hub) (p : PodIx) : Hub :=
  if h.vconnDue p then
    if (h.pde p).state = .ready && !(h.pde p).roleSrc then h.vconnSend p
    else (h.modPde p fun e => { e with pendVconn := true }).pdTxPlan p
  else h

/-- The pod's own request is refused (R86). -/
def Hub.vconnRefused (h : Hub) (p : PodIx) : Hub :=
  let st := (h.pde p).swap.code
  let h := ((h.pdEvt p 8).bump (cntPd p 11)).raise (srcPd p) 0x2021 2 [st, 3]
  (h.modPde p fun e => { e with swap := .idle, swapOwn := false, waits := 0, cmdVconn := false, vcRetried := false }).pdReady p

/-- A partner's VCONN_Swap (R85, R87). -/
def Hub.vconnReceived (h : Hub) (p : PodIx) : Hub :=
  let e := h.pde p
  let ok := h.vconnSwapEn p && !(h.tc p).vconnOc
  if e.state = .vconnSwap && e.await = .vconnSwap then
    let after := !(h.tc p).vconnOn
    let retry := !e.roleSrc && !e.vcRetried && !((h.vconnPref p == 1 && after) || (h.vconnPref p == 2 && !after))
    let h := ((h.pdEvt p 9).bump (cntPd p 12)).raise (srcPd p) 0x2022 2 [e.roleSrc.toNat, retry.toNat]
    if e.roleSrc then h
    else
      let h := h.modPde p fun e =>
        { e with swap := if ok then .byPartner else .idle, swapOwn := false, vconnRetry := retry, cmdVconn := e.cmdVconn && retry }
      if ok then (h.pdCtl p .accept).vconnRun p else (h.pdCtl p .reject).pdReady p
  else if e.state = .ready && ok then
    ((h.modPde p fun e => { e with swap := .byPartner, swapOwn := false }).pdCtl p .accept).vconnRun p
  else h.pdCtl p .reject

/-! #### The cable (R71, R84) -/

/-- POD_p_PDE_CABLE (R107). -/
def Pde.cableWord (e : Pde) : Nat :=
  (if e.discDone then 1 else 0) + (if e.emarked then 2 else 0) + (if e.eprCable then 4 else 0) + 8 * e.iCbl + 32 * e.vCbl
    + (if e.activeCbl then 128 else 0) + 256 * min 15 e.attempts

/-- An SOP' attempt (R84). -/
def Hub.cableAsk (h : Hub) (p : PodIx) : Hub :=
  if (h.tc p).vconnOn && (h.pde p).state ≠ .disabled then
    (h.modPde p fun e => { e with attempts := e.attempts + 1, cable := .asked }).pdSend p .vdm true [h.vdmHead p 0xFF00 0 0 1]
  else h

/-- A retry during the contract is an AMS of its own (R84). -/
def Hub.cableRetry (h : Hub) (p : PodIx) : Hub :=
  if (h.tc p).vconnOn then (h.modPde p fun e => { e with pendCable := false, state := .cableDisc }).cableAsk p
  else (h.modPde p fun e => { e with pendCable := false }).pdTxPlan p

/-- Row 1 of R81: an explicit contract of SPR mode is in place, and its Request had EPR Mode Capable set. -/
def Pde.sprAsked (e : Pde) : Bool := (e.contract.ctype = 1 || e.contract.ctype = 2) && !e.eprMode && e.eprAsked

/-- EPR_Mode (Enter Failed) with the failing row of R81: the AMS of the entry ends; another state goes on. -/
def Hub.eprFail (h : Hub) (p : PodIx) (row : Nat) : Hub :=
  let reason := if row = 1 then 3 else if row = 3 then 2 else if row = 4 then 1 else 4
  let h := ((h.pdSend p .eprMode false [BitVec.ofNat 32 (4 * 2 ^ 24 + reason * 2 ^ 16)]).pdEvt p 12).raise (srcPd p) 0x2031 2 [row]
  if (h.pde p).state = .ready || (h.pde p).state = .eprEntry then h.pdReady p else h

/-- The cable has been read again for EPR mode (R81): entry succeeds, or fails with row 4 or 5. -/
def Hub.eprFinish (h : Hub) (p : PodIx) : Hub :=
  if !h.cableEpr p then h.eprFail p 4
  else if h.pdPower p < 112 then h.eprFail p 5
  else
    let h := h.pdSend p .eprMode false [BitVec.ofNat 32 (3 * 2 ^ 24)]
    let h := h.modPde p fun e => { e with eprMode := true, eprLeaving := false }
    (((h.pdEvt p 10).bump (cntPd p 13)).raise (srcPd p) 0x2030 1 [1]).pdSendCaps p

/-- An SOP' attempt ended, with an identity where `found` (R76, R81, R84): the first capabilities go out, a retry's AMS ends, EPR
entry goes on or fails with row 4, or the list is built anew. `again` says that it was not the first. -/
def Hub.cableEnded (h : Hub) (p : PodIx) (how : CableAsk) (found again : Bool) : Hub :=
  let e := h.pde p
  let h := h.modPde p fun e => { e with discDone := true, cable := how }
  if e.state = .cableDisc then if again then (h.pdReoffer p).pdReady p else h.pdSendCaps p
  else if e.state = .eprEntry then if found then h.eprFinish p else h.eprFail p 4
  else h.pdReoffer p

/-- The cable's answer (R71, R84); BUSY does not count as an attempt, and the cable is asked again. -/
def Hub.cableAnswer (h : Hub) (p : PodIx) (a : CableAnswer) : Hub :=
  let again := (h.pde p).discDone
  if (h.pde p).cable ≠ .asked then h
  else
    match a with
    | .busy =>
      let h := h.modPde p fun e => { e with attempts := e.attempts - 1, cable := .busy }
      if (h.pde p).state = .cableDisc && again then h.pdReady p else h
    | .nak => h.cableEnded p .answered false again
    | .ack five v epr act =>
      let h := h.modPde p fun e =>
        { e with emarked := true, discDone := true, iCbl := if five then 2 else 1, vCbl := v.val, eprCable := epr, activeCbl := act }
      ((h.pdEvt p 15).raise (srcPd p) 0x2040 1 (le32 (h.pde p).cableWord)).cableEnded p .answered true again

/-- CABLE_DISCOVERY_START (R84): the first attempt; a VCONN that has gone again ends it. -/
def Hub.cableFirst (h : Hub) (p : PodIx) : Hub :=
  let e := h.pde p
  if !e.roleSrc || e.discDone || e.cable ≠ .idle then h
  else if (h.tc p).vconnOn then h.cableAsk p
  else if e.state = .cableDisc then h.cableEnded p .silent false false
  else h

/-- CABLE_DISCOVERY_RETRY (R84): after BUSY the same attempt; a cable without an answer up to CBL_RETRY times, as an AMS with
collision avoidance. -/
def Hub.cableAgain (h : Hub) (p : PodIx) : Hub :=
  let e := h.pde p
  let later := fun (h : Hub) => (h.modPde p fun e => { e with pendCable := true }).pdTxPlan p
  if e.cable = .busy then
    if !(h.tc p).vconnOn then h.cableEnded p .silent false e.discDone
    else if e.state = .cableDisc || e.state = .eprEntry || e.state = .waitVbus then h.cableAsk p
    else later h
  else if e.cable = .silent && decide (e.attempts ≤ h.cblRetry p) && e.roleSrc && (h.tc p).vconnOn then later h
  else h

/-! #### EPR mode (R81, R82) -/

/-- EPR_Mode (Enter) on a D pod whose contract meets row 1 (R81). DEDUCED (log 98): rows 4 and 5 are judged once the identity has
been read again, for which Enter Acknowledged is sent. -/
def Hub.eprEnter (h : Hub) (p : PodIx) : Hub :=
  if !h.eprEn p then h.eprFail p 2
  else if !(h.tc p).vconnOn then h.eprFail p 3
  else
    ((h.pdSend p .eprMode false [BitVec.ofNat 32 (2 * 2 ^ 24)]).modPde p fun e => { e with state := .eprEntry }).cableAsk p

/-! #### The Alert of R78 -/

/-- INPUT_ALERT_SEND (R78): due on a source pod with an explicit contract and a Revision 3 partner; again only once the warning
had been clear for 1 s. -/
def Hub.pdInputAlert (h : Hub) (p : PodIx) : Hub :=
  let e := h.pde p
  let clear := match h.bud.clearAt with
    | some t => decide (t + ticksPerSecond ≤ h.clk)
    | none => true
  if e.roleSrc && e.explicit && e.revKnown && e.rev3 && h.alertEn p && (!e.alertSent || clear) then
    (h.modPde p fun e => { e with pendAlert := true }).pdTxPlan p
  else h

/-- The Alert itself: Source Input Change alone. -/
def Hub.pdAlertSend (h : Hub) (p : PodIx) : Hub :=
  let warn := h.budWarn
  let h := (h.pdSend p .alert false [BitVec.ofNat 32 (2 ^ 29)]).modPde p fun e =>
    { e with pendAlert := false, inputAlerted := warn, alertSent := true }
  (h.pdEvt p 16).raise (srcPd p) 0x2060 1 (le16 (h.cons (podPath p)).pOff)

/-- tSinkTx has elapsed (R77, R84, R87, R284): the Alert, then capabilities, or the VCONN_Swap where its reason still stands, or
an SOP' attempt, or the first request of authentication. -/
def Hub.pdSinkTx (h : Hub) (p : PodIx) : Hub :=
  if (h.pde p).sinkTxNg && (h.pde p).state = .ready && !h.authOpen p then
    let h := (if (h.pde p).pendAlert then h.pdAlertSend p else h).vconnPlan p
    if (h.pde p).pendCaps then h.pdOffer p
    else if (h.pde p).pendVconn then h.vconnSend p
    else if (h.pde p).pendCable then h.cableRetry p
    else if (h.pde p).pendAuth then ((h.modPde p fun e => { e with pendAuth := false }).authSend p 0x81 0 []).pdTxPlan p
    else h.modPde p fun e => { e with sinkTxNg := false }
  else h

/-! #### Cascade mode (R93, R259, R442) -/

/-- The mode is entered on a pod (R93): SBU to CSB; the cascade unit starts. -/
def Hub.pdCasEnter (h : Hub) (p : PodIx) : Hub :=
  let h := (h.modPde p fun e => { e with casMode := true, enterAcked := false }).modTc p fun t => { t with sbuCsb := true }
  ((((h.pdEvt p 13).raise (srcPd p) 0x2050 2 [1, 0]).csbLinkOpen p)).domCheck

/-- The probe ends (R93). -/
def Hub.probeEnd (h : Hub) (p : PodIx) : Hub :=
  let h := h.modPde p fun e => { e with probe := .ended, vdo := none, busy := 0 }
  if (h.pde p).state = .vdmDisc then h.pdReady p else h

/-- The probe goes on to a step. -/
def Hub.probeStep (h : Hub) (p : PodIx) (s : Probe) : Hub := (h.modPde p fun e => { e with probe := s, busy := 0 }).probeSend p

/-- The parent's decision on a partner (R259): it waits, in PDE.READY, while the hub is unresolved or unjoined; it refuses, or
Enter Mode is sent. -/
def Hub.probeDecide (h : Hub) (p : PodIx) : Hub :=
  match (h.pde p).vdo with
  | none => h
  | some w =>
    let c := h.csb
    let refuse := fun (cause : Nat) => (((h.csbEvt 2).bump (cntCsb 1)).raise srcCsb 0x9004 2 [p.val, cause]).probeEnd p
    if c.role = 0 || (c.role = 1 && !c.joined) then if (h.pde p).state = .vdmDisc then h.pdReady p else h
    else if w.toNat % 4 = 3 then refuse 1
    else if 4 < c.level + 1 + w.toNat / 8 % 8 then refuse 2
    else (h.modPde p fun e => { e with vdo := none }).probeStep p .enter

/-- Probes that wait for the hub to resolve or join go on (R259). -/
def Hub.probesResume (h : Hub) : Hub :=
  (List.finRange 16).foldl (fun h p => if (h.pde p).probe = .modes && (h.pde p).vdo.isSome then h.probeDecide p else h) h

/-- The probe waits in PDE.READY: for the 50 ms after BUSY, for the decision of R259, for the end of another AMS (R93). -/
def Pde.probeWaits (e : Pde) : Bool := e.state ≠ .vdmDisc && (0 < e.busy || e.vdo.isSome || e.probeDue)

/-- VDM_BUSY_RETRY (R93): the command is sent again. -/
def Hub.probeRetry (h : Hub) (p : PodIx) : Hub :=
  let e := h.pde p
  if e.probe = .idle || e.probe = .ended || e.state = .vdmDisc || e.busy = 0 || e.probeDue then h else h.probeSend p

/-- A partner's answer to the probe (R93), while one is awaited. -/
def Hub.probeAnswer (h : Hub) (p : PodIx) (a : VdmAnswer) : Hub :=
  let st := (h.pde p).probe
  if (h.pde p).probeWaits || st == .idle || st == .ended then h
  else
    match a with
    | .busy =>
      if 3 ≤ (h.pde p).busy then h.probeEnd p
      else
        let h := h.modPde p fun e => { e with busy := e.busy + 1 }
        if (h.pde p).state = .vdmDisc then h.pdReady p else h
    | .identity ok => if st == .identity && ok then h.probeStep p .svids else h.probeEnd p
    | .svids ok => if st == .svids && ok then h.probeStep p .modes else h.probeEnd p
    | .modes w => if st == .modes then (h.modPde p fun e => { e with vdo := some w }).probeDecide p else h.probeEnd p
    | .entered => if st == .enter then (h.pdCasEnter p).probeEnd p else h.probeEnd p
    | .exited => h.probeEnd p
    | .nak => h.probeEnd p

/-- Exit Mode sent by a DFP (R93): causes 1 Exit Mode, 4 CAS_EN cleared. -/
def Hub.pdCasExit (h : Hub) (p : PodIx) (cause : Nat) : Hub :=
  if (h.pde p).casMode && (h.pde p).dfp then (h.vdmSend p octalmyaVid 1 0 5 []).pdCasLeave p cause else h

/-- A cascade link lost by silence or repeats on a D pod (R442): Exit Mode; a dry live check then probes again, once in 60 s. -/
def Hub.pdCsbSilent (h : Hub) (p : PodIx) : Hub :=
  if isD p && (h.pde p).casMode then
    let h := h.pdCasExit p 1
    let again := match (h.pde p).csbLossAt with
      | some t => decide (t + 60 * ticksPerSecond ≤ h.clk)
      | none => true
    h.modPde p fun e => { e with reprobe := again, csbLossAt := some h.clk }
  else h

/-- The cascade unit accepts a parent on an upstream pod (R259). -/
def Hub.csbAccepts (h : Hub) (p : PodIx) : Bool :=
  match podUp p with
  | none => false
  | some u =>
    if h.csb.parentUp then h.csb.parentPod == upOther u && h.stbyLinkEn else (h.modeVdo p).toNat % 4 ≠ 3

/-! #### Commits (R97) -/

/-- PD_EN 1 to 0 (R97): with an explicit contract Hard Reset first; a Hard Reset under way ends in PDE.DISABLED. Without one
every AMS is dropped at once; a swap so cut is no row of R88 and leaves no record (log 99). -/
def Hub.pdDisable (h : Hub) (p : PodIx) : Hub :=
  if (h.pde p).explicit then (h.modPde p fun e => { e with disabling := true }).pdHardReset p 0x13 3 false
  else if h.pdHardResetRecovery p then h.modPde p fun e => { e with disabling := true }
  else
    h.modPde p fun e =>
      { e with cable := if !e.discDone then .idle else if e.cable = .asked ∨ e.cable = .busy then .silent else e.cable
               swap := .idle, swapOwn := false, cmdVconn := false, vcRetried := false, vcWaiting := false, drWaiting := false
               vconnRetry := false, pending := none, converterAsked := false
               state := .disabled, await := .nothing, pendAlert := false, pendCaps := false, pendVconn := false, pendCable := false
               pendAuth := false, reoffer := false, resend := false, sinkTxNg := false, probe := .ended, vdo := none, busy := 0
               casDue := false, probeDue := false }

/-- PD_EN 0 to 1 (R97): as after attach; what was learned of the cable is held. -/
def Hub.pdEnable (h : Hub) (p : PodIx) : Hub :=
  if (h.pde p).disabling then h.modPde p fun e => { e with disabling := false }
  else
    let h := h.modPde p fun e =>
      { e with state := if e.roleSrc then .waitVbus else .snkSelect, readySeen := false, madeExplicit := false, capsCount := 0
               revKnown := false, msgId := 0, cableId := 0, probe := .idle, waits := 0, drWaits := 0 }
    if (h.pde p).roleSrc && (h.vb (podPath p)).state == .on then h.pdVbusOn p else h

/-- The fields of the PDE sub-block took effect; `old` is the block before the commit. DESIGN CHOICE (log 74): the Hard Reset of a
UFP whose CAS_EN was cleared in the mode writes LAST_VIOL as the cause of 0x2011, and 2, Hard Reset, as that of 0x2050.
DESIGN CHOICE (log 113): a probe under way when CAS_EN is cleared goes on. -/
def Hub.pdCommitted (old h : Hub) (p : PodIx) : Hub :=
  if !(h.tc p).attached then h
  else if old.pdEn p && !h.pdEn p then h.pdDisable p
  else if !old.pdEn p && h.pdEn p then h.pdEnable p
  else if (h.pde p).state = .disabled then h
  else
    let h := if old.eprEn p && !h.eprEn p then h.pdEprLeave p else h
    let h :=
      if old.casEn p && !h.casEn p && (h.pde p).casMode then
        if (h.pde p).dfp then h.pdCasExit p 4 else h.pdHardReset p (h.pde p).lastViol 2 true
      else if !old.casEn p && h.casEn p then (h.modPde p fun e => { e with csbLossAt := none }).probeStart p
      else h
    let h := if (h.pde p).state = .ready then (h.vconnPlan p).pdTxPlan p else h
    if old.fixEn p ≠ h.fixEn p || old.ppsEn p ≠ h.ppsEn p || old.pdpMax p ≠ h.pdpMax p then h.pdReoffer p else h

end Sys2Proof.Machine
end

