-- ==== Sys2Proof/Machine/Pd.lean ====
section
/-! DEFINITION. What each message, timer and command of the PD engine does (R19, R74-R99, R109). -/

namespace Sys2Proof.Machine

/-! #### Answers to the pod's own requests (R19, R86, R91) -/

/-- The hub's DR_Swap is not accepted (R19): the pod serves power only. -/
def Hub.drSwapNo (h : Hub) (p : PodIx) : Hub :=
  if (h.pde p).await = .drSwap then
    match podUp p with
    | none => h
    | some u => ((h.modPde p fun e => { e with drWaits := 0 }).upRefused u).pdReady p
  else h

/-- Accept (R85, R86, R89, R91); a change of a sink's contract is a voltage transition from here on (R137). -/
def Hub.pdAccepted (h : Hub) (p : PodIx) (f : PdFrame) : Hub :=
  match (h.pde p).await with
  | .accept =>
    let h := h.modPde p fun e => { e with state := .transition, await := .nothing }
    match (h.pde p).pending with
    | some c => if h.vbOn (podPath p) && (h.vb (podPath p)).sinkDir then h.vbSetTarget (podPath p) c.v else h
    | none => h
  | .drSwap =>
    match podUp p with
    | none => h
    | some u => (((h.modPde p fun e => { e with dfp := false, drWaits := 0 }).pdReady p)).upSwapped u
  | .vconnSwap => if (h.pde p).state = .vconnSwap then (h.modPde p fun e => { e with waits := 0 }).vconnRun p else h.pdUnexpected p f
  | .softReset => if (h.pde p).roleSrc then h.pdSendCaps p else h.modPde p fun e => { e with state := .snkSelect, await := .nothing }
  | _ => h.pdUnexpected p f

/-- The exchange ends on the pod (R284, R286): in PDE.READY what waited for the end of its AMS goes on. -/
def Hub.authOver (h : Hub) (p : PodIx) (st : AuthState) (err root : Nat) : Hub :=
  let h := h.authEnd p st err root
  if (h.pde p).state = .ready then h.pdReady p else h

/-- Not_Supported to the pod's own capabilities (R91): the AMS ends. DESIGN CHOICE (log 96): without an explicit contract the
capabilities go out again as R89 repeats them. -/
def Hub.pdCapsRefused (h : Hub) (p : PodIx) : Hub :=
  if (h.pde p).explicit then h.pdReady p else h.modPde p fun e => { e with await := .nothing }

/-- Reject, or Not_Supported, which ends an AMS the pod started and is otherwise without effect (R19, R86, R286, R91). -/
def Hub.pdRefused (h : Hub) (p : PodIx) (f : PdFrame) (notSup : Bool) : Hub :=
  match (h.pde p).await with
  | .accept => (h.modPde p fun e => { e with pending := none }).pdBack p
  | .drSwap => h.drSwapNo p
  | .vconnSwap => h.vconnRefused p
  | _ =>
    if notSup then
      if (h.pde p).await = .request then h.pdCapsRefused p
      else if h.authAwaits p then h.authOver p .failed 1 0
      else if (h.pde p).state = .vdmDisc then h.probeEnd p
      else h
    else h.pdUnexpected p f

/-- Wait (R86, R91): the AMS ends, and a new try follows 100 ms later, at most three times; a fourth counts as a Reject. -/
def Hub.pdWaited (h : Hub) (p : PodIx) (f : PdFrame) : Hub :=
  match (h.pde p).await with
  | .accept => (h.modPde p fun e => { e with pending := none }).pdBack p
  | .drSwap =>
    if 3 ≤ (h.pde p).drWaits then h.drSwapNo p
    else (h.modPde p fun e => { e with drWaits := e.drWaits + 1, drWaiting := true }).pdReady p
  | .vconnSwap =>
    if 3 ≤ (h.pde p).waits then h.vconnRefused p
    else (h.modPde p fun e => { e with waits := e.waits + 1, vcWaiting := true, swap := .idle, swapOwn := false }).pdReady p
  | _ => h.pdUnexpected p f

/-- PS_RDY (R85, R91, R137). -/
def Hub.psRdyReceived (h : Hub) (p : PodIx) (f : PdFrame) : Hub :=
  let e := h.pde p
  if e.swap = .awaitPsRdy then h.vconnDone p false
  else if !e.roleSrc && e.state = .transition then h.snkPsRdy p
  else h.pdUnexpected p f

/-- Soft_Reset received (R89, R111). -/
def Hub.softReceived (h : Hub) (p : PodIx) : Hub :=
  let h := (((h.pdEvt p 2).bump (cntPd p 3)).raise (srcPd p) 0x2010 2 [1, (h.pde p).lastViol, (h.pde p).srRun])
  let h := (h.modPde p fun e =>
    { e with msgId := 0, pending := none, converterAsked := false, swap := .idle, swapOwn := false, await := .nothing,
             cmdVconn := e.cmdVconn && !e.vcTaken }).pdCtl p .accept
  if (h.pde p).roleSrc then h.pdSendCaps p else h.modPde p fun e => { e with state := .snkSelect }

/-- tTypeCSendSourceCap (R89): the next capabilities; after nCapsCount of them PDE.NO_PD. -/
def Hub.capsTimer (h : Hub) (p : PodIx) : Hub :=
  if (h.pde p).state = .sendCaps && !(h.pde p).madeExplicit then
    if 50 ≤ (h.pde p).capsCount then h.modPde p fun e => { e with state := .noPd, await := .nothing } else h.pdSendCaps p
  else h

/-- A captured item that a sent message with this header made, its head word not yet popped. -/
def sentItem (header : BitVec 16) : List Word → Bool
  | w0 :: _ :: _ :: w3 :: _ => w0.extractLsb' 24 8 == 0x21#8 && w3.extractLsb' 16 16 == header
  | _ => false

/-- A captured GoodCRC that answered a message with this header. -/
def goodItem (header : BitVec 16) : List Word → Bool
  | w0 :: _ :: _ :: w3 :: _ =>
    w0.extractLsb' 24 8 == 0x20#8 && w3.extractLsb' 16 5 == 1#5 && w3.extractLsb' 25 3 == header.extractLsb' 9 3
      && w3.extractLsb' 28 4 == 0#4
  | _ => false

/-- Items, newest first, after the newest message with this header got no GoodCRC in spite of `n` retransmissions (R98). -/
def failItems (header : BitVec 16) (n : Nat) : List (List Word) → List (List Word)
  | [] => []
  | it :: rest =>
    if sentItem header it then
      (match it with
        | w0 :: w1 :: w2 :: w3 :: ws => (w0 :: w1 :: w2 :: ((w3 &&& 0xFFFF0007#32) ||| BitVec.ofNat 32 (16 * n)) :: ws)
        | it => it) :: rest
    else if goodItem header it then failItems header n rest
    else it :: failItems header n rest

/-- The capture of a message that got no GoodCRC (R98): nRetryCount is 2, and 3 under Revision 2.0 rules (PD). -/
def Hub.captureFail (h : Hub) (p : PodIx) (header : BitVec 16) : Hub :=
  if (h.capture p).items.any (sentItem header) then
    let n := (h.pde p).retryCount
    h.modCapture p fun q => { q with items := (failItems header n q.items.reverse).reverse }
  else h

/-- A message without GoodCRC (R19, R89, R94), by its header (PD layout). -/
def Hub.pdTxFail (h : Hub) (p : PodIx) (header : BitVec 16) : Hub :=
  let h := h.captureFail p header
  if !h.pdActive p then h
  else
    let w := header.toNat
    let ty := w % 32
    let ctl := w / 4096 % 8 = 0 ∧ w < 32768
    let caps := (w / 4096 % 8 ≠ 0 ∧ w < 32768 ∧ ty = 1)
    if ctl ∧ ty = 13 then h.pdViolHard p 4 w
    else if caps ∧ !(h.pde p).madeExplicit then h
    else if ctl ∧ ty = 9 then (h.drSwapNo p).pdViolSoft p 3 w
    else h.pdViolSoft p 3 w

/-- A message with a bad CRC (R90, R98): counted by a working engine; the FIFO shows it in either case (R97, log 77). -/
def Hub.pdCrcBad (h : Hub) (p : PodIx) (f : PdFrame) : Hub :=
  if (h.pde p).state = .disabled && !(h.tc p).attached then h
  else
    (if (h.pde p).state = .disabled then h else h.bump (cntPd p 2)).captureMsg p 0x24 0 false f.retries f.header f.words

/-! #### Questions of the partner (R78, R83, R91) -/

/-- Get_Source_Cap (R91). -/
def Hub.getSourceCap (h : Hub) (p : PodIx) : Hub :=
  if (h.pde p).roleSrc then h.pdSendCaps p
  else if (h.tc p).drp then h.pdSendList p false
  else h.pdNotSup p

/-- An extended answer, which Revision 2.0 rules do not have (R70). -/
def Hub.pdAnswerExt (h : Hub) (p : PodIx) (ok : Bool) (k : PdKind) (bs : List (BitVec 8)) : Hub :=
  if ok && (h.pde p).r3 then h.pdSendExt p k bs else h.pdNotSup p

/-- Sink_Capabilities (R83): 5 V, then 9, 15 and 20 V within the window, at SNK_IMAX; Higher Capability. -/
def Hub.sinkCaps (h : Hub) (p : PodIx) : List Word :=
  let i := h.snkImax p * 50
  let more := [9, 15, 20].filter fun v => h.snkVmin p ≤ v && v ≤ h.snkVmax p
  BitVec.ofNat 32 ((if 15 < h.snkPmin p then 2 ^ 28 else 0) + 100 * 1024 + i)
    :: more.map fun v => BitVec.ofNat 32 (v * 20 * 1024 + i)

/-- A data block of a PD message: the bytes the spec states, the others the part's own (free values of item `k`). -/
def block (k n : Nat) (fs : List (Nat × Nat)) : List (BitVec 8) :=
  (List.range n).map fun i =>
    match fs.find? fun x => x.1 == i with
    | some x => BitVec.ofNat 8 x.2
    | none => (Config.partWord k (i / 4)).extractLsb' (8 * (i % 4)) 8

/-- Source_Capabilities_Extended (R91): vendor and product IDs, SPR PDP, and EPR PDP if EPR_EN. -/
def Hub.srcCapExt (h : Hub) (p : PodIx) : List (BitVec 8) :=
  block 10 25 [(0, 0x7A), (1, 0x2F), (2, 0x02), (3, 0x14), (23, min 100 (h.pdpMax p)), (24, if h.eprEn p then h.pdpMax p else 0)]

/-- Status (R78): external power present, no battery input. -/
def statusBlock : List (BitVec 8) := block 11 7 [(1, 2), (2, 0)]

/-- PPS_Status (R91): the measured VBUS in 20 mV units and current in 50 mA units. -/
def Hub.ppsBlock (h : Hub) (p : PodIx) : List (BitVec 8) :=
  let e := h.vb (podPath p)
  block 13 4 [(0, e.vbusV / 2 % 256), (1, e.vbusV / 512), (2, (e.iMeas / 10).toNat)]

/-- Source_Info (R91): Managed Capability, Maximum PDP, Present PDP, Reported PDP in W. -/
def Hub.sourceInfo (h : Hub) (p : PodIx) : Word :=
  let best := (h.pde p).offers.foldl
    (fun a o => match o with | .fixed v i => max a (v * i / 10000) | .pps v i => max a (v * i / 10000) | .none => a) 0
  BitVec.ofNat 32 (h.pdpMax p * 65536 + h.pdPower p / 4 * 256 + best)

/-- Manufacturer_Info (R91): vendor ID, product ID, "EX1402". -/
def manufacturerBlock : List (BitVec 8) :=
  block 14 10 [(0, 0x7A), (1, 0x2F), (2, 0x02), (3, 0x14), (4, 0x45), (5, 0x58), (6, 0x31), (7, 0x34), (8, 0x30), (9, 0x32)]

/-- The identity VDOs (R92): PDUSB Hub in both product type fields, USB Communications Capable, Modal Operation on UA and UB
with CAS_EN; the certificate word is the part's own. -/
def Hub.identityVdos (h : Hub) (p : PodIx) : List Word :=
  [BitVec.ofNat 32 (3 * 2 ^ 30 + 2 ^ 27 + (if !isD p && h.casEn p then 2 ^ 26 else 0) + 2 ^ 23 + octalmyaVid), Config.partWord 15 0,
    BitVec.ofNat 32 (0x1402 * 65536 + 0x0200)]

/-- BIST (R91): carried out with BIST_EN and VBUS at vSafe5V; Shared Test Mode is ignored. -/
def Hub.bistReceived (h : Hub) (p : PodIx) (mode : BistMode) : Hub :=
  let at5 := if (h.pde p).roleSrc then h.vbOn (podPath p) && (h.vb (podPath p)).vTgt == 500
    else !(h.pde p).explicit || (h.pde p).contract.v == 500
  if h.bistEn p && at5 && mode ≠ .sharedTest then h.emit (.bist p.val mode) else h

/-- EPR_Mode (R70, R81, R82). -/
def Hub.eprReceived (h : Hub) (p : PodIx) (f : PdFrame) (a : EprAction) : Hub :=
  if !isD p || !(h.pde p).r3 then h.pdNotSup p
  else
    match a with
    | .enter =>
      if !(h.pde p).sprAsked then h.eprFail p 1
      else if (h.pde p).state = .ready || (h.pde p).state = .vdmDisc then h.eprEnter p
      else h.pdUnexpected p f
    | .exit => if (h.pde p).eprMode then (h.pdEprEnd p).pdSendCaps p else h.pdUnexpected p f

/-- Enter Mode on an upstream pod (R93, R252, R259): accepting a parent makes the hub a WORKER at once. -/
def Hub.enterModeReceived (h : Hub) (p : PodIx) (svid mode : Nat) : Hub :=
  if !(h.pde p).dfp && h.casEn p && svid = octalmyaVid && mode = 1 && h.csbAccepts p then
    ((h.modPde p fun e => { e with enterAcked := true }).csbSetRole 1).vdmSend p svid mode 1 4 []
  else h.vdmSend p svid mode 2 4 []

/-- NAK to an SVID-specific command (R92). -/
def Hub.svidNak (h : Hub) (p : PodIx) (f : PdFrame) : Hub :=
  let w := (f.words.getD 0 0).toNat
  h.vdmSend p (w / 65536) (w / 256 % 8) 2 (w % 32) []

/-! #### Command bits (R109) -/

/-- SEND_CAPS: possible on a source pod that waits in READY, SEND_CAPS or NO_PD. -/
def Hub.cmdSendCaps (h : Hub) (p : PodIx) : Hub :=
  let e := h.pde p
  if e.roleSrc && (h.tc p).attached && (e.state = .ready || e.state = .sendCaps || e.state = .noPd) then h.pdSendCaps p else h

/-- VCONN_SWAP: in READY, whatever VCONN_PREF says; a Source waits tSinkTx first (R87). A pod whose VCONN tripped may not apply it
again (R42). -/
def Hub.cmdVconnSwap (h : Hub) (p : PodIx) : Hub :=
  if (h.pde p).state = .ready && !(h.tc p).vconnOc then (h.modPde p fun e => { e with cmdVconn := true, vcTaken := false }).vconnNow p else h

/-- EPR_EXIT (R82). -/
def Hub.cmdEprExit (h : Hub) (p : PodIx) : Hub := if (h.pde p).state = .ready then h.pdEprLeave p else h

/-! #### The commands -/

/-- DR_SWAP_RESPONSE_TIMEOUT (R19). -/
def execDrSwapResponseTimeout (p : PodIx) (s : State) : Host.Outcome State Fault Refusal :=
  onPod s p fun h => h.drSwapNo p

/-- DR_SWAP_WAIT_RETRY (R91). -/
def execDrSwapWaitRetry (p : PodIx) (s : State) : Host.Outcome State Fault Refusal :=
  onPod s p fun h => if (h.pde p).drWaiting then (h.modPde p fun e => { e with drWaiting := false }).drSwapSend p else h

/-- PD_REQUEST_RECEIVED (R74). -/
def execPdRequestReceived (p : PodIx) (f : PdFrame) (r : PdRdo) (s : State) : Host.Outcome State Fault Refusal :=
  onPod s p fun h => h.pdOn p f fun h => h.pdRequest p f r

/-- SRC_TRANSITION_EXPIRY (R75). -/
def execSrcTransitionExpiry (p : PodIx) (s : State) : Host.Outcome State Fault Refusal :=
  onPod s p fun h => h.pdSrcTransition p

/-- REGULATOR_CONFIRM_TIMEOUT (R75). -/
def execRegulatorConfirmTimeout (p : PodIx) (s : State) : Host.Outcome State Fault Refusal :=
  onPod s p fun h => if (h.pde p).state = .transition && (h.pde p).converterAsked then (h.pdEvt p 19).pdHardReset p 0x12 2 true else h

/-- REOFFER_TIMER (R74, R76). -/
def execReofferTimer (p : PodIx) (s : State) : Host.Outcome State Fault Refusal :=
  onPod s p fun h =>
    if ((h.pde p).reoffer || (h.pde p).resend) && (h.pde p).state = .ready && (h.pde p).roleSrc then h.pdSendCaps p else h

/-- SINK_TX_EXPIRY (R77, R87). -/
def execSinkTxExpiry (p : PodIx) (s : State) : Host.Outcome State Fault Refusal :=
  onPod s p fun h => h.pdSinkTx p

/-- PPS_TIMEOUT (R80). -/
def execPpsTimeout (p : PodIx) (s : State) : Host.Outcome State Fault Refusal :=
  onPod s p fun h => if (h.pde p).contract.ctype = 2 && (h.pde p).roleSrc then h.pdViolHard p 7 0 else h

/-- EPR_MODE_RECEIVED (R81, R82). -/
def execEprModeReceived (p : PodIx) (f : PdFrame) (a : EprAction) (s : State) : Host.Outcome State Fault Refusal :=
  onPod s p fun h => h.pdOn p f fun h => h.eprReceived p f a

/-- EPR_KEEPALIVE_RECEIVED (R82). -/
def execEprKeepaliveReceived (p : PodIx) (f : PdFrame) (s : State) : Host.Outcome State Fault Refusal :=
  onPod s p fun h => h.pdOn p f fun h => if (h.pde p).eprMode then h.pdSendExt p .eprKeepAliveAck (putLe 2 4) else h.pdUnexpected p f

/-- EPR_KEEPALIVE_TIMEOUT (R82). -/
def execEprKeepaliveTimeout (p : PodIx) (s : State) : Host.Outcome State Fault Refusal :=
  onPod s p fun h => if (h.pde p).eprMode then h.pdViolHard p 6 0 else h

/-- SOURCE_CAPABILITIES_RECEIVED (R83): on a source pod it is unexpected. -/
def execSourceCapabilitiesReceived (p : PodIx) (f : PdFrame) (objs : List SrcObject) (s : State) : Host.Outcome State Fault Refusal :=
  onPod s p fun h => h.pdOn p f fun h => if (h.pde p).roleSrc then h.pdUnexpected p f else h.snkSelect p objs

/-- CABLE_DISCOVERY_START (R84). -/
def execCableDiscoveryStart (p : PodIx) (s : State) : Host.Outcome State Fault Refusal :=
  onPod s p fun h => h.cableFirst p

/-- CABLE_IDENTITY_RESPONSE (R71, R84). -/
def execCableIdentityResponse (p : PodIx) (f : PdFrame) (a : CableAnswer) (s : State) : Host.Outcome State Fault Refusal :=
  onPod s p fun h =>
    if (h.pde p).state = .disabled then
      if (h.tc p).attached then h.captureMsg p 0x20 1 false f.retries f.header f.words else h
    else (h.pdRx p f true).cableAnswer p a

/-- CABLE_DISCOVERY_TIMEOUT (R84). -/
def execCableDiscoveryTimeout (p : PodIx) (s : State) : Host.Outcome State Fault Refusal :=
  onPod s p fun h =>
    if (h.pde p).state = .disabled || (h.pde p).cable ≠ .asked then h else h.cableEnded p .silent false (h.pde p).discDone

/-- CABLE_DISCOVERY_RETRY (R84). -/
def execCableDiscoveryRetry (p : PodIx) (s : State) : Host.Outcome State Fault Refusal :=
  onPod s p fun h => h.cableAgain p

/-- VCONN_SWAP_RECEIVED (R85, R87). -/
def execVconnSwapReceived (p : PodIx) (f : PdFrame) (s : State) : Host.Outcome State Fault Refusal :=
  onPod s p fun h => h.pdOn p f fun h => h.vconnReceived p

/-- VCONN_SWAP_TIMEOUT (R85). -/
def execVconnSwapTimeout (p : PodIx) (s : State) : Host.Outcome State Fault Refusal :=
  onPod s p fun h => if (h.pde p).swap = .awaitPsRdy then h.pdViolHard p 8 0 else h

/-- VCONN_SWAP_SEND (R86): a Source waits tSinkTx first. -/
def execVconnSwapSend (p : PodIx) (s : State) : Host.Outcome State Fault Refusal :=
  onPod s p fun h => if (h.pde p).pendVconn && !(h.pde p).roleSrc then (h.modPde p fun e => { e with pendVconn := false }).vconnNow p else h

/-- VCONN_SWAP_WAIT_RETRY (R86). -/
def execVconnSwapWaitRetry (p : PodIx) (s : State) : Host.Outcome State Fault Refusal :=
  onPod s p fun h => if (h.pde p).vcWaiting then (h.modPde p fun e => { e with vcWaiting := false }).vconnNow p else h

/-- VCONN_COLLISION_RETRY (R87). -/
def execVconnCollisionRetry (p : PodIx) (s : State) : Host.Outcome State Fault Refusal :=
  onPod s p fun h =>
    if (h.pde p).vconnRetry then (h.modPde p fun e => { e with vconnRetry := false, vcRetried := true }).vconnNow p else h

/-- HARD_RESET_RECEIVED (R89, R95). -/
def execHardResetReceived (p : PodIx) (s : State) : Host.Outcome State Fault Refusal :=
  onPod s p fun h => h.pdResetReceived p

/-- PS_HARD_RESET_EXPIRY (R89). -/
def execPsHardResetExpiry (p : PodIx) (s : State) : Host.Outcome State Fault Refusal :=
  onPod s p fun h => h.pdPsReset p

/-- SRC_RECOVER_EXPIRY (R79, R89). -/
def execSrcRecoverExpiry (p : PodIx) (s : State) : Host.Outcome State Fault Refusal :=
  onPod s p fun h => h.pdSrcRecover p

/-- SINK_VBUS_RETURN_TIMEOUT (R89): the detach of R36 applies. -/
def execSinkVbusReturnTimeout (p : PodIx) (s : State) : Host.Outcome State Fault Refusal :=
  onPod s p fun h => if (h.tc p).state == .attachedSnk && h.pdHardResetRecovery p then h.typecDetach p 0 0 none else h

/-- SOFT_RESET_RECEIVED (R89). -/
def execSoftResetReceived (p : PodIx) (f : PdFrame) (s : State) : Host.Outcome State Fault Refusal :=
  onPod s p fun h => h.pdOn p f fun h => h.softReceived p

/-- SOFT_RESET_ACCEPT_TIMEOUT (R94). -/
def execSoftResetAcceptTimeout (p : PodIx) (s : State) : Host.Outcome State Fault Refusal :=
  onPod s p fun h => if (h.pde p).await = .softReset then h.pdViolHard p 4 0 else h

/-- SEND_SOURCE_CAP_TIMER (R89). -/
def execSendSourceCapTimer (p : PodIx) (s : State) : Host.Outcome State Fault Refusal :=
  onPod s p fun h => h.capsTimer p

/-- NO_REQUEST_TIMEOUT (R94). DESIGN CHOICE (log 74): the contract that stands is an explicit one; without one R89 repeats the
capabilities. -/
def execNoRequestTimeout (p : PodIx) (s : State) : Host.Outcome State Fault Refusal :=
  onPod s p fun h => if (h.pde p).await = .request && (h.pde p).explicit then h.pdViolHard p 5 0 else h

/-- TRANSMIT_FAILURE (R19, R89, R94). -/
def execTransmitFailure (p : PodIx) (header : BitVec 16) (s : State) : Host.Outcome State Fault Refusal :=
  onPod s p fun h => h.pdTxFail p header

/-- VIOL_QUIET_EXPIRY (R95). -/
def execViolQuietExpiry (p : PodIx) (s : State) : Host.Outcome State Fault Refusal :=
  onPod s p fun h => if (h.pde p).explicit then h.modPde p fun e => { e with srRun := 0, hrRun := 0 } else h

/-- PD_CRC_ERROR (R90, R98). -/
def execPdCrcError (p : PodIx) (f : PdFrame) (s : State) : Host.Outcome State Fault Refusal :=
  onPod s p fun h => h.pdCrcBad p f

/-- MALFORMED_MESSAGE (R90). -/
def execMalformedMessage (p : PodIx) (f : PdFrame) (s : State) : Host.Outcome State Fault Refusal :=
  onPod s p fun h => h.pdOn p f fun h => h.pdViolSoft p 1 f.header.toNat

/-- UNEXPECTED_MESSAGE (R90). -/
def execUnexpectedMessage (p : PodIx) (f : PdFrame) (s : State) : Host.Outcome State Fault Refusal :=
  onPod s p fun h => h.pdOn p f fun h => h.pdUnexpected p f

/-- UNSUPPORTED_MESSAGE_RECEIVED (R90). -/
def execUnsupportedMessageReceived (p : PodIx) (f : PdFrame) (s : State) : Host.Outcome State Fault Refusal :=
  onPod s p fun h => h.pdOn p f fun h => h.pdNotSup p

/-- ACCEPT_RECEIVED (R91). -/
def execAcceptReceived (p : PodIx) (f : PdFrame) (s : State) : Host.Outcome State Fault Refusal :=
  onPod s p fun h => h.pdOn p f fun h => h.pdAccepted p f

/-- REJECT_RECEIVED (R91). -/
def execRejectReceived (p : PodIx) (f : PdFrame) (s : State) : Host.Outcome State Fault Refusal :=
  onPod s p fun h => h.pdOn p f fun h => h.pdRefused p f false

/-- WAIT_RECEIVED (R86, R91). -/
def execWaitReceived (p : PodIx) (f : PdFrame) (s : State) : Host.Outcome State Fault Refusal :=
  onPod s p fun h => h.pdOn p f fun h => h.pdWaited p f

/-- PING_RECEIVED (R91). -/
def execPingReceived (p : PodIx) (f : PdFrame) (s : State) : Host.Outcome State Fault Refusal :=
  onPod s p fun h => h.pdOn p f fun h => h

/-- PS_RDY_RECEIVED (R85, R91, R137). -/
def execPsRdyReceived (p : PodIx) (f : PdFrame) (s : State) : Host.Outcome State Fault Refusal :=
  onPod s p fun h => h.pdOn p f fun h => h.psRdyReceived p f

/-- GET_SOURCE_CAP_RECEIVED (R91). -/
def execGetSourceCapReceived (p : PodIx) (f : PdFrame) (s : State) : Host.Outcome State Fault Refusal :=
  onPod s p fun h => h.pdOn p f fun h => h.getSourceCap p

/-- GET_SINK_CAP_RECEIVED (R83, R91). -/
def execGetSinkCapReceived (p : PodIx) (f : PdFrame) (s : State) : Host.Outcome State Fault Refusal :=
  onPod s p fun h => h.pdOn p f fun h => if isD p then h.pdNotSup p else h.pdSend p .sinkCaps false (h.sinkCaps p)

/-- DR_SWAP_RECEIVED (R91). -/
def execDrSwapReceived (p : PodIx) (f : PdFrame) (s : State) : Host.Outcome State Fault Refusal :=
  onPod s p fun h => h.pdOn p f fun h => h.pdCtl p .reject

/-- PR_SWAP_RECEIVED (R91). -/
def execPrSwapReceived (p : PodIx) (f : PdFrame) (s : State) : Host.Outcome State Fault Refusal :=
  onPod s p fun h => h.pdOn p f fun h => h.pdCtl p .reject

/-- NOT_SUPPORTED_RECEIVED (R91). -/
def execNotSupportedReceived (p : PodIx) (f : PdFrame) (s : State) : Host.Outcome State Fault Refusal :=
  onPod s p fun h => h.pdOn p f fun h => h.pdRefused p f true

/-- GET_SOURCE_CAP_EXTENDED_RECEIVED (R91). -/
def execGetSourceCapExtendedReceived (p : PodIx) (f : PdFrame) (s : State) : Host.Outcome State Fault Refusal :=
  onPod s p fun h => h.pdOn p f fun h => h.pdAnswerExt p (h.pde p).roleSrc .sourceCapsExt (h.srcCapExt p)

/-- GET_STATUS_RECEIVED (R78). -/
def execGetStatusReceived (p : PodIx) (f : PdFrame) (s : State) : Host.Outcome State Fault Refusal :=
  onPod s p fun h => h.pdOn p f fun h => h.pdAnswerExt p true .status statusBlock

/-- GET_PPS_STATUS_RECEIVED (R91). -/
def execGetPpsStatusReceived (p : PodIx) (f : PdFrame) (s : State) : Host.Outcome State Fault Refusal :=
  onPod s p fun h => h.pdOn p f fun h => h.pdAnswerExt p ((h.pde p).contract.ctype = 2) .ppsStatus (h.ppsBlock p)

/-- GET_SINK_CAP_EXTENDED_RECEIVED (R91). -/
def execGetSinkCapExtendedReceived (p : PodIx) (f : PdFrame) (s : State) : Host.Outcome State Fault Refusal :=
  onPod s p fun h => h.pdOn p f fun h => h.pdAnswerExt p (!isD p) .sinkCapsExt (block 12 21 [])

/-- GET_SOURCE_INFO_RECEIVED (R91). -/
def execGetSourceInfoReceived (p : PodIx) (f : PdFrame) (s : State) : Host.Outcome State Fault Refusal :=
  onPod s p fun h => h.pdOn p f fun h => if (h.pde p).roleSrc then h.pdSend p .sourceInfo false [h.sourceInfo p] else h.pdNotSup p

/-- GET_REVISION_RECEIVED (R91): Revision 3.2. -/
def execGetRevisionReceived (p : PodIx) (f : PdFrame) (s : State) : Host.Outcome State Fault Refusal :=
  onPod s p fun h => h.pdOn p f fun h => h.pdSend p .revision false [BitVec.ofNat 32 (3 * 2 ^ 28 + 2 * 2 ^ 24)]

/-- GET_MANUFACTURER_INFO_RECEIVED (R91). -/
def execGetManufacturerInfoReceived (p : PodIx) (f : PdFrame) (s : State) : Host.Outcome State Fault Refusal :=
  onPod s p fun h => h.pdOn p f fun h => h.pdAnswerExt p true .manufacturerInfo manufacturerBlock

/-- BIST_RECEIVED (R91). -/
def execBistReceived (p : PodIx) (f : PdFrame) (mode : BistMode) (s : State) : Host.Outcome State Fault Refusal :=
  onPod s p fun h => h.pdOn p f fun h => h.bistReceived p mode

/-- SINK_CAPABILITIES_RECEIVED (R91): captured. -/
def execSinkCapabilitiesReceived (p : PodIx) (f : PdFrame) (s : State) : Host.Outcome State Fault Refusal :=
  onPod s p fun h => h.pdOn p f fun h => h

/-- ALERT_RECEIVED (R91): captured and journaled, under no code the spec states. -/
def execAlertReceived (p : PodIx) (f : PdFrame) (s : State) : Host.Outcome State Fault Refusal :=
  onPod s p fun h => h.pdOn p f fun h => h.raise (srcPd p) (Config.alertRecord 0) (Config.alertRecord 1 % 8) []

/-- REPLY_MESSAGE_RECEIVED (R91): captured where it answers the pod's request, otherwise unexpected. The engine sends no such
request (the table of R91); `asked` stands for one of another origin. -/
def execReplyMessageReceived (p : PodIx) (r : PdReply) (s : State) : Host.Outcome State Fault Refusal :=
  onPod s p fun h => h.pdOn p r.frame fun h => if r.asked then h else h.pdUnexpected p r.frame

/-- EPR_GET_SOURCE_CAP_RECEIVED (R91). -/
def execEprGetSourceCapReceived (p : PodIx) (f : PdFrame) (s : State) : Host.Outcome State Fault Refusal :=
  onPod s p fun h => h.pdOn p f fun h => if isD p && (h.pde p).r3 then h.pdSendList p true else h.pdNotSup p

/-- CABLE_RESET_RECEIVED (R91): ignored. -/
def execCableResetReceived (p : PodIx) (s : State) : Host.Outcome State Fault Refusal :=
  onPod s p fun h => h

/-- VDM_DISCOVER_IDENTITY_RECEIVED (R92). -/
def execVdmDiscoverIdentityReceived (p : PodIx) (f : PdFrame) (s : State) : Host.Outcome State Fault Refusal :=
  onPod s p fun h => h.pdOn p f fun h => h.vdmSend p 0xFF00 0 1 1 (h.identityVdos p)

/-- VDM_DISCOVER_SVIDS_RECEIVED (R92). -/
def execVdmDiscoverSvidsReceived (p : PodIx) (f : PdFrame) (s : State) : Host.Outcome State Fault Refusal :=
  onPod s p fun h => h.pdOn p f fun h => if !(h.pde p).dfp && h.casEn p then h.vdmSend p 0xFF00 0 1 2 [BitVec.ofNat 32 (octalmyaVid * 65536)] else h.vdmSend p 0xFF00 0 2 2 []

/-- VDM_DISCOVER_MODES_RECEIVED (R92, R258). -/
def execVdmDiscoverModesReceived (p : PodIx) (f : PdFrame) (svid : BitVec 16) (s : State) : Host.Outcome State Fault Refusal :=
  onPod s p fun h => h.pdOn p f fun h => if !(h.pde p).dfp && svid.toNat = octalmyaVid then h.vdmSend p svid.toNat 0 1 3 [h.modeVdo p] else h.vdmSend p svid.toNat 0 2 3 []

/-- VDM_ENTER_MODE_RECEIVED (R93, R259). -/
def execVdmEnterModeReceived (p : PodIx) (f : PdFrame) (svid : BitVec 16) (mode : Nat) (s : State) : Host.Outcome State Fault Refusal :=
  onPod s p fun h => h.pdOn p f fun h => h.enterModeReceived p svid.toNat mode

/-- ENTER_MODE_ACK_GOODCRC (R93). -/
def execEnterModeAckGoodcrc (p : PodIx) (s : State) : Host.Outcome State Fault Refusal :=
  onPod s p fun h => if (h.pde p).enterAcked then h.pdCasEnter p else h

/-- VDM_EXIT_MODE_RECEIVED (R92, R93). -/
def execVdmExitModeReceived (p : PodIx) (f : PdFrame) (s : State) : Host.Outcome State Fault Refusal :=
  onPod s p fun h => h.pdOn p f fun h => if (h.pde p).dfp then h.vdmSend p octalmyaVid 1 2 5 [] else (h.vdmSend p octalmyaVid 1 1 5 []).pdCasLeave p 1

/-- VDM_ATTENTION_RECEIVED (R92): captured and ignored. -/
def execVdmAttentionReceived (p : PodIx) (f : PdFrame) (s : State) : Host.Outcome State Fault Refusal :=
  onPod s p fun h => h.pdOn p f fun h => h

/-- VDM_SVID_COMMAND_RECEIVED (R92): NAK. -/
def execVdmSvidCommandReceived (p : PodIx) (f : PdFrame) (s : State) : Host.Outcome State Fault Refusal :=
  onPod s p fun h => h.pdOn p f fun h => h.svidNak p f

/-- VDM_RESPONSE_RECEIVED (R93). -/
def execVdmResponseReceived (p : PodIx) (f : PdFrame) (a : VdmAnswer) (s : State) : Host.Outcome State Fault Refusal :=
  onPod s p fun h => h.pdOn p f fun h => h.probeAnswer p a

/-- VDM_BUSY_RETRY (R93). -/
def execVdmBusyRetry (p : PodIx) (s : State) : Host.Outcome State Fault Refusal :=
  onPod s p fun h => h.probeRetry p

/-- VDM_RESPONSE_TIMEOUT (R93). -/
def execVdmResponseTimeout (p : PodIx) (s : State) : Host.Outcome State Fault Refusal :=
  onPod s p fun h =>
    if (h.pde p).probe = .idle || (h.pde p).probe = .ended || (h.pde p).probeWaits then h else h.probeEnd p

end Sys2Proof.Machine
end

