-- ==== Sys2Proof/Machine/Budget.lean ====
section
/-! DEFINITION. The budget unit: B, targets, cuts, sheds, Rp levels, the input warning, the brownout response and restoring
(chapter 6: R153-R162, R170, R171). -/

namespace Sys2Proof.Machine

/-! #### The input warning (R135, R158, R161) -/

/-- Every path notes the warning's change: UV suppression follows it (R122). -/
def Hub.budUv (h : Hub) : Hub := (List.finRange 20).foldl (fun h x => h.uvEval x) h

/-- The warning asserts (R158, R159 steps 2 and 3, R170): cause 1 VIN, 2 OVERDRAFT. -/
def Hub.budWarnOn (h : Hub) (cause : Nat) : Hub :=
  let h := h.modBud fun b => { b with warnAt := h.clk, step6 := false, restoring := false, restTurn := 0 }
  let h := ((h.budEvt 0).bump (cntBud 0)).raise srcBud 0x3101 3 ([cause] ++ le16 h.bud.vinMeas ++ le16 h.bud.bEff)
  let h := (List.finRange 4).foldl (fun h o => h.bump (cntOut o 10)) h
  ((List.finRange 16).foldl (fun h p => h.pdInputAlert p) h).budUv

/-- Restoring starts where a consumer is shed (R160). -/
def Hub.budRestoreStart (h : Hub) : Hub :=
  h.modBud fun b => { b with restoring := b.cons.toList.any Consumer.shed, restTurn := 0 }

/-- The warning clears (R106, R158, R160, R162, R170): marks are dropped, no Alert stands for it, restoring starts. -/
def Hub.budWarnOff (h : Hub) : Hub :=
  let ms := msSince h.clk h.bud.warnAt
  let h := h.modBud fun b =>
    { b with cons := b.cons.map fun q => { q with marked := false }, clearAt := some h.clk, step6 := false }
  let h := (List.finRange 16).foldl (fun h p => h.modPde p fun e => { e with inputAlerted := false }) h
  let h := if h.bud.restoring then h else h.budRestoreStart
  ((h.budEvt 1).raise srcBud 0x3102 1 (le32 ms)).budUv

/-- The causes of the warning are set; the warning stands while either holds (R158). -/
def Hub.budSetWarn (h : Hub) (vin ovr : Bool) : Hub :=
  let was := h.budWarn
  let h := h.modBud fun b => { b with warnVin := vin, warnOver := ovr }
  if !was && h.budWarn then h.budWarnOn (if vin then 1 else 2)
  else if was && !h.budWarn then h.budWarnOff
  else h

/-! #### Sheds (R79, R136, R159) -/

/-- A consumer is shed (R154, R170): cause 1 step 6, 2 R155, 3 FAIL, 4 resolve. -/
def Hub.budShed (h : Hub) (x : PathIx) (cause : Nat) : Hub :=
  if h.consShed x then h
  else
    let c := (h.cons x).charge
    let h := ((h.budEvt 3).bump (cntBud 2)).raise srcBud 0x3103 3 ([x.val, h.prio x, cause] ++ le16 c)
    let h := h.modCons x fun q => { q with shed := true, marked := false, target := none, pOff := 0 }
    match pathPod x with
    | some p =>
      let h := h.pdShed p
      let h := if (h.tc p).srcAttached then h.modTc p fun t => { t with rpLevel := 0 } else h
      h.budSetCharge x 0
    | none => (h.vbRequestOff x).modOutlet x fun q => { q with budgetWait := false }

/-- The shed order: least urgent class first; within a class outlets O4 to O1, then pods from index 15 down (R155). -/
def Hub.shedOrder (h : Hub) : List PathIx :=
  let order : List PathIx := [19, 18, 17, 16, 15, 14, 13, 12, 11, 10, 9, 8, 7, 6, 5, 4, 3, 2, 1, 0]
  [7, 6, 5, 4, 3, 2, 1, 0].flatMap fun c => order.filter fun x => h.prio x == c

/-- The claim and restore order: class 0 first; within a class pods, then outlets, ascending (R156, R160). -/
def Hub.claimOrder (h : Hub) : List PathIx :=
  [0, 1, 2, 3, 4, 5, 6, 7].flatMap fun c => (List.finRange 20).filter fun x => h.prio x == c

/-! #### The recomputation (R155) -/

/-- One consumer of the first pass: an outlet is marked while the warning stands, a pod above 4.5 W is cut. -/
def Hub.budCut (a : Hub × Int) (x : PathIx) : Hub × Int :=
  let (h, ovr) := a
  let q := h.cons x
  if 0 < ovr && !q.shed && !q.marked && decide (0 < q.charge) then
    if 16 ≤ x.val then
      if h.budWarn then (h.modCons x fun q => { q with marked := true }, ovr - q.charge) else (h, ovr)
    else if 18 < q.charge then
      let cut := min ovr ((q.charge : Int) - 18)
      (h.modCons x fun q => { q with target := some ((q.charge : Int) - cut).toNat }, ovr - cut)
    else (h, ovr)
  else (h, ovr)

/-- Consumers shed on one edge: pods ascending, then outlets ascending, as their records and regulator requests come (R470). -/
def Hub.budShedAll (h : Hub) (cause : Nat) (pick : PathIx → Bool) : Hub :=
  (List.finRange 20).foldl (fun h x => if pick x then h.budShed x cause else h) h

/-- One pod of the second pass: it is chosen while the charges still exceed B. -/
def Hub.budShedPick (h : Hub) (a : List PathIx × Int) (x : PathIx) : List PathIx × Int :=
  let q := h.cons x
  if 0 < a.2 && x.val < 16 && !q.shed && decide (0 < q.kept) then (x :: a.1, a.2 - q.kept) else a

/-- The targets, marks and sheds of R155. -/
def Hub.budFold (h : Hub) : Hub :=
  let sum := sumBy (fun q => if q.marked then 0 else q.charge) h.bud.cons.toList
  let h := h.modBud fun b => { b with cons := b.cons.map fun q => { q with target := none } }
  let a := h.shedOrder.foldl Hub.budCut (h, (sum : Int) - h.bud.bEff)
  let chosen := (h.shedOrder.foldl a.1.budShedPick ([], a.2)).1
  a.1.budShedAll 2 chosen.contains

/-- The allowance of a consumer that is not shed (R155). -/
def Hub.allowance (h : Hub) (x : PathIx) : Nat :=
  let q := h.cons x
  if q.kept < q.charge then q.kept else q.charge + h.visible h.bud.headroom x

/-- The allowances of the consumers that are not shed, all of one evaluation (R155). -/
def Hub.budAllowances (h : Hub) : Hub :=
  h.modBud fun b =>
    { b with cons := Vector.ofFn fun x => if b.cons[x].shed then b.cons[x] else { b.cons[x] with pOff := h.allowance x } }

/-- The greatest Rp level whose implicit charge stays within an amount and which RP_MAX permits (R157). -/
def Hub.rpFor (h : Hub) (amount : Nat) : Nat :=
  if 2 ≤ h.rpMax ∧ 60 ≤ amount then 2 else if 1 ≤ h.rpMax ∧ 30 ≤ amount then 1 else 0

/-- An Rp level is advertised; I_C follows it (R121, R157). -/
def Hub.rpSet (h : Hub) (p : PodIx) (level : Nat) : Hub :=
  let h := h.modTc p fun t => { t with rpLevel := level }
  if (h.pde p).pending.isSome then h else h.vbSetIc (podPath p) (implicitCurrent level) false

/-- The Rp level of a source pod without an explicit contract (R157): lowered at once below a target or by RP_MAX; a higher level
that the charge does not yet cover is claimed first (R156). -/
def Hub.budRp (h : Hub) (p : PodIx) : Hub :=
  let x := podPath p
  let q := h.cons x
  let l := (h.tc p).rpLevel
  if !(h.tc p).srcAttached || (h.pde p).explicit || q.shed then h
  else if q.kept < implicitCharge l then
    (h.rpSet p (h.rpFor q.kept)).modCons x fun q => { q with rpLower := true }
  else if h.rpMax < l then (h.rpSet p h.rpMax).modCons x fun q => { q with rpLower := true }
  else if q.kept < q.charge then h
  else
    let want := h.rpFor (q.charge + h.visible h.headroomNow x)
    let c := implicitCharge want
    if want ≤ l then h
    else if c ≤ q.charge then (h.rpSet p want).modCons x fun q => { q with rpLower := q.rpLower && decide (c < q.charge) }
    else if h.budClaimOk x c then (h.budSetCharge x c).rpSet p want
    else h.budRefused x c

/-- RP_MAX as committed lowers a source pod's Rp at once (R157). -/
def Hub.budRpMax (h : Hub) (p : PodIx) : Hub :=
  if (h.tc p).srcAttached && !(h.pde p).explicit && !h.consShed (podPath p) && decide (h.rpMax < (h.tc p).rpLevel) then
    (h.rpSet p h.rpMax).modCons (podPath p) fun q => { q with rpLower := true }
  else h

/-- One consumer acts on its allowance, in the order of claims (R76, R134, R156, R157): a changed one reaches the pod's engine, or
lets a waiting outlet claim again; a pod's Rp level follows. `was`: the allowance before. -/
def Hub.budAct (h : Hub) (was : Nat) (x : PathIx) : Hub :=
  let changed := !h.consShed x && (h.cons x).pOff != was
  match pathPod x, pathOut x with
  | some p, _ => (if changed then h.pdReoffer p else h).budRp p
  | none, some o => if changed && (h.outlet o).budgetWait then h.outletEval o else h
  | none, none => h

/-- The time with the charges above B, counted in whole milliseconds (R171). -/
def Hub.budOverTime (h : Hub) : Hub :=
  let ovr := decide (h.bud.bEff < h.chargeSum)
  match h.bud.overSince with
  | none => if ovr then h.modBud fun b => { b with overSince := some h.clk } else h
  | some t =>
    let ms := msSince h.clk t
    (h.bumpBy (cntBud 5) ms).modBud fun b => { b with overSince := if ovr then some (t + ms * ticksPerMs) else none }

/-- A shed consumer is restored where its visible headroom covers it (R160, R170): 4.5 W for a pod, its charge for an outlet. -/
def Hub.budRestore (h : Hub) (x : PathIx) : Hub :=
  if !h.consShed x then h
  else
    let note := fun (h : Hub) =>
      ((h.modCons x fun q => { q with shed := false }).budEvt 5).raise srcBud 0x3104 1 [x.val, h.prio x]
    let vis := h.visible h.headroomNow x
    match pathPod x, pathOut x with
    | some p, _ =>
      if 18 ≤ vis then
        let h := note h
        (h.budSetCharge x (if (h.tc p).srcAttached then 18 else h.idleCharge p)).pdShedEnd p
      else h
    | none, some o => if outletCharge (h.vSet o) (h.iSet o) ≤ vis then (note h).outletEval o else h
    | none, none => h

/-- The classes whose turn has come are tried (R160). -/
def Hub.budRestorePass (h : Hub) : Hub :=
  if h.bud.restoring then
    let h := h.claimOrder.foldl (fun h x => if h.prio x < h.bud.restTurn then h.budRestore x else h) h
    h.modBud fun b => { b with restoring := b.cons.toList.any Consumer.shed }
  else h

/-- Restoring starts early: the warning's only cause, if any, is OVERDRAFT and the charges fit B again (R160). -/
def Hub.budRestoreEarly (h : Hub) : Hub :=
  if !h.bud.warnVin && !h.bud.restoring && decide (h.chargeSum ≤ h.bud.bEff) && h.bud.cons.toList.any Consumer.shed then
    h.budRestoreStart
  else h

/-- The cause OVERDRAFT (R158, R161): charges above B for another reason than VIN; it clears with the charges at or below B and
no consumer shed. -/
def Hub.budOverdraft (h : Hub) : Hub :=
  let h := if h.chargeSum ≤ h.bud.bEff then h.modBud fun b => { b with lossQuiet := false } else h
  if h.bud.plain < h.chargeSum && !h.bud.lossQuiet then h.budSetWarn h.bud.warnVin true
  else if h.bud.warnOver && decide (h.chargeSum ≤ h.bud.bEff) && !h.bud.cons.toList.any Consumer.shed then
    h.budSetWarn h.bud.warnVin false
  else h

/-- Marked outlets are shed at once after step 6 (R159). -/
def Hub.budLateMarks (h : Hub) : Hub :=
  if h.budWarn && h.bud.step6 then h.budShedAll 2 fun x => (h.cons x).marked else h

/-- BUDGET_RECOMPUTE (R155); in BUDGET's safe response B and the classes are held and claims refused, and the rest goes on (R313). -/
def Hub.budRecompute (h : Hub) : Hub :=
  let h := h.budIdle.budNewB.budOverdraft.budOverTime.budFold.budLateMarks
  let h := h.modBud fun b => { b with headroom := h.headroomNow }
  let was := h.bud.cons
  let h := h.claimOrder.foldl (fun h x => h.budAct was[x].pOff x) h.budAllowances
  h.budRestoreEarly.budRestorePass

/-! #### The brownout response (R158-R160) -/

/-- VIN_WARNING_ASSERT (R158, R159 steps 2-4): VIN_SNS is below VIN_WARN. -/
def Hub.budVinWarn (h : Hub) (vin : Nat) : Hub :=
  let h := h.budVin vin
  if h.vinWarn ≤ vin then h
  else
    let h := if h.budWarn && !h.bud.warnVin then h.modBud fun b => { b with restoring := false } else h
    (h.budSetWarn true h.bud.warnOver).budNewB

/-- VIN_FAIL_ASSERT (R158): VIN_SNS is below VIN_FAIL, which acts as VIN_WARN at or above it. -/
def Hub.budVinFail (h : Hub) (vin : Nat) : Hub :=
  let h := h.budVin vin
  if h.bud.fail || decide (h.vinFail ≤ vin) then h else ((h.modBud fun b => { b with fail := true }).budEvt 2).bump (cntBud 1)

/-- FAIL_SHED (R159 step 5). -/
def Hub.budFailShed (h : Hub) : Hub :=
  if h.bud.fail then h.budShedAll 3 fun x => decide (h.failKeep < h.prio x) else h

/-- EW_SHED (R159 step 6). -/
def Hub.budEwShed (h : Hub) : Hub :=
  if h.budWarn then
    (h.budShedAll 1 fun x => (h.cons x).marked || decide (h.boShedClass ≤ h.prio x)).modBud fun b => { b with step6 := true }
  else h

/-- One consumer of R159 step 8: it is chosen while the charges exceed B and it stands above its target. -/
def Hub.budResolvePick (h : Hub) (a : List PathIx × Nat) (x : PathIx) : List PathIx × Nat :=
  let q := h.cons x
  if decide (h.bud.bEff < a.2) && !q.shed && decide (q.kept < q.charge) then (x :: a.1, a.2 - q.charge) else a

/-- BO_RESOLVE (R159 step 8): least urgent first until the sum fits. -/
def Hub.budResolve (h : Hub) : Hub :=
  if h.budWarn then
    let chosen := (h.shedOrder.foldl h.budResolvePick ([], h.chargeSum)).1
    (List.finRange 20).foldl
      (fun h x => if chosen.contains x then ((h.budShed x 4).budEvt 4).bump (cntBud 3) else h) h
  else h

/-- VIN_WARNING_CLEAR (R158): VIN_SNS is above VIN_WARN + VIN_HYST; FAIL clears with the cause VIN. -/
def Hub.budVinClear (h : Hub) (vin : Nat) : Hub :=
  let h := h.budVin vin
  if vin ≤ h.vinWarn + h.vinHyst then h
  else ((h.modBud fun b => { b with fail := false }).budSetWarn false h.bud.warnOver).budNewB

/-- RESTORE_CLASS (R160). -/
def Hub.budRestoreClass (h : Hub) (c : Nat) : Hub :=
  if h.bud.restoring then (h.modBud fun b => { b with restTurn := max b.restTurn (c + 1) }).budRestorePass else h

/-- RP_CHARGE_LOWER (R157): tSinkAdj after Rp was lowered, the charge follows. -/
def Hub.budRpCharge (h : Hub) (p : PodIx) : Hub :=
  if (h.cons (podPath p)).rpLower && (h.tc p).srcAttached && !(h.pde p).explicit then
    h.budSetCharge (podPath p) (implicitCharge (h.tc p).rpLevel)
  else h.modCons (podPath p) fun q => { q with rpLower := false }

/-! #### The commands -/

/-- BUDGET_RECOMPUTE (R155). -/
def execBudgetRecompute (s : State) : Host.Outcome State Fault Refusal := perform s fun h => h.budRecompute

/-- RP_CHARGE_LOWER (R157). -/
def execRpChargeLower (p : PodIx) (s : State) : Host.Outcome State Fault Refusal := perform s fun h => h.budRpCharge p

/-- VIN_WARNING_ASSERT (R158). -/
def execVinWarningAssert (vin : Nat) (s : State) : Host.Outcome State Fault Refusal := perform s fun h => h.budVinWarn vin

/-- VIN_FAIL_ASSERT (R158). -/
def execVinFailAssert (vin : Nat) (s : State) : Host.Outcome State Fault Refusal := perform s fun h => h.budVinFail vin

/-- FAIL_SHED (R159). -/
def execFailShed (s : State) : Host.Outcome State Fault Refusal := perform s fun h => h.budFailShed

/-- EW_SHED (R159). -/
def execEwShed (s : State) : Host.Outcome State Fault Refusal := perform s fun h => h.budEwShed

/-- BO_RESOLVE (R159). -/
def execBoResolve (s : State) : Host.Outcome State Fault Refusal := perform s fun h => h.budResolve

/-- VIN_WARNING_CLEAR (R158). -/
def execVinWarningClear (vin : Nat) (s : State) : Host.Outcome State Fault Refusal := perform s fun h => h.budVinClear vin

/-- RESTORE_CLASS (R160). -/
def execRestoreClass (c : Fin 8) (s : State) : Host.Outcome State Fault Refusal := perform s fun h => h.budRestoreClass c.val

end Sys2Proof.Machine
end

