-- ==== Sys2Proof/Machine/Rlink.lean ====
section
/-! DEFINITION. The regulator link: order, command bytes, confirmation, retries and what the requester is told (chapter 6:
R163-R166, R169-R171; R338, R340). -/

namespace Sys2Proof.Machine

/-- A turn-off request: OPERATION 0x00 (R165). -/
def RlKind.isOff : RlKind → Bool
  | .off | .railOff => true
  | _ => false

/-- The place of a request in the order of R166: turn-offs, rails, then class and index. -/
def Hub.rlRank (h : Hub) (r : RlReq) : Nat :=
  if r.kind.isOff then 0
  else if r.owner < 20 then 1000 + 100 * (if hx : r.owner < 20 then h.prio ⟨r.owner, hx⟩ else 0) + r.owner
  else 1

/-- The queued request served next (R166): none whose owner's request is in service; equal ranks in the order queued. -/
def Hub.rlNext (h : Hub) : Option RlReq :=
  let ready := h.rl.queue.filter fun r => !(h.rl.active.any fun a => a.req.owner == r.owner)
  let best := ready.foldl (fun m r => min m (h.rlRank r)) 100000
  ready.find? fun r => h.rlRank r == best

/-- A rounded quotient. -/
def divRound (a b : Nat) : Nat := (2 * a + b) / (2 * b)

/-- VOUT_COMMAND data (R163): ULINEAR16 with the exponent of VOUT_MODE, for a voltage in 10 mV units. -/
def uLinear16 (mode : BitVec 8) (v : Nat) : Nat :=
  let e := mode.toNat % 32
  min 65535 (if 16 ≤ e then divRound (v * 2 ^ (32 - e)) 100 else divRound v (100 * 2 ^ e))

/-- IOUT_OC_FAULT_LIMIT data (R163): LINEAR11 with the finest exponent that holds the current, given in 10 mA units. -/
def linear11 (i : Nat) : Nat :=
  match (List.range 17).reverse.find? fun k => decide (divRound (i * 2 ^ k) 100 ≤ 1023) with
  | some k => (32 - k) % 32 * 2048 + divRound (i * 2 ^ k) 100
  | none => 1023

/-- Commands to a slot as they go on the bus: PAGE before each where PAGE_EN is 1 (R163). -/
def Hub.rlSeq (h : Hub) (n : Fin 32) (xs : List (Nat × Nat)) : List (Nat × Nat) :=
  if h.slotPageEn n then xs.flatMap fun x => [(0x00, h.slotPage n), x] else xs

/-- Transactions on the bus, with packet error checking as the slot's PEC_EN says (R163, R169). -/
def Hub.rlEmit (h : Hub) (n : Fin 32) (xs : List (Nat × Nat)) : Hub :=
  (xs.foldl (fun h x => h.emit (.pmbus n.val x.1 x.2 (h.slotPecEn n))) h).modRl fun l => { l with curSlot := n }

/-- Acknowledged commands to a slot (R163). -/
def Hub.rlOut (h : Hub) (n : Fin 32) (xs : List (Nat × Nat)) : Hub := h.rlEmit n (h.rlSeq n xs)

/-- The command bytes of a request (R165 step 1). -/
def Hub.rlBytes (h : Hub) (n : Fin 32) (k : RlKind) : List (Nat × Nat) :=
  let s := h.rl.slots[n]
  let clear := if s.lastRes ≠ 0 ∧ !k.isOff then [(0x03, 0)] else []
  match k with
  | .off => [(0x01, 0x00)]
  | .railOff => [(0x01, 0x00)]
  | .railOn => clear ++ [(0x01, 0x80)]
  | .voltage v => clear ++ [(0x21, uLinear16 s.voutMode v), (0x01, 0x80)]
  | .pps v i => clear ++ [(0x21, uLinear16 s.voutMode v), (0x46, linear11 i), (0x01, 0x80)]

/-- The active request of a slot, changed. -/
def Hub.modActive (h : Hub) (n : Fin 32) (f : RlActive → RlActive) : Hub :=
  h.modRl fun l => { l with active := l.active.map fun a => if a.slot = n then f a else a }

/-- A request leaves service. -/
def Hub.rlDrop (h : Hub) (n : Fin 32) : Hub := h.modRl fun l => { l with active := l.active.filter fun a => a.slot ≠ n }

/-- The request in service on a slot. -/
def Hub.rlActiveOf (h : Hub) (n : Fin 32) : Option RlActive := h.rl.active.find? fun a => a.slot == n

/-! #### What the requester is told (R165, R338, R340) -/

/-- The latest request of a rail failed, or did not (R355 RAIL_FAIL). -/
def Hub.railMark (h : Hub) (r : Fin 10) (failed : Bool) : Hub :=
  h.modSeq fun q =>
    { q with railFail := if failed then q.railFail ||| BitVec.twoPow 10 r.val else q.railFail &&& ~~~(BitVec.twoPow 10 r.val) }

/-- An entry whose rail request failed (R338): refused with REGULATOR_NO_ACK; the domain returns through EXITING, its rails are
requested on again; the wakes latched since its commit point are replayed (R337). -/
def Hub.entryRailFail (h : Hub) (n : DomIx) (r : Fin 10) : Hub :=
  let h := (h.railMark r true).modSeq fun q => { q with railsOff := [], offFor := none }
  let h := h.modDom n fun d =>
    { d with state := .exiting, prev := if d.target = .ret then .ret else .off, target := .none, committed := false, failing := false
             source := 31, exitAt := h.clk, stay := 0, fromRet := false }
  (((h.refuseNote n 5 4 0).railsRequestOn n).replayAll n).domNext

/-- The next rail of an entry is requested off (R344): descending. A rail without a slot that takes requests fails at once
(R164). -/
def Hub.railOffNext (h : Hub) (n : DomIx) : Hub :=
  match h.seq.railsOff with
  | [] => h
  | r :: _ =>
    if h.slotUsable (20 + r.val) then h.rlRequest (20 + r.val) .railOff
    else (h.rlRequest (20 + r.val) .railOff).entryRailFail n r

/-- The rails of an entry go on being turned off where an exit has kept the one that was next (R344). -/
def Hub.railsKick (h : Hub) : Hub :=
  match h.seq.offFor, h.seq.railsOff with
  | some n, r :: _ => if h.railAsked r .railOff then h else h.railOffNext n
  | _, _ => h

/-- A rail request ended (R338, R340): the confirmation of an exit that was failing delivers the wakes latched for it (R353). -/
def Hub.railDone (h : Hub) (r : Fin 10) (off ok : Bool) : Hub :=
  if off then
    let h := if ok then (h.railMark r false).modSeq fun q => { q with railOn := q.railOn &&& ~~~(BitVec.twoPow 10 r.val) } else h
    match h.seq.offFor with
    | none => h.railMark r (!ok)
    | some n =>
      if !h.seq.railsOff.contains r then h.railMark r (!ok)
      else if ok then
        ((h.modSeq fun q => { q with railsOff := q.railsOff.filter fun x => x ≠ r }).modDom n fun d =>
          { d with removed := d.removed ||| 2 ^ r.val }).railOffNext n
      else h.entryRailFail n r
  else if ok then
    let h := (h.railMark r false).modSeq fun q => { q with railOn := q.railOn ||| BitVec.twoPow 10 r.val }
    let done := (List.finRange 24).filter fun n => (h.dom n).state == .exiting && (h.dom n).failing && (h.railsNeeded n).isEmpty
    if done.isEmpty then h
    else
      let h := done.foldl (fun h n => h.modDom n fun d => { d with failing := false }) h
      (List.range 32).foldl (fun h s => h.wakeDeliver s) h
  else
    ((List.finRange 24).filter fun n => (h.dom n).state == .exiting && (h.railMask r).testBit n.val).foldl
      (fun h n => h.exitRailFail n r) (h.railMark r true)

/-- The requester is told (R165): a pod's engine of its converter, the domain sequencer of a rail. An outlet's sequencer acts on
its own sense. -/
def Hub.rlTell (h : Hub) (r : RlReq) (ok : Bool) : Hub :=
  if hp : r.owner < 16 then if ok && !r.kind.isOff then h.pdConverterDone ⟨r.owner, hp⟩ r.kind else h
  else if 20 ≤ r.owner ∧ r.owner < 30 then h.railDone ⟨(r.owner - 20) % 10, Nat.mod_lt _ (by omega)⟩ r.kind.isOff ok
  else h

/-! #### Attempts -/

/-- A request without an enabled linear slot when its turn comes fails with result 5 (R164). -/
def Hub.rlNoSlot (h : Hub) (r : RlReq) : Hub :=
  (h.modRl fun l => { l with queue := l.queue.filter fun q => q.owner ≠ r.owner }).rlFailNow r.owner |>.rlTell r false

/-- A failed attempt (R165, R169-R171): repeated up to RL_RETRY times, then reported. -/
def Hub.rlFail (h : Hub) (a : RlActive) (res : Nat) : Hub :=
  let n := a.slot
  let h := (h.rlEvt (if res = 1 then 0 else if res = 2 then 2 else if res = 3 then 1 else 3)).bump
    (cntBud (if res = 1 then 7 else if res = 2 then 9 else if res = 3 then 8 else 10))
  let h := h.modSlot n fun s => { s with lastRes := res }
  if a.attempt ≤ h.rlRetry then h.modActive n fun x => { x with redo := true }
  else
    let h := (h.rlDrop n).raise srcRl 0x3201 3 ([n.val, (h.slotAddr n).toNat, res, a.attempt] ++ le16 a.status.toNat)
    h.rlTell a.req false

/-- The reads that a slot enabled and not yet read takes first (R163). -/
def Hub.rlProbeSeq (h : Hub) (n : Fin 32) (mode rev : BitVec 8) : List (Nat × Nat) :=
  if h.rl.slots[n].probed then [] else h.rlSeq n [(0x20, mode.toNat), (0x98, rev.toNat)]

/-- VOUT_MODE and PMBUS_REVISION of a slot are recorded; only linear mode is accepted (R163, R164). -/
def Hub.rlProbed (h : Hub) (n : Fin 32) (mode rev : BitVec 8) : Hub :=
  if h.rl.slots[n].probed then h
  else
    let bad := decide (mode.toNat / 32 ≠ 0)
    let h := h.modSlot n fun s => { s with probed := true, fault := bad, voutMode := mode, rev := rev }
    if bad then h.rlEvt 5 else h

/-- One attempt of a request in service (R164, R165 step 1): `acks` transactions are acknowledged, the first one that is not ends
it with result 1. A slot that turns out not to be linear takes no request. -/
def Hub.rlAttempt (h : Hub) (a : RlActive) (acks : Nat) (mode rev : BitVec 8) : Hub :=
  let n := a.slot
  let ps := h.rlProbeSeq n mode rev
  let h := h.rlEmit n (ps.take (acks + 1))
  if acks < ps.length then h.rlFail a 1
  else
    let h := h.rlProbed n mode rev
    if !h.slotUsable a.req.owner then (h.rlDrop n).rlNoSlot a.req
    else
      let xs := h.rlSeq n (h.rlBytes n a.req.kind)
      let left := acks - ps.length
      let h := h.rlEmit n (xs.take (left + 1))
      if left < xs.length then h.rlFail a 1 else h

/-- RLINK reads a slot enabled with nothing queued (R163, R164). -/
def Hub.rlProbe (h : Hub) (n : Fin 32) (acks : Nat) (mode rev : BitVec 8) : Hub :=
  let ps := h.rlProbeSeq n mode rev
  let h := h.rlEmit n (ps.take (acks + 1))
  if acks < ps.length then h else h.rlProbed n mode rev

/-- A slot that has been enabled and not yet read. -/
def Hub.rlUnprobed (h : Hub) : Option (Fin 32) := (List.finRange 32).find? fun n => h.slotEn n && !(h.rl.slots[n]).probed

/-- RLINK_REQUEST_START (R163-R166): a failed attempt is repeated, else the next queued request is taken; its slot is read first
where that is still due. With nothing queued a newly enabled slot is read. -/
def Hub.rlStart (h : Hub) (acks : Nat) (mode rev : BitVec 8) : Hub :=
  match h.rl.active.find? RlActive.redo with
  | some a =>
    let a := { a with attempt := a.attempt + 1, redo := false, sawFault := false, sawErr := false, clean := false }
    (h.modActive a.slot fun _ => a).rlAttempt a acks mode rev
  | none =>
    match h.rlNext with
    | none => match h.rlUnprobed with
      | some n => h.rlProbe n acks mode rev
      | none => h
    | some r =>
      match h.slotOf r.owner with
      | none => h.rlNoSlot r
      | some n =>
        if !h.slotUsable r.owner then h.rlNoSlot r
        else
          let a : RlActive := { req := r, slot := n, attempt := 1 }
          (h.modRl fun l =>
            { l with queue := l.queue.filter (fun q => q.owner ≠ r.owner), active := l.active ++ [a] }).rlAttempt a acks mode rev

/-- The power-good input of a slot stands at a level, where PG_USE is 1 (R165, R338). -/
def Hub.rlPg (h : Hub) (n : Fin 32) (pg : BitVec 8) (high : Bool) : Bool :=
  !h.slotPgUse n || pg.getLsbD (h.slotPgIn n) == high

/-- STATUS_WORD bits [15:13], [11] and [6] are 0 (R165 step 3). -/
def statusClear (w : BitVec 16) : Bool := w &&& 0xE840 == 0

/-- A status fault bit: any of STATUS_WORD bits [5:1] (R165). -/
def statusFault (w : BitVec 16) : Bool := w &&& 0x003E != 0

/-- RLINK_STATUS_POLL (R165 step 2); a turn-off is not polled. -/
def Hub.rlPoll (h : Hub) (n : Fin 32) (r : Poll) (pg : BitVec 8) : Hub :=
  let h := h.modRl fun l => { l with pgIn := pg }
  match h.rlActiveOf n with
  | none => h
  | some a =>
    if a.redo || a.req.kind.isOff then h
    else
      let h := h.rlOut n [(0x79, match r with | .word w => w.toNat | _ => 0)]
      match r with
      | .word w =>
        h.modActive n fun a => { a with status := w, sawFault := a.sawFault || statusFault w, clean := statusClear w }
      | _ => h.modActive n fun a => { a with sawErr := true, clean := false }

/-- The request in service is confirmed (R165 step 3, R338). -/
def Hub.rlConfirmed (h : Hub) (a : RlActive) (pg : BitVec 8) : Bool :=
  if a.req.kind.isOff then h.rlPg a.slot pg false else a.clean && h.rlPg a.slot pg true

/-- RLINK_REQUEST_DONE (R165, R166). -/
def Hub.rlDone (h : Hub) (n : Fin 32) (pg : BitVec 8) : Hub :=
  let h := h.modRl fun l => { l with pgIn := pg }
  match h.rlActiveOf n with
  | none => h
  | some a =>
    if !a.redo && h.rlConfirmed a pg then
      ((h.rlDrop n).modSlot n fun s => { s with lastRes := 0 }).rlTell a.req true
    else h

/-- RLINK_REQUEST_TIMEOUT (R165 step 4). -/
def Hub.rlTimeout (h : Hub) (n : Fin 32) (pg : BitVec 8) : Hub :=
  let h := h.modRl fun l => { l with pgIn := pg }
  match h.rlActiveOf n with
  | none => h
  | some a =>
    if a.redo || h.rlConfirmed a pg then h
    else h.rlFail a (if a.req.kind.isOff then 3 else if a.sawFault then 2 else if a.sawErr then 4 else 3)

/-- RLINK_ALERT (R163, R166, R169, R170): the Alert Response Address and the responder's STATUS_WORD are read; no output switches.
`still`: RL_ALERT_N is still asserted after it. It raises source 23 while NVM is not ON (R345). -/
def Hub.rlAlert (h : Hub) (addr : BitVec 7) (status : BitVec 16) (still : Bool) : Hub :=
  let slot := (List.finRange 32).find? fun n => h.slotEn n && h.slotAddr n == addr
  let h := (h.modRl fun l => { l with alert := still }).emit (.pmbus 0xFF 0x0C addr.toNat false)
  let h := match slot with
    | some n => h.rlOut n [(0x79, status.toNat)]
    | none => h.emit (.pmbus 0xFF 0x79 status.toNat false)
  let no := match slot with
    | some n => n.val
    | none => 0xFF
  (((h.rlEvt 4).bump (cntBud 11)).raise srcRl 0x3202 2 ([no, addr.toNat] ++ le16 status.toNat)).wakeSource 23

/-- The enabled slot after the one monitored last. -/
def Hub.rlMonNext (h : Hub) : Option (Fin 32) :=
  ((List.finRange 32).filter fun n => h.rl.monSlot < n).find? h.slotEn |>.or ((List.finRange 32).find? h.slotEn)

/-- A request waits for the bus: queued, or an attempt to repeat (R166). -/
def Hub.rlWaiting (h : Hub) : Bool := h.rlNext.isSome || h.rl.active.any RlActive.redo

/-- RLINK_MONITOR_READ (R163, R166, R169): after every request that waits. -/
def Hub.rlMonitor (h : Hub) (vout iout : BitVec 16) (pg : BitVec 8) : Hub :=
  let h := h.modRl fun l => { l with pgIn := pg }
  if h.rlMonEn && !h.rlWaiting then
    match h.rlMonNext with
    | none => h
    | some n => (h.rlOut n [(0x8B, vout.toNat), (0x8C, iout.toNat)]).modRl fun l => { l with monSlot := n }
  else h

/-! #### The commands -/

/-- RLINK_REQUEST_START (R165). -/
def execRlinkRequestStart (acks : Nat) (mode rev : BitVec 8) (s : State) : Host.Outcome State Fault Refusal :=
  perform s fun h => h.rlStart acks mode rev

/-- RLINK_STATUS_POLL (R165). -/
def execRlinkStatusPoll (slot : Fin 32) (r : Poll) (pg : BitVec 8) (s : State) : Host.Outcome State Fault Refusal :=
  perform s fun h => h.rlPoll slot r pg

/-- RLINK_REQUEST_DONE (R165). -/
def execRlinkRequestDone (slot : Fin 32) (pg : BitVec 8) (s : State) : Host.Outcome State Fault Refusal :=
  perform s fun h => h.rlDone slot pg

/-- RLINK_REQUEST_TIMEOUT (R165). -/
def execRlinkRequestTimeout (slot : Fin 32) (pg : BitVec 8) (s : State) : Host.Outcome State Fault Refusal :=
  perform s fun h => h.rlTimeout slot pg

/-- RLINK_ALERT (R163). -/
def execRlinkAlert (addr : BitVec 7) (r : AlertRead) (s : State) : Host.Outcome State Fault Refusal :=
  perform s fun h => h.rlAlert addr r.status r.still

/-- RLINK_MONITOR_READ (R169). -/
def execRlinkMonitorRead (r : MonitorRead) (pg : BitVec 8) (s : State) : Host.Outcome State Fault Refusal :=
  perform s fun h => h.rlMonitor r.vout r.iout pg

end Sys2Proof.Machine
end

