-- ==== Sys2Proof/Machine/ParBase.lean ====
section
/-! DEFINITION. The end of parity faults, and the blocks that leave their safe response (R313, R314). -/

namespace Sys2Proof.Machine

/-- A device held for its verdict is judged now (R313). -/
def Hub.fwlPending (h : Hub) (p : PodIx) : Hub :=
  (h.sched.devs.filter fun d => d.pod == p && !d.admitted && d.cfg ≠ 0).foldl
    (fun h d => h.fwlJudge p d.addr d.whole) h

/-- A turn-on held under R139 proceeds (R314). -/
def Hub.vbRelease (h : Hub) (x : PathIx) : Hub :=
  if (h.vb x).held then
    let h := h.modVb x fun e => { e with held := false }
    if (h.vb x).state == .coolDown then h.vbCoolEnd x else h.vbTryStart x
  else h

/-- What follows when a block leaves its safe response (R313, R314). -/
def Hub.safeLeft (h : Hub) (b : Nat) : Hub :=
  if hb : 6 ≤ b ∧ b < 22 then
    let p : PodIx := ⟨b - 6, by omega⟩
    (h.vbRelease (podPath p)).fwlPending p
  else if hb : 22 ≤ b ∧ b < 26 then h.vbRelease ⟨16 + (b - 22), by omega⟩
  else if b = 31 then
    let h := (List.finRange 16).foldl (fun h p => h.fwlPending p) h
    (List.finRange 16).foldl (fun h p => if (h.pde p).state == .ready then h.authReady p else h) h
  else if b = 26 then (h.modBud fun x => { x with heldPrio := none }).inDom domBus fun h => h.budNewB
  else if b = 32 then h.csbRetarget
  else if b ≤ 3 ∧ b ≠ 0 then h.domNext
  else h

/-- A block that holds no safe fault any more leaves its safe response, once, with the time it lasted (R314, R330). -/
def Hub.safeEnd (h : Hub) (b : Nat) : Hub :=
  match h.nvm.safeAt.find? fun x => x.1 == b with
  | none => h
  | some x =>
    if h.inSafe b then h
    else
      ((h.modNvm fun n => { n with safeAt := n.safeAt.filter fun y => y.1 ≠ b }).raise srcNvm 0x8011 1
        ([b, 0, 0, 0] ++ le32 (msSince h.clk x.2))).safeLeft b

/-- The faults that satisfy a predicate end (R314); their blocks leave in the order of their numbers. -/
def Hub.parEndIf (h : Hub) (q : ParFault → Bool) : Hub :=
  let ended := h.nvm.faults.filter q
  let blocks := (List.range 35).filter fun b => ended.any fun f => blockOf f.off == b
  blocks.foldl (fun h b => h.safeEnd b) (h.modNvm fun n => { n with faults := n.faults.filter fun f => !q f })

/-- A master wrote a register (R314). `wait`: its commit group is pending, so that the fault ends with the commit, from a clean
shadow. -/
def Hub.parWritten (h : Hub) (off : Nat) (wait : Bool) : Hub :=
  if wait then
    h.modNvm fun n => { n with faults := n.faults.map fun f => if f.off = off then { f with copy := 0 } else f }
  else h.parEndIf fun f => f.off == off

end Sys2Proof.Machine
end

