-- ==== Sys2Proof/Machine/Ports.lean ====
section
/-! DEFINITION. The hub's ports and links as the host and the devices use them: connection, port requests and status, link power
and suspend, remote wake, descriptor snooping and violations (chapters 2, 3 and 7: R14-R18, R53-R56, R177, R183-R186, R192-R195,
R203). -/

namespace Sys2Proof.Machine

/-! #### Descriptors (R14, R18) -/

/-- What the hub reports of itself in its descriptors (R14). -/
structure HubDescriptor where
  nbrPorts        : Nat
  characteristics : BitVec 16
  /-- bit n: port n is not removable -/
  removable       : BitVec 16
  /-- bDeviceProtocol: of the USB 2.0 personality, its TTs -/
  deviceProtocol  : Option Nat
  /-- bHubHdrDecLat: of the SuperSpeed personality -/
  hdrDecLat       : Option Nat
  deriving DecidableEq, Repr

/-- The hub descriptor of a personality (R14): no power switching, compound, individual over-current protection, think time 8. -/
def hubDescriptor (ss : Bool) : HubDescriptor :=
  { nbrPorts := 15, characteristics := 0x000E, removable := 0x8000
    deviceProtocol := if ss then none else some 2, hdrDecLat := if ss then some 0 else none }

/-- The class of the MF's one interface, vendor-specific (R18). -/
def mfClass : Nat := 0xFF

/-- The MF's connection (R18): Gen 2x1 under a SuperSpeed upstream, else high speed. -/
def mfSpeed (ss : Bool) : Speed := if ss then .gen2x1 else .high

/-- Maximum packet of an MF endpoint by number (R18). -/
def mfMaxPacket (ss : Bool) (ep : Nat) : Nat := if ep = 0 then ep0Packet ss else mfPacket ss

/-! #### Connection -/

/-- A device may connect on a pod: it is attached, and its port is not disabled for the host, babble or POLICY. -/
def Hub.mayConnect (h : Hub) (p : PodIx) : Bool :=
  let r := (h.link p).disReason
  if isD p then (h.tc p).srcAttached && (r = 0 || r = 4) else (podUp p).any fun u => h.upsel.active == some u

/-- DEVICE_CONNECT (R17, R37, R287): receiver terminations, or a pull-up. It raises source 17 while PE is not ON (R345). -/
def Hub.deviceConnect (h : Hub) (p : PodIx) (superSpeed : Bool) : Hub :=
  let l := h.link p
  if isD p && h.mayConnect p && l.speed == .none && (h.tc p).hold.isNone then
    (h.modLink p fun l =>
      { l with onSs := superSpeed, ltssm := if superSpeed then .polling else .ssDisabled
               u2 := if superSpeed then .notConnected else .disabled }).portConnect p |>.wakeSource 17
  else h

/-- LINK_UP (R54, R187): the link reaches U0, or the USB 2.0 enabled state. An exit from U3 or suspend raises source 17 while PE
is not ON (R345). -/
def Hub.linkUpEvent (h : Hub) (p : PodIx) (speed : Speed) : Hub :=
  if (h.tc p).hold.isSome then h.holdRecover p speed
  else if speedOk p speed && h.mayConnect p then
    let woke := (h.link p).ltssm == .u3 || (h.link p).u2 == .suspended || (h.link p).u2 == .resuming
    let h := (((h.linkUpAt p speed).modTc p fun t => { t with bhAvail := t.bhAvail || isD p }).sendDeferred p).domCheck
    if woke then h.wakeSource 17 else h
  else h

/-! #### Port requests (R15, R56, R194, R195) -/

/-- The device and its data leave the port, as at every port reset (R176, R177, R194, R196). -/
def Hub.portClear (h : Hub) (p : PodIx) : Hub := (h.portFlush p).devicesGone p

/-- A port reset runs; a port disabled for POLICY stays so, and its reset ends as a failed one (R281). -/
def Hub.portReset (h : Hub) (p : PodIx) (warm : Bool) : Hub :=
  let l := h.link p
  if l.disReason = 3 then (h.modLink p fun l => { l with cReset := true }).statusChange
  else if !l.conn then h
  else
    let h := ((h.portClear p).deferForget p).modLink p fun l =>
      { l with portEn := false, disReason := 0, viols := [], resetting := true, warm := warm && l.onSs
               ltssm := if l.onSs then (if warm then .rxDetect else .hotReset) else l.ltssm
               u2 := if l.onSs then l.u2 else .resetting }
    if l.onSs && warm then h.emit (.linkCmd p.val .warmReset) else h

/-- SetPortFeature(PORT_LINK_STATE) to another state than U3 (R183). -/
def Hub.portLinkState (h : Hub) (p : PodIx) (t : Ltssm) : Hub :=
  let l := h.link p
  match t with
  | .u0 =>
    if l.speed.ss && l.ltssm.live then
      (h.modLink p fun l => { l with ltssm := .recovery, u3Exit := l.u3Exit || l.ltssm == .u3 }).bump (cntLink p 11)
    else h
  | .u1 => if l.ltssm == .u0 then ((h.modLink p fun l => { l with ltssm := .u1 }).bump (cntLink p 12)).emit (.linkCmd p.val .toU1) else h
  | .u2 => if l.ltssm == .u0 then ((h.modLink p fun l => { l with ltssm := .u2 }).bump (cntLink p 13)).emit (.linkCmd p.val .toU2) else h
  | .ssDisabled => if l.onSs && l.disReason ≠ 3 then (h.portDisable p 1).emit (.linkCmd p.val .ssDisabled) else h
  | .rxDetect =>
    if l.onSs && l.disReason ≠ 3 then
      h.modLink p fun l => { l with ltssm := .rxDetect, disReason := 0, viols := [] }
    else h
  | .compliance => if l.onSs && l.disReason ≠ 3 then h.modLink p fun l => { l with ltssm := .compliance } else h
  | _ => h

/-- ClearPortFeature of a change bit, by its number in wPortChange. -/
def Hub.clearChange (h : Hub) (p : PodIx) (bit : Nat) : Hub :=
  h.modLink p fun l =>
    match bit with
    | 0 => { l with cConn := false }
    | 1 => { l with cEnable := false }
    | 2 => { l with cSuspend := false }
    | 3 => { l with cOc := false }
    | 4 => { l with cReset := false }
    | 5 => { l with cBhReset := false }
    | 6 => { l with cLink := false }
    | _ => l

/-- ClearPortFeature(PORT_SUSPEND): a selectively suspended port resumes (R185). -/
def Hub.portResume (h : Hub) (p : PodIx) : Hub :=
  if (h.link p).u2 == .suspended && !(h.link p).treeSusp then h.modLink p fun l => { l with u2 := .resuming } else h

/-- PORT_RESET_REQUEST (R56): any bounce hold ends first, and the request then completes as for a port with no device. A pod index
that is no D pod's names port 15, the MF: its C_PORT_CONNECTION can be cleared (R24); nothing else changes there. -/
def Hub.portRequest (h : Hub) (p : PodIx) (r : PortReq) : Hub :=
  if isD p then
    let h := (match r with | .clearChange _ | .resume => h | _ => h.endHold p 2).countSetup.hubReply []
    match r with
    | .resume => h.portResume p
    | .clearChange b => h.clearChange p b.val
    | .reset => h.portReset p false
    | .warmReset => h.portReset p true
    | .linkState t => h.portLinkState p t
    | .disable => if (h.link p).portEn then h.portDisable p 1 else h
    | .clearOther => h
  else
    (if r = .clearChange 0 then h.modUpsel fun x => { x with mfChange := false } else h).countSetup.hubReply []

/-! #### GetPortStatus (R15-R17, R55, R56) -/

/-- Status bits as a number. -/
def bitsOf (l : List (Nat × Bool)) : Nat := l.foldl (fun a x => if x.2 then a + 2 ^ x.1 else a) 0

/-- SS_LTSSM code (R199). -/
def ltssmCode : Ltssm → Nat
  | .ssDisabled => 0 | .rxDetect => 1 | .ssInactive => 2 | .polling => 3 | .u0 => 4 | .u1 => 5 | .u2 => 6 | .u3 => 7
  | .recovery => 8 | .hotReset => 9 | .loopback => 10 | .compliance => 11

/-- PORT_LINK_STATE of USB 3.2. -/
def ltssmUsb : Ltssm → Nat
  | .u0 => 0 | .u1 => 1 | .u2 => 2 | .u3 => 3 | .ssDisabled => 4 | .rxDetect => 5 | .ssInactive => 6 | .polling => 7
  | .recovery => 8 | .hotReset => 9 | .compliance => 10 | .loopback => 11

/-- wPortStatus and wPortChange under the USB 2.0 hub. -/
def Hub.usb2Status (h : Hub) (p : PodIx) : Nat :=
  let l := h.link p
  let own := !l.onSs
  let u2 := l.shownU2.getD l.u2
  bitsOf
    [(0, own && l.conn), (1, own && l.portEn), (2, own && (u2 == .suspended || u2 == .resuming) && !l.treeSusp), (3, l.oc)
     , (4, own && l.resetting)
     , (5, own && u2 == .l1), (8, true), (9, own && l.speed == .low), (10, own && l.speed == .high)
     , (16, own && l.cConn), (17, own && l.cEnable), (18, own && l.cSuspend), (19, l.cOc), (20, own && l.cReset)]

/-- wPortStatus and wPortChange under the SuperSpeed hub. -/
def Hub.ssStatus (h : Hub) (p : PodIx) : Nat :=
  let l := h.link p
  let own := l.onSs
  bitsOf
    [(0, own && l.conn), (1, own && l.portEn), (3, l.oc), (4, own && l.resetting), (9, true)
     , (16, own && l.cConn), (17, own && l.cEnable), (19, l.cOc), (20, own && l.cReset), (21, own && l.cBhReset), (22, own && l.cLink)]
    + 32 * ltssmUsb (l.shown.getD l.ltssm)

/-- The upstream connection works. -/
def Hub.upstreamUp (h : Hub) : Bool :=
  match h.upsel.active with
  | some u => (h.link (upPod u)).speed != .none
  | none => false

/-- GET_PORT_STATUS: the words of both personalities. Port 15 is the MF, reported connected while the upstream connection works,
with its change bit after each reconnection (R17, R18, R24). -/
def Hub.portStatusWords (h : Hub) (port : Fin 15) : List Word :=
  if hp : port.val < 14 then
    let p : PodIx := ⟨port.val + 2, by omega⟩
    [BitVec.ofNat 32 (h.usb2Status p), BitVec.ofNat 32 (h.ssStatus p)]
  else
    let u := h.upstreamUp
    let s := h.upstreamSs
    [BitVec.ofNat 32 (bitsOf [(0, u && !s), (1, u && !s), (8, true), (10, u && !s), (16, u && !s && h.upsel.mfChange)]),
     BitVec.ofNat 32 (bitsOf [(0, u && s), (1, u && s), (9, true), (16, u && s && h.upsel.mfChange)])]

/-! #### Link power and suspend (R183-R186) -/

/-- A pod's link enters a low-power state. -/
def Hub.linkSleep (h : Hub) (p : PodIx) (toU2 : Bool) : Hub :=
  (h.modLink p fun l => { l with ltssm := if toU2 then .u2 else .u1 }).bump (cntLink p (if toU2 then 13 else 12))

/-- Nothing is stored for upstream and no request reservation is open (R183). -/
def Hub.upIdle (h : Hub) : Bool := h.upStored.isEmpty && h.sched.rsvs.isEmpty

/-- A link is in U1, U2 or U3, or holds no connection (R183). -/
def Ltssm.asleep : Ltssm → Bool
  | .u1 | .u2 | .u3 | .ssDisabled | .rxDetect | .ssInactive => true
  | _ => false

/-- Every downstream link is in U1, U2 or U3, or not in use (R183). -/
def Hub.downAsleep (h : Hub) : Bool :=
  (List.finRange 16).all fun p => !isD p || (Ltssm.asleep (h.link p).ltssm && !(h.link p).resetting)

/-- LINK_IDLE_TIMEOUT (R183): of the upstream link, where the host has enabled the state. -/
def Hub.linkIdle (h : Hub) (p : PodIx) (toU2 enabled : Bool) : Hub :=
  let l := h.link p
  let from0 := l.ltssm == .u0 || (toU2 && l.ltssm == .u1)
  let quiet := if isD p then l.down.isEmpty else enabled && h.upIdle && h.downAsleep
  if from0 && l.speed.ss && quiet then
    (h.linkSleep p toU2).emit (.linkCmd p.val (if toU2 then .toU2 else .toU1))
  else h

/-- LPM L1 on the upstream high-speed connection, forwarded to the high-speed devices below (R185). -/
def Hub.usb2L1 (h : Hub) (u : UpIx) : Hub :=
  let h := (h.modLink (upPod u) fun l => { l with u2 := .l1 }).emit (.linkCmd u.val .lau)
  ((List.finRange 16).filter isD).foldl
    (fun h p =>
      if (h.link p).speed == .high && (h.link p).u2 == .enabled then
        (h.modLink p fun l => { l with u2 := .l1 }).emit (.linkCmd p.val .toU1)
      else h) h

/-- LGO_RECEIVED (R183): accepted with LAU, or answered with LXU; on an active high-speed upstream connection, LPM L1 (R185). -/
def Hub.linkGo (h : Hub) (p : PodIx) (toU2 enabled : Bool) : Hub :=
  let l := h.link p
  if l.ltssm == .u0 then
    let ok := if isD p then l.down.isEmpty else enabled && h.upIdle
    if ok then (h.linkSleep p toU2).emit (.linkCmd p.val .lau) else h.emit (.linkCmd p.val .lxu)
  else
    match podUp p with
    | some u =>
      if !toU2 && enabled && h.upsel.active == some u && l.speed == .high && l.u2 == .enabled then h.usb2L1 u else h
    | none => h

/-- PORT_LINK_STATE_U3 (R56, R172, R184): the status stage, and the link on its way to U3. -/
def Hub.portU3 (h : Hub) (p : PodIx) : Hub :=
  if isD p then ((h.endHold p 2).countSetup.hubReply []).linkToU3 p else h.countSetup.hubReply []

/-- UPSTREAM_U3_ENTRY (R184). -/
def Hub.upstreamU3 (h : Hub) : Hub :=
  match h.upsel.active with
  | none => h
  | some u =>
    if (h.link (upPod u)).speed.ss && (h.link (upPod u)).ltssm.live && (h.link (upPod u)).ltssm != .u3 then h.upstreamSleep u
    else h

/-- UPSTREAM_U3_EXIT (R184): downstream links stay in U3. -/
def Hub.upstreamU3Exit (h : Hub) : Hub :=
  match h.upsel.active with
  | none => h
  | some u =>
    if (h.link (upPod u)).speed.ss && ((h.link (upPod u)).ltssm == .u3 || (h.link (upPod u)).ltssm == .recovery) then
      (h.modLink (upPod u) fun l => { l with ltssm := .u0 }).bump (cntLink (upPod u) 11)
    else h

/-- USB2_IDLE_SUSPEND (R185): the whole USB 2.0 tree below suspends. -/
def Hub.usb2Suspend (h : Hub) : Hub :=
  match h.upsel.active with
  | none => h
  | some u =>
    if (h.link (upPod u)).u2 == .enabled then
      let h := h.modLink (upPod u) fun l => { l with u2 := .suspended }
      ((List.finRange 16).filter isD).foldl
        (fun h p => if (h.link p).u2 == .enabled then h.modLink p fun l => { l with u2 := .suspended, treeSusp := true } else h) h
    else h

/-- PORT_SUSPEND (R172, R185): the status stage; the port is suspended. -/
def Hub.portSuspend (h : Hub) (p : PodIx) : Hub :=
  let h := h.countSetup.hubReply []
  if isD p && (h.link p).u2 == .enabled then h.modLink p fun l => { l with u2 := .suspended } else h

/-- A wake is propagated (R186, R201, R204). -/
def Hub.wakeNoted (h : Hub) (p : PodIx) : Hub := (h.linkEvt p 6).bump (cntLink p 15)

/-- The hub wakes its upstream connection (R186). -/
def Hub.wakeUpstream (h : Hub) (u : UpIx) : Hub :=
  (h.modLink (upPod u) fun l =>
    if l.speed.ss then { l with ltssm := .recovery } else { l with u2 := .resuming }).emit (.linkCmd u.val .toU0)

/-- A USB 2.0 connection resumes; one that leaves L1 was not suspended selectively (R185). -/
def Hub.linkResume (h : Hub) (p : PodIx) : Hub :=
  h.modLink p fun l => { l with u2 := .resuming, treeSusp := l.treeSusp || l.u2 == .l1 }

/-- DEVICE_REMOTE_WAKE (R186). A U3 exit or resume raises source 17 while PE is not ON (R345). -/
def Hub.remoteWake (h : Hub) (p : PodIx) (k : WakeKind) (permitted : Bool) : Hub :=
  if !isD p then h
  else
    let asleep := (k == .ssU3Exit && (h.link p).ltssm == .u3)
      || (k == .usb2Resume && ((h.link p).u2 == .suspended || (h.link p).u2 == .l1))
    let h := if asleep then h.wakeSource 17 else h
    let upSleep := fun (u : UpIx) =>
      let l := h.link (upPod u)
      if l.speed.ss then l.ltssm == .u3 else l.u2 == .suspended || l.u2 == .l1
    match k with
    | .ssU3Exit =>
      if (h.link p).ltssm == .u3 then
        let h := ((h.modLink p fun l => { l with ltssm := .u0, cLink := true }).bump (cntLink p 11)).wakeNoted p |>.statusChange
        match h.upsel.active with
        | some u => if upSleep u then h.wakeUpstream u else h
        | none => h
      else h
    | .portEvent =>
      match h.upsel.active with
      | some u => if upSleep u && permitted then (h.wakeUpstream u).wakeNoted p else h
      | none => h
    | .usb2Resume =>
      if (h.link p).u2 == .suspended || (h.link p).u2 == .l1 then
        match h.upsel.active with
        | some u =>
          if upSleep u then
            if permitted then ((h.linkResume p).wakeUpstream u).wakeNoted p else h
          else (h.linkResume p).wakeNoted p
        | none => h
      else h

/-! #### Snooping (R192-R194) -/

/-- A snoop is incomplete (R193, R203): 1 truncated, 2 configuration not read, 3 transfer not snooped. -/
def Hub.snoopLack (h : Hub) (p : PodIx) (addr why : Nat) : Hub :=
  (if why = 1 then h else (h.linkEvt p 5).modDev p addr fun d => { d with missed := true }).raise (srcLink p) 0x4005 1 [addr, why]

/-- Cells of an active endpoint in DS_NEED (R177). -/
def epNeed (e : EpDesc) : Nat :=
  if e.dirIn then 0
  else if e.ttype = 1 then
    match e.dwBpi with
    | some n => 2 * cellsOf n
    | none => 2 * (e.mult + 1) * (e.burst + 1) * cellsOf e.maxPkt
  else if e.ttype = 0 then 0
  else (e.burst + 1) * cellsOf e.maxPkt

/-- DS_NEED of a pod: EP0 and the active endpoints of its stored devices (R177, R194). -/
def Hub.dsNeedNow (h : Hub) (p : PodIx) : Nat :=
  sumBy (fun d => if d.pod = p && !d.hs && d.cfg ≠ 0 then 2 + sumBy epNeed d.active else 0) h.sched.devs

/-- DS_NEED is computed again, and the reservation sized after it (R177). -/
def Hub.dsUpdate (h : Hub) (p : PodIx) (size : Bool) : Hub :=
  let n := h.dsNeedNow p
  let h := h.modLink p fun l => { l with dsNeed := n, dsShort := decide (l.dsRsv < n) }
  if size then h.dsReserve p (min n (h.dsCap p)) else h

/-- A device is judged on what is known of it (R193, R279, R280). -/
def Hub.snoopJudge (h : Hub) (p : PodIx) (addr : Nat) : Hub :=
  match h.dev p addr with
  | none => h
  | some d => h.fwlJudge p addr d.whole

/-- A device gets an address (R192, R194). -/
def Hub.snoopAddress (h : Hub) (p : PodIx) (old new : Nat) (direct hs : Bool) : Hub :=
  let h := ((h.deviceGone p old).deviceGone p new).dsUpdate p false
  let h := if direct then h.modLink p fun l => { l with devAddr := new } else h
  if new = 0 then h
  else h.modSched fun s => { s with devs := s.devs ++ [{ pod := p, addr := new, direct := direct, hs := hs }] }

/-- A configuration set is held: up to four values per device (R193). -/
def Dev.addCfg (d : Dev) (c : CfgSet) : Dev :=
  let rest := d.cfgs.filter fun x => x.value ≠ c.value
  if rest.length < 4 then { d with cfgs := rest ++ [c] } else d

/-- One snooped transfer of a known device (R192-R194). -/
def Hub.snoopKnown (h : Hub) (p : PodIx) (addr : Nat) (direct hs : Bool) (x : SnoopXfer) : Hub :=
  match x with
  | .setAddress a => h.snoopAddress p addr a.val direct hs
  | .device d => (h.modDev p addr fun v => { v with desc := some d }).snoopJudge p addr
  | .config value complete truncated ifs =>
    if complete then
      let was := h.snoopTrunc p
      let h := h.modDev p addr fun v => v.addCfg { value := value, truncated := truncated, ifs := ifs }
      let h := if !was && h.snoopTrunc p then h.linkEvt p 4 else h
      (if truncated then h.snoopLack p addr 1 else h).snoopJudge p addr
    else h
  | .setConfiguration v =>
    if v = 0 then
      let hit := (h.dev p addr).any fun d => d.defHit
      let h := h.deviceGone p addr
      (h.modSched fun s =>
        { s with devs := s.devs ++ [{ pod := p, addr := addr, direct := direct, hs := hs, defHit := hit }] }).dsUpdate p true
    else
      let known := match h.dev p addr with
        | some d => d.cfgs.any fun c => c.value == v
        | none => false
      let h := if known then h else h.snoopLack p addr 2
      ((h.modDev p addr fun d => { d with cfg := v, alts := [] }).dsUpdate p true).snoopJudge p addr
  | .setInterface num alt =>
    let h := (h.modDev p addr fun d => { d with alts := (d.alts.filter fun a => a.1 ≠ num) ++ [(num, alt)] }).dsUpdate p true
    h.snoopJudge p addr

/-- A device is known by its address from its first transfer on (R193). -/
def Hub.devSeen (h : Hub) (p : PodIx) (addr : Nat) (direct hs : Bool) : Hub :=
  if (h.dev p addr).isSome then h
  else h.modSched fun s => { s with devs := s.devs ++ [{ pod := p, addr := addr, direct := direct, hs := hs }] }

/-- SNOOP_TRANSFER_COMPLETE (R192-R194, R280); a transfer the pod could not snoop sets SNOOP_MISS for its device, which a secure port
denies. -/
def Hub.snoop (h : Hub) (p : PodIx) (addr : Nat) (direct hs snooped : Bool) (x : SnoopXfer) : Hub :=
  if !isD p then h
  else if !snooped then
    ((h.devSeen p addr direct hs).snoopLack p addr 3).fwlJudge p addr false
  else h.snoopKnown p addr direct hs x

/-! #### Violations (R195, R203) -/

/-- The code of a violation in record 0x4001. -/
def violCode : Violation → Nat
  | .babble => 1 | .overLength => 2 | .unrequested => 3 | .ttOverLength => 4

/-- A violation is counted and journaled; USB 2.0 babble disables the port at once, other violations at BABBLE_LIMIT within 1 s
(record 0x4001). The spec states no code for one that does not disable the port: code and severity are free (log 49). -/
def Hub.violation (h : Hub) (p : PodIx) (v : Violation) (addr : Nat) : Hub :=
  if !isD p then h
  else
    let recent := h.clk :: (h.link p).viols.filter fun t => h.clk < t + ticksPerSecond
    let h := (h.modLink p fun l => { l with viols := recent.take 127 }).bump (cntLink p 10)
    let lim := h.babbleLimit p
    if v = .babble ∨ (lim ≠ 0 ∧ lim ≤ recent.length) then
      let h := ((h.portDisable p 2).modLink p fun l => { l with viols := [] }).linkEvt p 0
      h.raise (srcLink p) 0x4001 3 [violCode v, min 255 recent.length, addr]
    else
      h.raise (srcLink p) (Config.violationRecord 0 % 65536) (Config.violationRecord 1 % 8) [violCode v, min 255 recent.length, addr]

/-! #### The commands -/

/-- LINK_UP (R54). -/
def execLinkUp (p : PodIx) (speed : Speed) (s : State) : Host.Outcome State Fault Refusal :=
  onPod s p fun h => h.linkUpEvent p speed

/-- DEVICE_CONNECT (R37, R287). -/
def execDeviceConnect (p : PodIx) (superSpeed : Bool) (s : State) : Host.Outcome State Fault Refusal :=
  onPod s p fun h => h.deviceConnect p superSpeed

/-- PORT_POWER_REQUEST (R15): accepted with a normal status stage; nothing changes. -/
def execPortPowerRequest (_port : Fin 15) (_on : Bool) (s : State) : Host.Outcome State Fault Refusal :=
  onPe s fun h => h.countSetup.hubReply []

/-- PORT_RESET_REQUEST (R56). -/
def execPortResetRequest (p : PodIx) (r : PortReq) (s : State) : Host.Outcome State Fault Refusal :=
  onPe s fun h => h.portRequest p r

/-- GET_PORT_STATUS (R16, R56). -/
def execGetPortStatus (port : Fin 15) (s : State) : Host.Outcome State Fault Refusal :=
  onPe s fun h => h.countSetup.hubReply (h.portStatusWords port)

/-- LINK_IDLE_TIMEOUT (R183). -/
def execLinkIdleTimeout (p : PodIx) (t : IdleTimer) (s : State) : Host.Outcome State Fault Refusal :=
  onPod s p fun h => h.linkIdle p t.toU2 t.enabled

/-- LGO_RECEIVED (R183). -/
def execLgoReceived (p : PodIx) (toU2 enabled : Bool) (s : State) : Host.Outcome State Fault Refusal :=
  onPod s p fun h => h.linkGo p toU2 enabled

/-- PORT_LINK_STATE_U3 (R184). -/
def execPortLinkStateU3 (p : PodIx) (s : State) : Host.Outcome State Fault Refusal :=
  onPe s fun h => h.portU3 p

/-- UPSTREAM_U3_ENTRY (R184). -/
def execUpstreamU3Entry (s : State) : Host.Outcome State Fault Refusal := onPe s fun h => h.upstreamU3

/-- UPSTREAM_U3_EXIT (R184): the link logic is its pod's; source 17 wakes PE (R345). -/
def execUpstreamU3Exit (s : State) : Host.Outcome State Fault Refusal :=
  perform s fun h =>
    match h.upsel.active with
    | none => h
    | some u => if h.seq.fallback then h else h.inDom (podDom (upPod u)) fun h => h.upstreamU3Exit.wakeSource 17

/-- USB2_IDLE_SUSPEND (R185). -/
def execUsb2IdleSuspend (s : State) : Host.Outcome State Fault Refusal := onPe s fun h => h.usb2Suspend

/-- PORT_SUSPEND (R185). -/
def execPortSuspend (p : PodIx) (s : State) : Host.Outcome State Fault Refusal := onPe s fun h => h.portSuspend p

/-- DEVICE_REMOTE_WAKE (R186). -/
def execDeviceRemoteWake (p : PodIx) (k : WakeKind) (permitted : Bool) (s : State) : Host.Outcome State Fault Refusal :=
  onPod s p fun h => h.remoteWake p k permitted

/-- SNOOP_TRANSFER_COMPLETE (R192). -/
def execSnoopTransferComplete (p : PodIx) (addr : Fin 128) (direct highSpeed snooped : Bool) (x : SnoopXfer) (s : State) :
    Host.Outcome State Fault Refusal :=
  onPe s fun h => h.snoop p addr.val direct highSpeed snooped x

/-- BABBLE (R195). -/
def execBabble (p : PodIx) (v : Violation) (addr : Fin 128) (s : State) : Host.Outcome State Fault Refusal :=
  onPod s p fun h => h.violation p v addr.val

end Sys2Proof.Machine
end

