-- ==== Sys2Proof/Machine/Sched.lean ====
section
/-! DEFINITION. Pacing, the scheduler, shapers, and writes of the Endpoint Map (R207, R213, R214, R216-R218, R222-R225, R438). -/

namespace Sys2Proof.Machine

/-! #### Pacing queues (R175, R222-R225, R438) -/

/-- A snooped or classified isochronous endpoint (R222). -/
def Hub.isoEp (h : Hub) (p : PodIx) (addr ep : Nat) (dirIn : Bool) (m : MapHit) : Bool :=
  m.cls == some 1 || (h.endpoint p addr ep dirIn).any fun e => e.ttype == 1

/-- The shaper and policer conditions of R223 apply to an IN endpoint's requests: paced now, not isochronous, not SECURE. -/
def Hub.pacedNow (h : Hub) (p : PodIx) (addr ep : Nat) (m : MapHit) : Bool :=
  m.pace && !m.secure && !h.isoEp p addr ep true m

/-- The shaper projection of a queue holds (R223). -/
def Hub.shaperProjects (h : Hub) (n : QueueIx) : Bool := h.shpRate n == 0 || decide (0 ≤ (h.uq n).tokens - tok (h.pq n).out)

/-- The policer whose condition applies to a paced request (R221, R223). -/
def Hub.pacingPol (h : Hub) (m : MapHit) : Option PolIx :=
  match m.pol with
  | some k => if h.polAction k = 1 ∧ h.polRate k ≠ 0 then some k else none
  | none => none

/-- The policer condition of R223. -/
def Hub.polAllows (h : Hub) (m : MapHit) : Bool :=
  match h.pacingPol m with
  | some k => decide (0 ≤ (h.policer k).tokens)
  | none => true

/-- Cells a request reserves (R175). -/
def Hub.reqCells (h : Hub) (p : PodIx) (addr ep numP : Nat) : Nat := numP * cellsOf (h.maxPkt p addr ep true)

/-- Why the head of PQ_n is held (R223, R229 PQ_BLOCK): 0 none, 1 shaper projection, 2 policer, 3 cells, 4 gate. -/
def Hub.pqBlock (h : Hub) (n : QueueIx) (r : PaceReq) : Nat :=
  let m := h.mapFind r.pod r.addr r.ep true
  let paced := h.pacedNow r.pod r.addr r.ep m && !r.pass && !r.free
  if paced && !h.shaperProjects n then 1
  else if paced && !h.polAllows m then 2
  else if !h.canReserve r.pod r.addr r.ep n (h.reqCells r.pod r.addr r.ep r.numP) then 3
  else if !h.gateOpen 1 n && !r.pass then 4
  else 0

/-- The reservation and charges of a released request (R175, R223). -/
def Hub.reqCharge (h : Hub) (n : QueueIx) (r : PaceReq) : Hub :=
  let mp := h.maxPkt r.pod r.addr r.ep true
  let m := h.mapFind r.pod r.addr r.ep true
  let charge := mp + h.overhead n
  let pol := if h.pacedNow r.pod r.addr r.ep m && !r.free then h.pacingPol m else none
  let h := h.reserve
    { pod := r.pod, addr := r.addr, ep := r.ep, queue := n, cells := r.numP * cellsOf mp, pkts := r.numP, charge := charge
      perPkt := cellsOf mp, ovh := h.overhead n, paced := pol.isSome, counted := true, pol := pol }
  let h := h.modPq n fun q => { q with out := q.out + r.numP * charge }
  match pol with
  | some k => h.polDebitRelease k (r.numP * charge)
  | none => h

/-- The pass of an endpoint, set or used (R224). -/
def Hub.passDrop (h : Hub) (addr ep : Nat) : Hub :=
  h.modSched fun s => { s with passes := s.passes.filter fun x => x ≠ (addr, ep) }

/-- A request is released (R223, R224): forwarded with its reservation and charge; one already deferred to the host sends its
header with Deferred set and leaves a pass. A link that has left U0 meanwhile defers it (R187). -/
def Hub.reqRelease (h : Hub) (n : QueueIx) (r : PaceReq) : Hub :=
  let h := h.bump (cntPq n 3)
  if r.deferred then
    let h := (h.passDrop r.addr r.ep).modSched fun s => { s with passes := s.passes ++ [(r.addr, r.ep)] }
    if h.linkTakes r.pod then h.sendHeader r.pod r.addr r.ep true else h.deferKeep r.pod r.addr r.ep true
  else if h.linkTakes r.pod then (h.reqCharge n r).roomFreed.sendHeader r.pod r.addr r.ep false
  else h.deferral r.pod r.addr r.ep true

/-- The head of a queue begins to wait for cells (R175, R204, R227). -/
def Hub.reqWaits (h : Hub) (n : QueueIx) (r : PaceReq) : Hub :=
  let h := if h.cellLimBlocks n (h.rsvCellsIn r.pod r.addr r.ep n) (h.reqCells r.pod r.addr r.ep r.numP) then h.schedEvt 3 else h
  if r.cellAt.isSome then h
  else
    (h.bump (cntLink r.pod 16)).modPq n fun q =>
      { q with reqs := q.reqs.map fun x => if x = r then { x with cellAt := some h.clk } else x }

/-- The head of PQ_n is released if its conditions hold (R223). -/
def Hub.paceHead (h : Hub) (n : QueueIx) : Hub :=
  match (h.pq n).reqs with
  | [] => h
  | r :: rest =>
    let why := h.pqBlock n r
    if why = 0 then
      ((h.modPq n fun q => { q with reqs := rest }).reqWaited n r).reqRelease n r
    else if why = 3 then h.reqWaits n r
    else h

/-- A request of the endpoint is held (R224). -/
def Hub.reqHeld (h : Hub) (addr ep : Nat) : Bool :=
  h.sched.pq.toList.any fun q => q.reqs.any fun r => r.addr == addr && r.ep == ep

/-- A request joins PQ_n, and goes on at once where nothing holds it; a pass passes by the queue (R222-R224). -/
def Hub.reqJoin (h : Hub) (n : QueueIx) (r : PaceReq) : Hub :=
  if r.pass && h.pqBlock n r = 0 then h.reqRelease n r
  else
    let h := h.modPq n fun q => { q with reqs := q.reqs ++ [r] }
    let h := if (h.pq n).reqs.length = 1 then h.paceHead n else h
    if (h.pq n).reqs.isEmpty then h else h.bump (cntPq n 0)

/-- A request held for T_PACE_DEFER is answered with Deferred (R224). -/
def Hub.paceDefer (h : Hub) (n : QueueIx) (addr ep : Nat) : Hub :=
  if (h.pq n).reqs.any fun r => r.addr == addr && r.ep == ep && !r.deferred then
    (((h.modPq n fun q =>
        { q with reqs := q.reqs.map fun r => if r.addr = addr ∧ r.ep = ep then { r with deferred := true, pass := false } else r })
        |>.deferToHost addr ep).schedEvt 1).bump (cntPq n 2)
  else h

/-! #### Shapers (R217) -/

/-- 2^-24 bytes that a rate accrues in one 10 ns unit (R217). -/
def accrual (rate : Nat) : Int := (rate * 2097152 / 10000 : Nat)

/-- Tokens after one 10 ns unit. -/
def accrue (rate burst : Nat) (t : Int) : Int := if rate = 0 then t else min (tok (burst * 64)) (t + accrual rate)

/-- TOKEN_ACCRUAL on one shaper, with its hold times (R217, R232, R431). -/
def Hub.accrueShaper (h : Hub) (n : QueueIx) : Hub :=
  let u := h.uq n
  let h := if !u.pkts.isEmpty && h.shpRate n ≠ 0 && u.tokens < 0 then h.bump (cntUq n 3) else h
  let h := if !u.pkts.isEmpty && !h.gateOpen 0 n then h.bump (cntUq n 4) else h
  if h.shpRate n = 0 then h else h.modUq n fun u => { u with tokens := accrue (h.shpRate n) (h.shpBurst n) u.tokens }

/-- TOKEN_ACCRUAL on one policer (R217, R220). -/
def Hub.accruePol (h : Hub) (m : PolIx) : Hub :=
  if h.polRate m = 0 then h else h.modPol m fun q => q.refill (accrue (h.polRate m) (h.polBurst m) q.tokens) h.clk

/-- One 10 ns unit of every bucket. -/
def Hub.accrueAll (h : Hub) : Hub :=
  let h := (List.finRange 64).foldl (fun h n => if n = 0 then h else h.accrueShaper n) h
  (List.finRange 128).foldl (fun h m => h.accruePol m) h

/-! #### Selection (R213, R214, R216) -/

/-- The charged length of a stored packet: fixed once used, else at the queue's present OVERHEAD (R205). -/
def Hub.pktCharge (h : Hub) (n : QueueIx) (x : UpPkt) : Nat := x.charge.getD (x.bytes + h.overhead n)

/-- The active upstream pod's speed. -/
def Hub.upSpeed (h : Hub) : Speed :=
  match h.upsel.active with
  | some u => (h.link (upPod u)).speed
  | none => .none

/-- A packet can be sent before its queue's gate closes (R243). -/
def Hub.fitsGate (h : Hub) (n : QueueIx) (x : UpPkt) : Bool :=
  match h.closeTime n with
  | some t => fitsIn (h.pktCharge n x) (t - h.tb.toNat) (rate10M h.upSpeed)
  | none => true

/-- Another queue still holds an earlier packet of the same endpoint (R225). -/
def Hub.heldBack (h : Hub) (n : QueueIx) (x : UpPkt) : Bool :=
  (List.finRange 64).any fun k =>
    k ≠ n && (h.uq k).pkts.any fun y => y.src == x.src && y.addr == x.addr && y.ep == x.ep && y.dirIn == x.dirIn && y.seq < x.seq

/-- BLOCK of a queue with its head packet (R213, R229): 1 tokens, 2 gate closed, 3 does not fit, 4 held back. -/
def Hub.headBlock (h : Hub) (n : QueueIx) (x : UpPkt) : Nat :=
  if n.val = 0 then 0
  else if h.shpRate n ≠ 0 ∧ (h.uq n).tokens < 0 then 1
  else if !h.gateOpen 0 n then 2
  else if !h.fitsGate n x then 3
  else if h.heldBack n x then 4
  else 0

/-- The packet a queue offers: its oldest; in UQ_0 the oldest of the first endpoint in R216's order. -/
def uqHead (n : QueueIx) (pkts : List UpPkt) : Option UpPkt :=
  if n.val = 0 then
    (List.range 5).findSome? fun k => pkts.find? fun x => x.rank == k
  else pkts.head?

/-- The packet of an eligible queue (R213). -/
def Hub.eligible (h : Hub) (n : QueueIx) : Option UpPkt :=
  match uqHead n (h.uq n).pkts with
  | some x => if h.headBlock n x = 0 then some x else none
  | none => none

/-- A queue after `n` in the weighted group. -/
def rrNext (n : Nat) : Nat := if n < 63 then n + 1 else 4

/-- The weighted part of R214 over the eligible queues with the charges of their heads; `fuel` bounds the rounds. -/
def wrr (el : List (Nat × Nat)) (quantum : Nat → Nat) (empty : Nat → Bool) : Nat → Sched → Option Nat × Sched
  | 0, s => (none, s)
  | fuel + 1, s =>
    let q : QueueIx := ⟨s.rr % 64, Nat.mod_lt _ (by omega)⟩
    let u := s.uq[q]
    match el.find? fun e => e.1 == s.rr with
    | some (_, c) =>
      let u := if u.deficit < c && !u.visited then { u with deficit := u.deficit + quantum s.rr, visited := true } else u
      if c ≤ u.deficit then (some s.rr, { s with uq := s.uq.set q u })
      else wrr el quantum empty fuel { s with uq := s.uq.set q { u with visited := false }, rr := rrNext s.rr }
    | none =>
      let u := { u with deficit := if empty s.rr then 0 else u.deficit, visited := false }
      wrr el quantum empty fuel { s with uq := s.uq.set q u, rr := rrNext s.rr }

/-- The queue chosen at a start opportunity, with the round-robin state it leaves (R214). -/
def Hub.select (h : Hub) : Option QueueIx × Hub :=
  match ([0, 1, 2, 3] : List QueueIx).find? fun n => (h.eligible n).isSome with
  | some n => (some n, h)
  | none =>
    let el := (List.finRange 64).filterMap fun n =>
      if n.val < 4 then none else (h.eligible n).map fun x => (n.val, h.pktCharge n x)
    if el.isEmpty then (none, h)
    else
      let most := el.foldl (fun a e => max a e.2) 0
      let r := wrr el (fun n => 128 * h.weight ⟨n % 64, Nat.mod_lt _ (by omega)⟩)
        (fun n => (h.uq ⟨n % 64, Nat.mod_lt _ (by omega)⟩).pkts.isEmpty) (60 * (most / 128 + 3)) h.sched
      (r.1.map fun n => ⟨n % 64, Nat.mod_lt _ (by omega)⟩, { h with sched := r.2 })

/-- Start opportunities lost to the fit check (R243, R250, R431). -/
def Hub.noteNoFit (h : Hub) : Hub :=
  (List.finRange 64).foldl
    (fun h n => match uqHead n (h.uq n).pkts with
      | some x => if h.headBlock n x = 3 then (h.bump (cntMap 12)).bump (cntUq n 5) else h
      | none => h) h

/-- A packet leaves its queue. -/
def Hub.uqTake (h : Hub) (n : QueueIx) (x : UpPkt) : Hub :=
  h.modUq n fun u => { u with pkts := u.pkts.filter fun y => y.seq ≠ x.seq }

/-- OUTSTANDING falls by a packet's charged length (R223). -/
def Hub.outFalls (h : Hub) (n : QueueIx) (charge : Nat) : Hub := h.modPq n fun q => { q with out := q.out - charge }

/-- OUTSTANDING of the pacing queue that released a packet's request falls as the packet starts, or is discarded (R223). -/
def Hub.outStarts (h : Hub) (x : UpPkt) (charge : Nat) : Hub :=
  match x.counted with
  | some k => h.outFalls k charge
  | none => h

/-- The charges of a start (R214, R217, R223). -/
def Hub.startCharge (h : Hub) (n : QueueIx) (x : UpPkt) : Hub :=
  let c := h.pktCharge n x
  let h := h.modUq n fun u =>
    { u with tokens := if h.shpRate n = 0 then u.tokens else u.tokens - tok c
             deficit := if n.val < 4 then u.deficit else u.deficit - c }
  (h.outStarts x c).bump (cntUq n 0) |>.bumpBy (cntUq n 1) c

/-! #### The Endpoint Map written by a master (R207) -/

/-- An entry as a master's write leaves it. -/
def mapStoredWord (w : Word) : Word := (w &&& 0x8003FFFF) ||| 0x00040000

/-- The offset of a map entry. -/
def mapOff (bankB : Bool) (i : Nat) : Nat := (if bankB then 0x44000 else 0x40000) + 4 * i

/-- A held request's pacing ended with a change of its entry or policer: PACE_EN was cleared, or the policer's ACTION left PACE
(R225). -/
def Hub.paceEnded (old h : Hub) (r : PaceReq) : Bool :=
  let a := old.mapFind r.pod r.addr r.ep true
  let b := h.mapFind r.pod r.addr r.ep true
  (a.pace && !b.pace) || (b.pol.any fun k => a.pol == some k && old.polAction k == 1 && h.polAction k != 1)

/-- The requests held while their pacing ends wait for cells and the gate alone (R225). -/
def Hub.pacingLeft (old h : Hub) : Hub :=
  h.modSched fun s =>
    { s with pq := s.pq.map fun q =>
        { q with reqs := q.reqs.map fun r => if Hub.paceEnded old h r then { r with free := true } else r } }

/-- A master writes an entry (R207, R225). -/
def Hub.mapStore (h : Hub) (bankB : Bool) (i : Nat) (w : Word) : Hub :=
  (Hub.pacingLeft h (h.setMapWord bankB i (mapStoredWord w))).parWritten (mapOff bankB i) false

/-- A master's write of an entry at an address (R207, R342, R416, R417): an entry whose SECURE bit is 1 before the write is guarded as a
whole; of another one SECURE alone is, which stays 0. DESIGN CHOICE (log 104): a 0 written to it there is no denied access. -/
def Hub.mapWrite (h : Hub) (m : Master) (addr : Nat) (bankB : Bool) (i : Nat) (w : Word) : Hub :=
  let mp := h.secure m
  if !h.mayAccess m then h
  else if !mp && (h.mapWord bankB i).getLsbD 7 then h.denyAcc m addr true
  else
    let h := if !mp && w.getLsbD 7 then h.denyAcc m addr true else h
    if h.domDark domPe then h.accOff domPe
    else h.mapStore bankB i (if mp then w else w &&& ~~~0x80)

/-! #### The commands -/

/-- PACE_RELEASE (R223, R224). -/
def execPaceRelease (n : QueueIx) (s : State) : Host.Outcome State Fault Refusal := onPe s fun h => h.paceHead n

/-- PACE_DEFER_EXPIRY (R224). -/
def execPaceDeferExpiry (n : QueueIx) (addr : Fin 128) (ep : Fin 16) (s : State) : Host.Outcome State Fault Refusal :=
  onPe s fun h => h.paceDefer n addr.val ep.val

/-- PACE_PASS_EXPIRY (R224). -/
def execPacePassExpiry (addr : Fin 128) (ep : Fin 16) (s : State) : Host.Outcome State Fault Refusal :=
  onPe s fun h => h.passDrop addr.val ep.val

/-- TOKEN_ACCRUAL (R217, R220). -/
def execTokenAccrual (s : State) : Host.Outcome State Fault Refusal := onPe s fun h => h.accrueAll

end Sys2Proof.Machine
end

