-- ==== Sys2Proof/Machine/Shell.lean ====
section
/-! DEFINITION. The data path: requests, data and transaction packets, downstream payload, starts and completions on the links,
the transaction translators (R172-R182, R187, R190, R191, R195, R196, R208, R213, R219-R222, R281, R310). -/

namespace Sys2Proof.Machine

/-! #### Shared operations -/

/-- A packet from or to a blocked address is discarded (R281). -/
def Hub.blockedAt (h : Hub) (p : PodIx) (addr : Nat) : Bool := (h.fwl p).blocked.contains addr

/-- The word of a Shell or descriptor read that showed an error: the command names none. -/
def Hub.readWord (h : Hub) (n : Nat) : Nat := (Config.partWord 2 h.freeCtr).toNat % n

/-- A cell that shows a lasting error waits for its release (R310). -/
def Hub.cellFails (h : Hub) (cell : Nat) : Hub :=
  let n := h.nvm
  if h.retireEn && !n.retired.contains cell && !n.toRetire.contains cell && n.retired.length + n.toRetire.length < 256 then
    h.modNvm fun n => { n with toRetire := n.toRetire ++ [cell] }
  else h

/-- What a read of a packet's payload found, taken note of (R190, R308, R310). The uncorrectable error of a packet that the scrub has
marked is the one it found: it is not counted or recorded again (R324). -/
def Hub.payloadRead (h : Hub) (r : EccRead) (marked : Bool := false) : Hub :=
  if r = .clean || (marked && isUe r) then h
  else
    let w := h.readWord 393216
    let h := (h.drawn).eccSeen 0 w 1 r
    if lastingErr r then h.cellFails (w / 16) else h

/-- What a read of a packet's descriptor found (R191, R308, R324). -/
def Hub.descRead (h : Hub) (r : EccRead) (known : Bool := false) : Hub :=
  if r = .clean || (known && isUe r) then h else (h.drawn).eccSeen 1 (h.readWord 524288) 2 r

/-- Where Shell data lies: the packet at a place of an upstream queue, the packet that is being sent, the packet at a place of a
downstream link's store, a TT buffer. -/
inductive Holder where
  | up (n : QueueIx) (i : Nat)
  | sending
  | down (p : PodIx) (i : Nat)
  | tt (p : PodIx) (i : Nat)
  deriving DecidableEq, Repr

/-- The places of a list whose entries satisfy a predicate. -/
def placesOf {α : Type} (q : α → Bool) (l : List α) : List Nat := (List.range l.length).filter fun i => (l[i]?).any q

/-- The packets whose payload lies in Shell cells. -/
def Hub.holders (h : Hub) : List Holder :=
  ((List.finRange 64).flatMap fun n => (placesOf (fun x => x.cells != 0 || x.reserve != 0) (h.uq n).pkts).map (Holder.up n))
    ++ (if h.sched.sending.isSome then [Holder.sending] else [])
    ++ (List.finRange 16).flatMap fun p =>
      ((placesOf (fun x => x.inRsv + x.inPool != 0) (h.link p).down).map (Holder.down p))
        ++ (placesOf (fun b => b.data.isSome) (h.link p).tt).map (Holder.tt p)

/-- The packets that have a descriptor in the store. -/
def Hub.descHolders (h : Hub) : List Holder :=
  ((List.finRange 64).flatMap fun n => (placesOf (fun _ => true) (h.uq n).pkts).map (Holder.up n))
    ++ (List.finRange 16).flatMap fun p => (placesOf (fun _ => true) (h.link p).down).map (Holder.down p)

/-- A packet is marked for an uncorrectable cell (R309): it will be poisoned (R190). -/
def Hub.holderMark (h : Hub) (x : Holder) : Hub :=
  match x with
  | .up n i => h.modUq n fun q => { q with pkts := q.pkts.modify i fun y => { y with marked := true } }
  | .sending => h.modSched fun s => { s with sending := s.sending.map fun y => (y.1, { y.2 with marked := true }) }
  | .down p i => h.modLink p fun l => { l with down := l.down.modify i fun y => { y with marked := true } }
  | .tt p i => h.modLink p fun l => { l with tt := l.tt.modify i fun y => { y with marked := true } }

/-- A packet has lost its descriptor (R191). -/
def Hub.holderUnrouted (h : Hub) (x : Holder) : Hub :=
  match x with
  | .up n i => h.modUq n fun q => { q with pkts := q.pkts.modify i fun y => { y with noDesc := true } }
  | .down p i => h.modLink p fun l => { l with down := l.down.modify i fun y => { y with noDesc := true } }
  | .sending | .tt _ _ => h

/-- One cell is retired (R310, R330). -/
def Hub.cellRetire (h : Hub) (cell : Nat) : Hub :=
  let h := h.modNvm fun n => { n with retired := n.retired ++ [cell] }
  let h := if h.nvm.retired.length = 256 then h.eccEvt 11 else h
  h.raise srcNvm 0x8003 2 (le16 cell ++ le16 h.nvm.retired.length)

/-- Failing cells leave the pool at their release, and the stored list follows (R310). -/
def Hub.cellsReleased (h : Hub) : Hub :=
  if h.nvm.toRetire.isEmpty then h
  else
    let h := h.nvm.toRetire.foldl (fun h c => h.cellRetire c) h
    (h.modNvm fun n => { n with toRetire := [] }).pageStore (.config .retired)

/-- A packet is discarded for its descriptor (R191, R203): `src` its ingress pod, 16 or more for the MF and the hub. -/
def Hub.hdrDiscard (h : Hub) (src egress : Nat) : Hub :=
  if hs : src < 16 then
    let p : PodIx := ⟨src, hs⟩
    ((h.linkEvt p 2).bump (cntLink p 7)).raise (srcLink p) 0x4004 3 [src, egress]
  else h.raise srcPe 0x4004 3 [255, egress]

/-- A poisoning for a Shell error is journaled (R190, R203). -/
def Hub.shellPoison (h : Hub) (src : Nat) (egress : PodIx) (addr ep : Nat) (dirIn : Bool) : Hub :=
  h.raise (srcLink egress) 0x4003 2 [if src < 16 then src else 255, egress.val, addr, ep + (if dirIn then 128 else 0)]

/-- A poisoned packet leaves on a pod (R190). -/
def Hub.notePoison (h : Hub) (p : PodIx) : Hub := (h.linkEvt p 1).bump (cntLink p 5)

/-! #### Requests and headers from the host (R175, R178, R187, R208, R222-R224) -/

/-- No header from the host is taken while a credit is held (R178). -/
def Hub.takesHeaders (h : Hub) : Bool := h.sched.credit.isNone

/-- HOST_IN_REQUEST. -/
def Hub.hostIn (h : Hub) (p : PodIx) (addr ep numP : Nat) : Hub :=
  if !isD p || !h.takesHeaders then h
  else
    let h := h.countHostRx 0
    if h.blockedAt p addr then h.bump (cntFwl p 3)
    else
      let m := h.mapFind p addr ep true
      let h := h.noteHit p addr ep true m
      if !h.linkTakes p then h.deferral p addr ep true
      else if numP = 0 then h.sendHeader p addr ep false
      else if h.reqHeld addr ep then ((h.deferToHost addr ep).schedEvt 1).bump (cntPq m.queue 2)
      else
        let pass := h.sched.passes.contains (addr, ep)
        (h.passDrop addr ep).reqJoin m.queue { pod := p, addr := addr, ep := ep, numP := numP, pass := pass, since := h.clk }

/-- HOST_HEADER_PACKET. -/
def Hub.hostHeader (h : Hub) (p : PodIx) (addr ep : Nat) (dirIn : Bool) : Hub :=
  if !isD p || !h.takesHeaders then h
  else
    let h := h.countHostRx 0
    if h.blockedAt p addr then h.bump (cntFwl p 3)
    else if h.linkTakes p then h.sendHeader p addr ep false
    else h.deferral p addr ep dirIn

/-! #### Payload from the host (R177, R178, R190) -/

/-- HOST_OUT_DATA. -/
def Hub.hostOut (h : Hub) (p : PodIx) (addr ep bytes : Nat) (how : Arrival) : Hub :=
  if !isD p || !h.takesHeaders then h
  else
    let h := h.countHostRx bytes
    if h.blockedAt p addr then h.bump (cntFwl p 3)
    else
      let m := h.mapFind p addr ep false
      let iso := h.isoEp p addr ep false m
      let drop := h.polDiscards m.pol iso
      let h := (h.noteHit p addr ep false m).police m.pol (bytes + h.overhead m.queue)
      if drop then
        match m.pol with
        | some k => h.bump (cntPol k 2)
        | none => h
      else if !h.linkTakes p then h.deferral p addr ep false
      else
        let x : DownPkt := { addr := addr, ep := ep, bytes := bytes, damaged := how != .good, iso := iso }
        if h.downFits p x then h.downPut p x
        else (h.modSched fun s => { s with credit := some { pod := p, pkt := x } }).bump (cntMap 4)

/-- CREDIT_HOLD_EXPIRY (R178, R203): a packet that still finds no room is discarded. -/
def Hub.creditExpire (h : Hub) : Hub :=
  let h := h.creditTry
  match h.sched.credit with
  | none => h
  | some c =>
    let p := c.pod
    (((((h.modSched fun s => { s with credit := none }).linkEvt p 3).shellEvt 2).bump (cntLink p 8)).raise (srcLink p) 0x4002 2
      ([c.pkt.addr, c.pkt.ep] ++ le16 (h.link p).dsRsv ++ le16 h.poolFree)).creditEnded p

/-! #### Packets from devices (R176, R179, R181, R195, R220, R221, R223) -/

/-- A reservation shrinks by one data packet; the last of a burst, and the NumP-th packet, end it (R176). -/
def Hub.rsvShrink (h : Hub) (r : Rsv) (last : Bool) : Hub :=
  let r' := { r with cells := r.cells - r.perPkt, pkts := r.pkts - 1 }
  let h := h.modSched fun s => { s with rsvs := s.rsvs.map fun x => if x = r then r' else x }
  if last || r'.pkts = 0 then h.rsvEnd r' else h

/-- Unrequested data finds room: the pool, and the queue's limit (R195, R232). -/
def Hub.roomFor (h : Hub) (n : QueueIx) (cells : Nat) : Bool := decide (cells ≤ h.poolFree) && !h.cellLimBlocks n 0 cells

/-- A SuperSpeed data packet of a device is stored (R176, R179, R195, R220). -/
def Hub.dataIn (h : Hub) (p : PodIx) (addr ep bytes : Nat) (last : Bool) (how : Arrival) : Hub :=
  let m := h.mapFind p addr ep true
  let h := h.noteHit p addr ep true m
  let iso := h.isoEp p addr ep true m
  let c := cellsOf bytes
  let r := (h.rsvOf p addr ep).filter fun r => decide (0 < r.pkts) && decide (c ≤ r.cells)
  let charge := match r with
    | some r => bytes + r.ovh
    | none => bytes + h.overhead m.queue
  let pol := if (r.any fun r => r.paced) then none else m.pol
  let drop := h.polDiscards pol iso
  let h := h.police pol charge
  let x : UpPkt :=
    { src := p.val, addr := addr, ep := ep, bytes := bytes, cells := c, iso := iso, damaged := how != .good
      charge := if pol.isSome || r.isSome then some charge else none
      counted := r.bind fun r => if r.counted then some r.queue else none }
  let h := match r with
    | some r => h.rsvShrink r last
    | none => h
  if drop then
    match pol with
    | some k => (h.bump (cntPol k 2)).roomFreed
    | none => h
  else
    match r with
    | some _ => (h.upPut m.queue x).roomFreed
    | none =>
      let h := if h.roomFor m.queue c then h.notePool fun h => h.upPut m.queue x else h.bump (cntUq m.queue 2)
      h.violation p .unrequested addr

/-- TT data of a device fills the buffer of its start-split (R182, R195, R220, R221). -/
def Hub.ttDataIn (h : Hub) (p : PodIx) (addr ep bytes : Nat) (how : Arrival) : Hub :=
  match (h.link p).tt.find? fun b => b.addr == addr && b.ep == ep && b.dirIn && b.data.isNone with
  | none => h
  | some b =>
    if h.maxPkt p addr ep true < bytes then h.violation p .ttOverLength addr
    else
      let m := h.mapFind p addr ep true
      let h := h.noteHit p addr ep true m
      let pol := if b.pol.isSome then none else m.pol
      let charge := bytes + b.ovh
      let drop := h.polDiscards pol (h.isoEp p addr ep true m)
      let h := h.police pol charge
      if drop then
        match pol with
        | some k => (h.bump (cntPol k 2)).ttDrop p fun y => y == b
        | none => h
      else
        h.modLink p fun l =>
          { l with tt := l.tt.map fun y =>
              if y = b then
                { b with data := some bytes, damaged := how != .good, queue := m.queue, charge := some charge
                         iso := h.isoEp p addr ep true m }
              else y }

/-- DEVICE_DATA_PACKET. -/
def Hub.deviceData (h : Hub) (p : PodIx) (addr ep bytes : Nat) (last : Bool) (how : Arrival) (tt : Bool) : Hub :=
  let l := h.link p
  if !isD p || !(if tt then l.speed.usb2 && l.u2 == .enabled else l.ltssm == .u0) then h
  else
    let h := h.countRx p bytes
    if h.blockedAt p addr then h.bump (cntFwl p 3)
    else if tt then h.ttDataIn p addr ep bytes how
    else if h.maxPkt p addr ep true < bytes then h.violation p .overLength addr
    else h.dataIn p addr ep bytes last how

/-- DEVICE_TRANSACTION_PACKET (R176, R181, R220): its charge is the overhead alone, and no policer discards it. -/
def Hub.deviceTp (h : Hub) (p : PodIx) (addr ep : Nat) (dirIn : Bool) (k : TpKind) : Hub :=
  if !isD p || (h.link p).ltssm != .u0 then h
  else
    let h := h.countRx p 0
    if h.blockedAt p addr then h.bump (cntFwl p 3)
    else
      let x : UpPkt := { src := p.val, addr := addr, ep := ep, dirIn := dirIn }
      if k = .notification then h.upPut 3 x
      else
        let m := h.mapFind p addr ep dirIn
        let h := (h.noteHit p addr ep dirIn m).police m.pol (h.overhead m.queue)
        let h := if dirIn && (k = .nrdy || k = .stall) then (h.rsvEndOf p addr ep).roomFreed else h
        h.upPut m.queue { x with charge := if m.pol.isSome then some (h.overhead m.queue) else none }

/-! #### Starts and completions (R174, R179, R190, R191, R213, R214, R310) -/

/-- A start opportunity exists (R213): the active upstream works and nothing is being sent on it. -/
def Hub.startFree (h : Hub) : Option PodIx :=
  match h.upsel.active with
  | none => none
  | some u =>
    let l := h.link (upPod u)
    if (l.ltssm == .u0 || (l.speed.usb2 && l.u2 == .enabled)) && h.sched.sending.isNone then some (upPod u) else none

/-- An MF response that did not reach the host whole stands for its retry: it is again not delivered (R190, R371). -/
def Hub.mfLost (h : Hub) (x : UpPkt) : Hub :=
  match x.respSeq with
  | none => h
  | some n => h.modRing (if x.ep = 2 then 1 else 0) fun g =>
    { g with resps := g.resps.map fun y => if y.seq = n then { y with delivered := false } else y }

/-- The selected packet starts, or is discarded for its descriptor, or for damage to isochronous data (R190, R191, R214). -/
def Hub.startPacket (h : Hub) (e : PodIx) (n : QueueIx) (x : UpPkt) (payload desc : EccRead) : Hub :=
  let h := (h.uqTake n x).descRead desc x.noDesc
  let gone := h.outStarts x (h.pktCharge n x)
  if isUe desc || x.noDesc then ((gone.hdrDiscard x.src e.val).mfLost x).cellsReleased.roomFreed
  else
    let bad := isUe payload || x.marked
    if x.iso && (bad || x.damaged) then ((gone.payloadRead payload x.marked).bump (cntLink e 6)).cellsReleased.roomFreed
    else
      let h := (h.startCharge n x).payloadRead payload x.marked
      let h := if bad then h.shellPoison x.src e x.addr x.ep x.dirIn else h
      h.modSched fun s => { s with sending := some (n, { x with damaged := x.damaged || bad }), lastQ := n }

/-- START_OPPORTUNITY (R213, R214). -/
def Hub.startOpp (h : Hub) (payload desc : EccRead) : Hub :=
  match h.startFree with
  | none => h
  | some e =>
    let r := h.noteNoFit.select
    match r.1 with
    | none => r.2
    | some n =>
      match uqHead n (r.2.uq n).pkts with
      | some x => r.2.startPacket e n x payload desc
      | none => r.2

/-- A packet's last byte leaves on the upstream link. The error reads of the start and of the last word count alike (R190). -/
def Hub.upComplete (h : Hub) (p : PodIx) (payload desc : EccRead) : Hub :=
  match h.sched.sending with
  | none => h
  | some (_, x) =>
    let bad := isUe payload || x.marked
    let h := (h.modSched fun s => { s with sending := none }).descRead desc x.noDesc |>.payloadRead payload x.marked
    let h :=
      if x.iso && bad then h.bump (cntLink p 6)
      else
        let h := if bad && !x.damaged then h.shellPoison x.src p x.addr x.ep x.dirIn else h
        let h := if bad || x.damaged then h.notePoison p else h
        let h := (h.countTx p x.bytes).emit (.packet p.val x.addr x.ep x.bytes (bad || x.damaged) false)
        if bad || x.damaged then h.mfLost x else x.say.foldl Hub.emit h
    h.cellsReleased.roomFreed

/-- A packet's last byte leaves on a downstream link, or the packet is discarded (R174, R190, R191); the link goes to U3 once
what was stored has been sent (R184). -/
def Hub.downComplete (h : Hub) (p : PodIx) (payload desc : EccRead) : Hub :=
  match (h.link p).down with
  | [] => h
  | x :: rest =>
    let src := match h.upsel.active with
      | some u => u.val
      | none => 255
    let bad := isUe payload || x.marked
    let h := (h.modLink p fun l => { l with down := rest }).descRead desc x.noDesc
    let h :=
      if isUe desc || x.noDesc then h.hdrDiscard src p.val
      else
        let h := h.payloadRead payload x.marked
        if x.iso && (bad || x.damaged) then h.bump (cntLink p 6)
        else
          let h := if bad then h.shellPoison src p x.addr x.ep false else h
          let h := if bad || x.damaged then h.notePoison p else h
          (h.countTx p x.bytes).emit (.packet p.val x.addr x.ep x.bytes (bad || x.damaged) x.deferred)
    h.cellsReleased.roomFreed.u3Try p

/-- PACKET_TX_COMPLETE (R174). -/
def Hub.txComplete (h : Hub) (p : PodIx) (payload desc : EccRead) : Hub :=
  if isD p then (if (h.link p).ltssm == .u0 then h.downComplete p payload desc else h)
  else if (podUp p).any fun u => h.upsel.active == some u then h.upComplete p payload desc
  else h

/-! #### Transaction translators (R182, R189, R190, R219, R222, R243) -/

/-- A pod has a TT at work: a full- or low-speed connection. -/
def Hub.ttLive (h : Hub) (p : PodIx) : Bool := isD p && ((h.link p).speed == .full || (h.link p).speed == .low)

/-- The TT reaches its device: the port is enabled, neither suspended nor in a bounce hold (R185, R189). -/
def Hub.ttReaches (h : Hub) (p : PodIx) : Bool := (h.link p).u2 == .enabled && (h.tc p).hold.isNone

/-- A TT buffer can be had (R182). -/
def Hub.ttRoom (h : Hub) (p : PodIx) (periodic : Bool) (cells : Nat) : Bool :=
  decide (((h.link p).tt.countP fun b => b.periodic == periodic) < (if periodic then 16 else 2)) && decide (h.ttUsed p + cells ≤ 32)

/-- A non-periodic IN start-split can be released (R222, R223). -/
def Hub.ttReleasable (h : Hub) (p : PodIx) (addr ep : Nat) (m : MapHit) : Bool :=
  let paced := h.pacedNow p addr ep m
  (!paced || (h.shaperProjects m.queue && h.polAllows m)) && h.gateOpen 1 m.queue

/-- A start-split for IN (R182, R222, R223). -/
def Hub.ttStartIn (h : Hub) (p : PodIx) (addr ep : Nat) (periodic : Bool) : Hub :=
  let m := h.mapFind p addr ep true
  let h := h.noteHit p addr ep true m
  let mp := h.maxPkt p addr ep true
  let paced := !periodic && h.pacedNow p addr ep m
  if h.ttRoom p periodic (cellsOf mp) && (periodic || h.ttReleasable p addr ep m) then
    let charge := mp + h.overhead m.queue
    let pol := if paced then h.pacingPol m else none
    let h := h.modLink p fun l =>
      { l with tt := l.tt ++ [{ addr := addr, ep := ep, dirIn := true, periodic := periodic, cells := cellsOf mp, queue := m.queue
                                counted := charge, rel := m.queue, ovh := h.overhead m.queue, pol := pol }] }
    let h := h.modPq m.queue fun q => { q with out := q.out + charge }
    let h := match pol with
      | some k => h.polDebitRelease k charge
      | none => h
    if periodic then h else h.emit (.tt p.val .ack)
  else if periodic then h else h.emit (.tt p.val .nak)

/-- Isochronous data leaves the TT for its device at once: read from the Shell, discarded where it is damaged (R190), and not
sent where the device is not reached (R189). -/
def Hub.ttIsoOut (h : Hub) (p : PodIx) (addr ep bytes : Nat) (how : Arrival) (payload : EccRead) : Hub :=
  let h := (h.payloadRead payload).cellsReleased
  if how != .good || isUe payload then h.bump (cntLink p 6)
  else if h.ttReaches p then (h.countTx p bytes).emit (.packet p.val addr ep bytes false false)
  else h

/-- A start-split for OUT, with its data (R182, R190, R208); isochronous data needs no complete-split and goes on at once. -/
def Hub.ttStartOut (h : Hub) (p : PodIx) (addr ep bytes : Nat) (periodic : Bool) (how : Arrival) (payload : EccRead) : Hub :=
  let m := h.mapFind p addr ep false
  let iso := h.isoEp p addr ep false m
  let h := h.noteHit p addr ep false m
  if h.ttRoom p periodic (cellsOf bytes) then
    let drop := h.polDiscards m.pol iso
    let h := h.police m.pol (bytes + h.overhead m.queue)
    if drop then
      match m.pol with
      | some k => h.bump (cntPol k 2)
      | none => h
    else if iso then h.ttIsoOut p addr ep bytes how payload
    else
      let h := h.modLink p fun l =>
        { l with tt := l.tt ++ [{ addr := addr, ep := ep, dirIn := false, periodic := periodic, cells := cellsOf bytes
                                  data := some bytes, damaged := how != .good, queue := m.queue }] }
      if periodic then h else h.emit (.tt p.val .ack)
  else if periodic then h else h.emit (.tt p.val .nak)

/-- TT_START_SPLIT. -/
def Hub.ttStart (h : Hub) (p : PodIx) (addr ep : Nat) (dirIn periodic : Bool) (bytes : Nat) (how : Arrival) (payload : EccRead) :
    Hub :=
  if !h.ttLive p then h
  else
    let h := h.countHostRx (if dirIn then 0 else bytes)
    if h.blockedAt p addr then h.bump (cntFwl p 3)
    else if dirIn then h.ttStartIn p addr ep periodic else h.ttStartOut p addr ep bytes periodic how payload

/-- A TT buffer is used up. -/
def Hub.ttTake (h : Hub) (p : PodIx) (b : TtBuf) : Hub := h.modLink p fun l => { l with tt := l.tt.filter fun y => y ≠ b }

/-- The charged length of TT data of a device (R205). -/
def TtBuf.dataCharge (b : TtBuf) (bytes : Nat) : Nat := b.charge.getD (bytes + b.ovh)

/-- OUTSTANDING falls by TT data that leaves its buffer (R223). -/
def Hub.ttOutFalls (h : Hub) (b : TtBuf) (bytes : Nat) : Hub :=
  if b.counted = 0 then h else h.outFalls b.rel (b.dataCharge bytes)

/-- The shaper of TT data handed over is debited (R219). -/
def Hub.ttCharge (h : Hub) (b : TtBuf) (bytes : Nat) : Hub :=
  h.modUq b.queue fun u => { u with tokens := if h.shpRate b.queue = 0 then u.tokens else u.tokens - tok (b.dataCharge bytes) }

/-- TT data of a device handed over at a complete-split (R190, R219). -/
def Hub.ttHandIn (h : Hub) (p : PodIx) (b : TtBuf) (bytes : Nat) (payload : EccRead) : Hub :=
  let bad := isUe payload || b.marked
  let h := (((h.ttTake p b).ttOutFalls b bytes).payloadRead payload b.marked).cellsReleased
  match h.upsel.active with
  | none => h
  | some u =>
    let e := upPod u
    if b.iso && (bad || b.damaged) then (h.bump (cntLink e 6)).emit (.tt p.val .noAnswer)
    else
      let h := if bad then h.shellPoison p.val e b.addr b.ep true else h
      let h := if bad || b.damaged then h.notePoison e else h
      ((h.ttCharge b bytes).countTx e bytes).emit (.tt p.val (.data bytes (bad || b.damaged)))

/-- The complete-split of OUT data: poisoned data the device does not answer (R190). -/
def Hub.ttHandOut (h : Hub) (p : PodIx) (b : TtBuf) (bytes : Nat) (payload : EccRead) : Hub :=
  let bad := isUe payload || b.marked
  let h := (((h.ttTake p b).payloadRead payload b.marked).cellsReleased).countTx p bytes
  if bad || b.damaged then
    let src := match h.upsel.active with
      | some u => u.val
      | none => 255
    let h := if bad then h.shellPoison src p b.addr b.ep false else h
    ((h.notePoison p).emit (.packet p.val b.addr b.ep bytes true false)).emit (.tt p.val .error)
  else (h.emit (.packet p.val b.addr b.ep bytes false false)).emit (.tt p.val .ack)

/-- A non-periodic complete-split is held: the queue's tokens, or its gate (R219, R243). -/
def Hub.ttHeld (h : Hub) (b : TtBuf) : Bool :=
  !b.periodic && ((h.shpRate b.queue != 0 && decide ((h.uq b.queue).tokens < 0)) || !h.gateOpen 0 b.queue)

/-- TT_COMPLETE_SPLIT (R182, R189, R219). -/
def Hub.ttComplete (h : Hub) (p : PodIx) (addr ep : Nat) (dirIn : Bool) (payload : EccRead) : Hub :=
  if !h.ttLive p then h
  else
    let h := h.countHostRx 0
    if h.blockedAt p addr then h.bump (cntFwl p 3)
    else
      match (h.link p).tt.find? fun b => b.addr == addr && b.ep == ep && b.dirIn == dirIn with
      | none => h.emit (.tt p.val .nyet)
      | some b =>
        match b.data with
        | none =>
          if !h.ttReaches p then (h.ttDrop p fun y => y == b).emit (.tt p.val .noAnswer) else h.emit (.tt p.val .nyet)
        | some n =>
          if dirIn then (if h.ttHeld b then h.emit (.tt p.val .nyet) else h.ttHandIn p b n payload)
          else if !h.ttReaches p then (h.ttTake p b).emit (.tt p.val .noAnswer)
          else h.ttHandOut p b n payload

/-! #### The commands -/

/-- HOST_IN_REQUEST (R175, R208, R222). -/
def execHostInRequest (p : PodIx) (addr : Fin 128) (ep : Fin 16) (numP : Nat) (s : State) : Host.Outcome State Fault Refusal :=
  onPe s fun h => h.hostIn p addr.val ep.val numP

/-- DEVICE_DATA_PACKET (R179, R195, R220). -/
def execDeviceDataPacket (p : PodIx) (addr : Fin 128) (ep : Fin 16) (bytes : Nat) (last : Bool) (how : Arrival) (tt : Bool)
    (s : State) : Host.Outcome State Fault Refusal :=
  onPe s fun h => h.deviceData p addr.val ep.val bytes last how tt

/-- DEVICE_TRANSACTION_PACKET (R181). -/
def execDeviceTransactionPacket (p : PodIx) (addr : Fin 128) (ep : Fin 16) (dirIn : Bool) (k : TpKind) (s : State) :
    Host.Outcome State Fault Refusal :=
  onPe s fun h => h.deviceTp p addr.val ep.val dirIn k

/-- RESERVATION_IDLE_TIMEOUT (R176). -/
def execReservationIdleTimeout (p : PodIx) (addr : Fin 128) (ep : Fin 16) (s : State) : Host.Outcome State Fault Refusal :=
  onPe s fun h => (h.rsvEndOf p addr.val ep.val).roomFreed

/-- HOST_OUT_DATA (R177). -/
def execHostOutData (p : PodIx) (addr : Fin 128) (ep : Fin 16) (bytes : Nat) (how : Arrival) (s : State) :
    Host.Outcome State Fault Refusal :=
  onPe s fun h => h.hostOut p addr.val ep.val bytes how

/-- CREDIT_HOLD_EXPIRY (R178). -/
def execCreditHoldExpiry (s : State) : Host.Outcome State Fault Refusal := onPe s fun h => h.creditExpire

/-- HOST_HEADER_PACKET (R187). -/
def execHostHeaderPacket (p : PodIx) (addr : Fin 128) (ep : Fin 16) (dirIn : Bool) (s : State) : Host.Outcome State Fault Refusal :=
  onPe s fun h => h.hostHeader p addr.val ep.val dirIn

/-- START_OPPORTUNITY (R213, R214). -/
def execStartOpportunity (payload desc : EccRead) (s : State) : Host.Outcome State Fault Refusal :=
  onPe s fun h => h.startOpp payload desc

/-- PACKET_TX_COMPLETE (R174). -/
def execPacketTxComplete (p : PodIx) (payload desc : EccRead) (s : State) : Host.Outcome State Fault Refusal :=
  onPe s fun h => h.txComplete p payload desc

/-- TT_START_SPLIT (R182). -/
def execTtStartSplit (p : PodIx) (addr : Fin 128) (ep : Fin 16) (dirIn periodic : Bool) (d : SplitData) (s : State) :
    Host.Outcome State Fault Refusal :=
  onPe s fun h => h.ttStart p addr.val ep.val dirIn periodic d.bytes d.how d.payload

/-- TT_COMPLETE_SPLIT (R219). -/
def execTtCompleteSplit (p : PodIx) (addr : Fin 128) (ep : Fin 16) (dirIn : Bool) (payload : EccRead) (s : State) :
    Host.Outcome State Fault Refusal :=
  onPe s fun h => h.ttComplete p addr.val ep.val dirIn payload

/-- CLEAR_TT_BUFFER (R182). -/
def execClearTtBuffer (p : PodIx) (addr : Fin 128) (ep : Fin 16) (dirIn : Bool) (s : State) : Host.Outcome State Fault Refusal :=
  onPe s fun h => (h.ttDrop p fun b => b.addr == addr.val && b.ep == ep.val && b.dirIn == dirIn).countSetup.hubReply []

/-- RESET_TT (R182). -/
def execResetTt (p : PodIx) (s : State) : Host.Outcome State Fault Refusal :=
  onPe s fun h => (h.ttDrop p fun _ => true).countSetup.hubReply []

/-- The hub's EP0 answers with STALL (R182). -/
def Hub.hubStall (h : Hub) (p : PodIx) : Hub :=
  h.countSetup.answer 17 0 3 (ep0Packet h.upstreamSs) 0 (.tt p.val .stall)

/-- GET_TT_STATE (R182). -/
def execGetTtState (p : PodIx) (s : State) : Host.Outcome State Fault Refusal := onPe s fun h => h.hubStall p

/-- STOP_TT (R182). -/
def execStopTt (p : PodIx) (s : State) : Host.Outcome State Fault Refusal := onPe s fun h => h.hubStall p

end Sys2Proof.Machine
end

