-- ==== Sys2Proof/Machine/Time.lean ====
section
/-! DEFINITION. The timebase and the gate lists in time (chapter 9: R180, R233-R237, R240, R241, R244, R249, R250). -/

namespace Sys2Proof.Machine

/-! #### Gate lists -/

/-- The pending list takes over (R241, R249). -/
def Hub.gateTake (h : Hub) (d : DirIx) : Hub :=
  let g := h.gate d
  let len := h.adminLen d
  let cyc := h.adminCycle d
  let h := h.modGate d fun g =>
    { g with oper := g.admin, operLen := len, operCyc := cyc, valid := true, origin := g.switchT, pending := false }
  ((h.gateEvt d 1).bump (cntMap (9 + 4 * d.val))).raise srcGate 0x5110 1
    ([d.val, len, cyc, if g.adjusted then 1 else 0] ++ le32 g.adjK)

/-- A pending switch whose time has come takes place (R241, R244). -/
def Hub.gateSettle (h : Hub) (d : DirIx) : Hub :=
  if (h.gate d).pending && (h.gate d).switchT.toNat ≤ h.tb.toNat then h.gateTake d else h

/-- Both directions. -/
def Hub.gatesSettle (h : Hub) : Hub := (h.gateSettle 0).gateSettle 1

/-- The gate of the packet on the upstream link. -/
def Hub.sendingGate (h : Hub) : Bool :=
  match h.sched.sending with
  | some (n, _) => h.gateOpen 0 n
  | none => true

/-- A gate that closes while its packet is on the link, after a step or a change of GATE_EN (R244). -/
def Hub.noteOverrun (h : Hub) (was : Bool) : Hub := if was && !h.sendingGate then (h.gateEvt 0 5).bump (cntMap 11) else h

/-- GATE_SWITCH: time passes to S. -/
def Hub.gateSwitchAt (h : Hub) (d : DirIx) : Hub :=
  if (h.gate d).pending then (h.passTo (h.gate d).switchT.toNat).gatesSettle else h

/-- GATE_ENTRY_ADVANCE: time passes to the end of the entry in force, or to the switch that truncates it (R239, R241). -/
def Hub.gateAdvance (h : Hub) (d : DirIx) : Hub :=
  let g := h.gate d
  match g.entryAt h.tb.toNat with
  | none => h
  | some (_, _, left) =>
    let t := h.tb.toNat + left
    (h.passTo (if g.pending then min t g.switchT.toNat else t)).gatesSettle

/-- The next multiple of 12,500 at or above a tick count. -/
def busCeil (t : Nat) : Nat := (t + 12499) / 12500 * 12500

/-- ADMIN_APPLY at a commit (R240). -/
def Hub.gateApply (h : Hub) (d : DirIx) : Hub :=
  if (h.gate d).pending then (h.gateEvt d 3).bump (cntMap (10 + 4 * d.val))
  else
    let b := busCeil (h.gateBase d)
    let c := h.adminCycle d * 12500
    let lim := h.tb.toNat + 200
    let k := if lim ≤ b then 0 else (lim - b + c - 1) / c
    let h := if c < gateSum (gateEnts (h.gate d).admin (h.adminLen d)) then h.gateEvt d 4 else h
    let h := h.modGate d fun g =>
      { g with pending := true, switchT := BitVec.ofNat 64 (b + k * c), adjusted := decide (k ≠ 0)
               adjK := if k ≠ 0 then min k 0xFFFFFFFF else g.adjK }
    if k ≠ 0 then h.gateEvt d 0 else h

/-- CANCEL (R241). -/
def Hub.gateCancel (h : Hub) (d : DirIx) : Hub :=
  if (h.gate d).pending then (h.modGate d fun g => { g with pending := false }).gateEvt d 2 else h

/-- The first time of a grid at or after a moment, with the number of its periods (R244). -/
def rebased (origin c lim : Nat) : Nat × Nat :=
  let t := lim + ((((origin : Int) - (lim : Int)) % (c : Int)).toNat)
  (t, (t - origin) / c)

/-- A running list and a pending switch are re-based after the timebase moved (R244). -/
def Hub.gateRebase (h : Hub) (d : DirIx) : Hub :=
  let g := h.gate d
  let lim := h.tb.toNat + 200
  let h :=
    if g.valid then
      let r := rebased g.origin.toNat g.cycle lim
      (h.modGate d fun g => { g with origin := BitVec.ofNat 64 r.1, adjK := min r.2 0xFFFFFFFF }).gateEvt d 0
    else h
  if g.pending then
    let r := rebased g.switchT.toNat (h.adminCycle d * 12500) lim
    (h.modGate d fun g => { g with switchT := BitVec.ofNat 64 r.1, adjusted := true, adjK := min r.2 0xFFFFFFFF }).gateEvt d 0
  else h

/-! #### The timebase -/

/-- The discipline in force: 1 ITPs, 2 CSB, 3 none (R234), ITPs never on a worker; none in TIME's safe response (R313). -/
def Hub.discipline (h : Hub) : Nat :=
  if h.inSafe 30 then 3
  else if h.tbSrc = 0 then (if h.csb.role = 1 then 2 else 1)
  else if h.tbSrc = 1 && h.csb.role = 1 then 3
  else h.tbSrc

/-- Holdover begins (R236, R237). -/
def Hub.holdoverOn (h : Hub) : Hub :=
  if h.timing.holdover then h
  else ((h.modTiming fun t => { t with holdover := true, holdAt := h.clk }).timeEvt 2).raise srcTime 0x5103 2 [1]

/-- The time in holdover so far is counted, in milliseconds (R250). -/
def Hub.holdoverCount (h : Hub) : Hub :=
  if h.timing.holdover then
    let ms := msSince h.clk h.timing.holdAt
    (h.bumpBy (cntMap 8) ms).modTiming fun t => { t with holdAt := t.holdAt + ms * ticksPerMs }
  else h

/-- Holdover ends (R236). -/
def Hub.holdoverOff (h : Hub) : Hub :=
  if h.timing.holdover then
    ((h.holdoverCount.modTiming fun t => { t with holdover := false }).timeEvt 3).raise srcTime 0x5103 2 [0]
  else h

/-- The timebase takes a new count, with the step as STEP_TICKS shows it (R233, R246). -/
def Hub.tbSet (h : Hub) (ticks : Int) : Hub :=
  { h with tb := BitVec.ofNat 64 ((h.tb.toNat : Int) + ticks).toNat }.modTiming fun t =>
    { t with lastStep := clampInt (-2147483648) 2147483647 ticks }

/-- The timebase steps forward; pending switches it passes take place (R233, R244). -/
def Hub.tbMove (h : Hub) (ticks : Int) : Hub := ((h.tbSet ticks).gatesSettle).noteOverrun h.sendingGate

/-- The first CSB load moves the timebase (R237, R244, R285): running lists and pending switches are re-based, none takes place, and
UTC_VALID ends. -/
def Hub.tbLoad (h : Hub) (ticks : Int) : Hub :=
  ((((h.tbSet ticks).gateRebase 0).gateRebase 1).noteOverrun h.sendingGate).modSec fun c => { c with utcValid := false }

/-- A synchronisation was used: its time, and the error it left. -/
def Hub.syncNoted (h : Hub) (e : Int) : Hub := h.modTiming fun t => { t with loopErr := e, usedAt := h.clk }

/-- The first synchronisation (R235, R237, R249). -/
def Hub.firstSync (h : Hub) (src : Nat) (ticks : Int) : Hub :=
  let h := if src = 2 ∧ ticks ≠ 0 then h.tbLoad ticks else h.tbMove ticks
  let h := (h.modTiming fun t => { t with unsync := false, srcUsed := src }).syncNoted 0
  (h.timeEvt 0).raise srcTime 0x5101 1 ([src, 0] ++ le32 (twos 32 h.timing.lastStep))

/-- PHASE_ERR in ns, saturating (R246). -/
def phaseWord (e : Int) : Int := clampInt (-32768) 32767 e

/-- The trim after a phase error `e` that was `e0` at the last used synchronisation, `t` ticks ago (R235), in 0.01 ppm: it takes out
the drift between the two and the error itself, so that an equal time later the error is the remainder `r` alone, and the bounds of
40 ns (R235) and 100 ns (R237) hold against a source within the trim's range. DESIGN CHOICE (log 55): the spec states the bounds,
not the law. -/
def trimAfter (trim e e0 r : Int) (t : Nat) : Int :=
  clampInt (-20000) 20000 (trim - (2 * e - e0 - r) * 10000000 / (max 12500 t : Nat))

/-- What the n-th adjustment leaves of the error, a free value within 10 ns (R235). -/
def trimRest (n : Nat) : Int := ((Config.trimAdjust n % 21 : Nat) : Int) - 10

/-- A used synchronisation after the first: the trim, or a forward step (R235). `e` in ns, `step` in ticks. -/
def Hub.syncUsed (h : Hub) (src : Nat) (e : Int) (step : Nat) : Hub :=
  let h := h.holdoverOff.modTiming fun t => { t with phaseErr := phaseWord e, srcUsed := src }
  if e.natAbs ≤ 100 * h.tbStepThr then
    if h.trimEn then
      ((h.modTiming fun t =>
        { t with trim := trimAfter t.trim e t.loopErr (trimRest h.freeCtr) (h.clk - t.usedAt) }).drawn).syncNoted e
    else h.syncNoted e
  else
    let h := (h.tbMove step).syncNoted 0
    ((h.timeEvt 1).bump (cntMap 7)).raise srcTime 0x5102 2
      ([src, 0] ++ le32 (twos 32 h.timing.lastStep) ++ le16 (twos 16 (phaseWord e)))

/-- An offset in ns against the nearest alignment of 12,500 ticks (R235). -/
def wrapPhase (off : Int) : Int :=
  let d := off % 125000
  if d ≤ 62500 then d else d - 125000

/-- The phase error in ns against a host boundary `since` ns ago, within half a bus interval (R235); the timebase counts with its
fraction of a tick (R233). -/
def Hub.phaseOf (h : Hub) (since : Nat) : Int :=
  wrapPhase (((10 * h.tb.toNat : Nat) : Int) + 10 * h.timing.frac / 16777216 - (since : Int))

/-- An ITP disciplines the timebase (R235). -/
def Hub.itpSync (h : Hub) (delayed : Bool) (since : Nat) : Hub :=
  if h.discipline ≠ 1 then h
  else if delayed then h.bump (cntMap 6)
  else
    let h := h.bump (cntMap 5)
    let step := ((((since / 10 : Nat) : Int) - (h.tb.toNat : Int)) % 12500).toNat
    if h.timing.unsync then
      (h.holdoverOff.modTiming fun t => { t with phaseErr := phaseWord (h.phaseOf since) }).firstSync 1 step
    else h.syncUsed 1 (h.phaseOf since) step

/-- The ITP goes to every downstream SuperSpeed link in U0, ahead of all queued packets (R180). -/
def Hub.itpForward (h : Hub) (delayed : Bool) : Hub :=
  (List.finRange 16).foldl
    (fun h p =>
      if isD p && (h.link p).ltssm == .u0 && (h.tc p).hold.isNone && (h.link p).speed.ss then h.emit (.itp p.val (delayed || !(h.link p).down.isEmpty)) else h) h

/-- ITP_RECEIVED (R178, R180, R235). -/
def Hub.itpIn (h : Hub) (delayed : Bool) (since : Nat) : Hub :=
  match h.upsel.active with
  | none => h
  | some u => if (h.link (upPod u)).ltssm == .u0 && h.takesHeaders then (h.itpForward delayed).itpSync delayed since else h

/-- TB_HOLDOVER_TIMEOUT (R236). -/
def Hub.itpSilent (h : Hub) : Hub := if h.discipline = 1 && !h.timing.unsync && h.timing.srcUsed = 1 then h.holdoverOn else h

/-- The worker's offset from the manager in ns disciplines its timebase (R237): behind, it steps to the manager's time; ahead, it
aligns forward as under R235, since it never moves back (DEDUCED, log 55). -/
def Hub.csbDiscipline (h : Hub) (off : Int) : Hub :=
  if h.discipline ≠ 2 then h
  else
    let ticks := -(off / 10)
    if h.timing.unsync then (h.holdoverOff.modTiming fun t => { t with phaseErr := phaseWord off }).firstSync 2 ticks
    else if 0 < off then h.syncUsed 2 (wrapPhase off) (ticks % 12500).toNat
    else h.syncUsed 2 off ticks.toNat

/-! #### One tick of time -/

/-- The timebase runs: PE keeps its clock (R233, R333). -/
def Hub.tbRuns (h : Hub) : Bool := h.held = .none && !((h.dom domPe).state == .ret || (h.dom domPe).state == .off || (h.dom domPe).state == .exiting)

/-- CLK_TB adds 1 + trim, the fraction carried at 2^-24 tick (R233). -/
def Hub.tbTick (h : Hub) : Hub :=
  if h.tbRuns then
    let n : Int := 16777216 + h.timing.trim * 16777216 / 100000000 + h.timing.frac
    ({ h with tb := h.tb + BitVec.ofInt 64 (n / 16777216) }.modTiming fun t => { t with frac := n % 16777216 }).gatesSettle
  else h

/-- One 10 ns tick: the block's clock and the timebase; a waiting command is none. -/
def State.tick (s : State) : State :=
  let h := if s.hub.held = .none then s.hub.quiet.tbTick else s.hub.quiet
  s.put { h with clk := s.hub.clk + 1 }

/-! #### The commands -/

/-- ITP_RECEIVED (R180, R235). -/
def execItpReceived (delayed : Bool) (sinceNs : Nat) (s : State) : Host.Outcome State Fault Refusal :=
  onPe s fun h => h.itpIn delayed sinceNs

/-- TB_HOLDOVER_TIMEOUT (R236). -/
def execTbHoldoverTimeout (s : State) : Host.Outcome State Fault Refusal := onPe s fun h => h.itpSilent

/-- GATE_SWITCH (R241). -/
def execGateSwitch (d : DirIx) (s : State) : Host.Outcome State Fault Refusal := onPe s fun h => h.gateSwitchAt d

/-- GATE_ENTRY_ADVANCE (R239). -/
def execGateEntryAdvance (d : DirIx) (s : State) : Host.Outcome State Fault Refusal := onPe s fun h => h.gateAdvance d

end Sys2Proof.Machine
end

