-- ==== Sys2Proof/Machine/MbxRings.lean ====
section
/-! DEFINITION. Received command messages, their checks and slots, acknowledgements, forwarded responses (R360-R367, R369, R377,
R383, R391). -/

namespace Sys2Proof.Machine

/-! #### The checks of R362 -/

/-- A message is whole: 16 + LEN bytes, LEN at most 240. -/
def msgWhole (bs : List Byte) : Bool := decide (16 ≤ bs.length) && bs.length == 16 + u16 bs 4 && decide (u16 bs 4 ≤ 240)

/-- Its CRC matches. -/
def msgCrcOk (bs : List Byte) : Bool := (crc16 (bs.take 14 ++ bs.drop 16)).toNat == u16 bs 14

/-- A discard with FORMAT_ERR. -/
def Hub.formatErr (h : Hub) : Hub := (h.mbxEvt 1).bump (cntMbx 1)

/-- A discard with CRC_ERR. -/
def Hub.mbxCrcErr (h : Hub) : Hub := (h.mbxEvt 0).bump (cntMbx 0)

/-- A partial assembly is discarded (R374). -/
def Hub.asmDrop (h : Hub) (r : RingIx) : Hub := h.modRing r fun g => { g with asm := [], asmOpen := false }

/-- The command a whole message holds. -/
def msgOf (bs : List Byte) : Msg := { opcode := u16 bs 0, tag := BitVec.ofNat 16 (u16 bs 2), payload := bs.drop 16 }

/-! #### Acknowledgements (R366) -/

/-- Held responses that satisfy a predicate are freed; a read cursor returns to word 0 where the head changes (R366, R375). -/
def Hub.respFreeIf (h : Hub) (r : RingIx) (q : Resp → Bool) : Hub :=
  (h.modRing r fun g =>
    { g with resps := g.resps.filter fun x => !q x, cursor := if g.resps.head?.any q then 0 else g.cursor }).stallEval r

/-- REWIND (R371, R396): the delivery pointer of an MF ring to the oldest held response, the read cursor of an SMBus ring to
word 0; without effect on rings 4 and 5. -/
def Hub.ringRewind (h : Hub) (r : RingIx) : Hub :=
  if r.val ≤ 1 then h.modRing r fun g => { g with resps := g.resps.map fun x => { x with delivered := false } }
  else if r.val ≤ 3 then h.modRing r fun g => { g with cursor := 0 }
  else h

/-- The other ring of the same transport. -/
def ringPeer (r : RingIx) : Option RingIx :=
  match r.val with
  | 0 => some 1 | 1 => some 0 | 2 => some 3 | 3 => some 2 | _ => none

/-- Up to sequence number `s` (R366). -/
def seqUpTo (s seq : Nat) : Bool := decide ((s + 2 ^ 32 - seq % 2 ^ 32) % 2 ^ 32 < 2 ^ 31)

/-- INFO.RESP_ACK as it arrives (R366, R387); one whose arguments name nothing does nothing. -/
def Hub.respAck (h : Hub) (r : RingIx) (p : List Byte) : Hub :=
  let target := if byteAt p 1 = 0 then some r else if byteAt p 1 = 1 then ringPeer r else none
  match target with
  | none => h
  | some k =>
    if p.length ≠ 8 then h
    else if byteAt p 0 = 0 then h.respFreeIf k fun x => x.tag.toNat == u16 p 4
    else if byteAt p 0 = 1 then h.respFreeIf k fun x => seqUpTo (u32 p 4) x.seq
    else h

/-! #### Slots (R364, R365, R383) -/

/-- A command stored while the MP domain is not ON wakes it (R10, R345, R376): source 18 from the MF, 19 from CSB; SMBus writes
TGT = ON to DOM_20_REQ. -/
def Hub.mpWanted (h : Hub) (r : RingIx) : Hub :=
  if h.domOn domMp then h
  else if r.val ≤ 1 then h.wakeSource 18
  else if r.val ≤ 3 then ((h.setAct 0x2240 0).parWritten 0x2240 false).domRequest domMp .on false
  else if r.val = 4 then h.wakeSource 19
  else h

/-- A checked command is stored, or answered while the MP restarts (R365, R383). -/
def Hub.cmdStore (h : Hub) (r : RingIx) (m : Msg) : Hub :=
  let h := h.bump (cntRing r 0)
  if h.mbx.restarting then h.busyRestart r m.opcode m.tag false 0
  else ((h.modRing r fun g => { g with cmds := g.cmds ++ [m] }).stallEval r).mpWanted r

/-- COMMAND_CHECK: a received message is checked, and taken or discarded (R362). -/
def Hub.commandCheck (h : Hub) (r : RingIx) (bs : List Byte) : Hub :=
  if !msgWhole bs then h.formatErr
  else if !msgCrcOk bs then h.mbxCrcErr
  else if (u16 bs 6) % 2 = 1 then h.formatErr
  else
    let m := msgOf bs
    if h.tagUsed r m.tag then (h.mbxEvt 2).bump (cntMbx 2)
    else if m.opcode = 0x0102 then h.respAck r m.payload
    else if h.cmdFull r then h
    else h.cmdStore r m

/-! #### Forwarded responses (R391) -/

/-- The job that waits for a worker's response with an inner tag. -/
def Hub.fwdJob (h : Hub) (w tag : Nat) : Option (Fin 8) :=
  (List.finRange 8).find? fun j =>
    h.fwdWaits j w && (match h.mbx.jobs[j] with
      | some x => x.fwd.any fun f => f.tag.toNat == tag
      | none => false)

/-- A worker's response arrives at the manager: it is the completion of its FORWARD, or late. -/
def Hub.fwdResponse (h : Hub) (w : Nat) (bs : List Byte) : Hub :=
  match h.fwdJob w (u16 bs 2) with
  | none => h.bump (cntMbx 8)
  | some j => h.jobEnd j (if 236 < bs.length then { status := 2, detail := 0xFFFE } else { status := 0, data := bs })

end Sys2Proof.Machine
end

