-- ==== Sys2Proof/Machine/Cascade.lean ====
section
/-! DEFINITION. The cascade: frames received and sent, joining, time, grants, journal collection, firmware distribution, loss
(chapter 10: R251-R272, R276, R277). -/

namespace Sys2Proof.Machine

/-- A worker ID. -/
def workerIx (n : Nat) : HubId := ⟨n % 64, Nat.mod_lt _ (by omega)⟩

/-! #### Receiving and routing (R255-R257, R262) -/

/-- A received frame's bookkeeping: acknowledgements, the sequence number of a reliable frame, the end of the child's turn, the
neighbour's ID. -/
def Hub.csbSeen (h : Hub) (p : PodIx) (hd : CsbHdr) (reliable : Bool) : Hub :=
  let h := (h.bump (cntCsbLink p 1)).csbAcked p hd
  h.modClink p fun l =>
    { l with
      rxSeq := if reliable then hd.seq % 256 else l.rxSeq, rxAny := l.rxAny || reliable
      turn := if l.isParent then false else l.turn
      peerId := if hd.dst = 0x7E && hd.src < 64 then hd.src else l.peerId }

/-- The child's answer in its turn (R257). -/
def Hub.csbTurn (h : Hub) (p : PodIx) (hd : CsbHdr) : Hub :=
  if hd.turn && !(h.clink p).isParent && (h.clink p).up then h.csbSend p false else h

/-- The end of a child's frame ends the turn it was given (R257). -/
def Hub.csbTurnOver (h : Hub) (p : PodIx) : Hub := h.modClink p fun l => { l with turn := if l.isParent then false else l.turn }

/-- A frame is received on a link that is up (R256): a repeated reliable frame is not taken twice, though it ends the child's turn
(R257). -/
def Hub.csbRx (h : Hub) (p : PodIx) (hd : CsbHdr) (b : CsbBody) (f : Hub → Hub) : Hub :=
  let l := h.clink p
  if !l.up then h
  else if b.reliable && !l.inOrder hd.seq then (((h.bump (cntCsbLink p 1)).csbAcked p hd).csbTurnOver p).csbTurn p hd
  else (f (h.csbSeen p hd b.reliable)).csbTurn p hd

/-- A frame that goes on from a worker (R262): down its subtree, or up to the parent. -/
def Hub.csbRelay (h : Hub) (p : PodIx) (f : CsbFrame) : Hub :=
  if h.csbChildren.any fun q => (h.clink q).subtree.any fun x => x.1 == f.dst then h.csbDown f
  else if (h.clink p).isParent && h.csb.parentUp then h.csbQueue (upPod h.csb.parentPod) f
  else h

/-- A frame that travels up (R256, R262): taken by the manager, else relayed. -/
def Hub.csbUpward (h : Hub) (p : PodIx) (hd : CsbHdr) (b : CsbBody) (here : Hub → Hub) : Hub :=
  if !(h.clink p).isParent then h
  else if h.csb.role = 2 then (if hd.dst = 0 then here h else h.csbRelay p { dst := hd.dst, src := hd.src, body := b })
  else h.csbRelay p { dst := hd.dst, src := hd.src, body := b }

/-- A frame that travels down (R256, R262): taken by the hub it names, passed on by broadcast, or relayed. -/
def Hub.csbDownward (h : Hub) (p : PodIx) (hd : CsbHdr) (b : CsbBody) (here : Hub → Hub) : Hub :=
  if (h.clink p).isParent then h
  else
    let f : CsbFrame := { dst := hd.dst, src := hd.src, body := b }
    if hd.dst = 0x7F then here (h.csbBroadcast f)
    else if h.csb.joined && hd.dst = h.csb.myId then here h
    else h.csbRelay p f

/-- CSB_BAD_FRAME (R255, R257): it is discarded and counted; a child's ends the turn it was given. -/
def Hub.csbBad (h : Hub) (p : PodIx) : Hub := if (h.clink p).up then ((h.csbEvt 9).bump (cntCsbLink p 2)).csbTurnOver p else h

/-! #### Joining at the manager (R260, R261) -/

/-- The ID of a worker by the rules of R260. -/
def Hub.assignId (h : Hub) (x : Hello) : Option HubId :=
  let own := fun (w : HubId) => (h.worker w).uid == some x.uid
  let free := fun (w : HubId) => (h.worker w).uid.isNone
  let pick := fun (w : HubId) => w.val ≠ 0
  match (workerIds.find? fun w => w.val == x.id && own w) with
  | some w => some w
  | none =>
    match workerIds.find? own with
    | some w => some w
    | none =>
      if pick (workerIx x.prefId) && x.prefId < 64 && (h.worker (workerIx x.prefId)).state ≠ 1 && free (workerIx x.prefId) then
        some (workerIx x.prefId)
      else
        match workerIds.find? free with
        | some w => some w
        | none => workerIds.find? fun w => (h.worker w).state == 0

/-- The level of a hub by ID. -/
def Hub.levelOf (h : Hub) (id : Nat) : Nat := if id = 0 then 0 else (h.worker (workerIx id)).level

/-- The ID of the parent that offers a HELLO's link. -/
def offeredBy (x : Hello) : Nat := if x.parent = 0x7E then 0 else x.parent

/-- FW_OFFER to one worker (R269). -/
def Hub.fwOfferTo (h : Hub) (w : HubId) : Hub :=
  let d := h.csb.dist
  let img := (h.nvm.bank d.bank).image
  h.csbDown { dst := w.val, src := 0,
              body := .fwOffer { tag := d.tag, version := d.version, length := img.length, digest := Config.sha256 img } }

/-- A primary HELLO (R260). -/
def Hub.helloPrimary (h : Hub) (x : Hello) : Hub :=
  let level := h.levelOf (offeredBy x) + 1
  let answer := fun (id result : Nat) (h : Hub) =>
    h.csbAssignDown { uid := x.uid, id := id, level := level, tree := Config.dieUid, result := result, standby := false }
  if 4 < level + x.subDepth then answer 0 2 h
  else
    match h.assignId x with
    | none => answer 0 1 h
    | some w =>
      let stored := (h.worker w).uid == some x.uid
      let h := h.modWorker w fun v =>
        { v with state := 1, uid := some x.uid, level := level, parent := (offeredBy x), subDepth := x.subDepth, stby := false
                 fwVer := x.fwVer, floor := x.floor, hold := x.grantHold, tLoss := x.tMgrLoss, ackWait := false
                 granted := false, acked := false, issued := 0, held := x.floor }
      let h := if stored then h else h.pageStore (.config .idTable)
      let h := (answer w.val 0 h).csbRetarget
      if (h.worker w).named && (h.worker w).fw = 1 && (h.csb.dist.phase = 1 || h.csb.dist.phase = 2) then h.fwOfferTo w else h

/-- A standby HELLO (R261). -/
def Hub.helloStandby (h : Hub) (x : Hello) : Hub :=
  let level := h.levelOf (offeredBy x) + 1
  let result :=
    if x.tree ≠ Config.dieUid then 4
    else if h.below x.id 5 (workerIx (offeredBy x)) then 3
    else if 4 < level + x.subDepth then 2
    else 0
  let h := if result = 0 then h.modWorker (workerIx x.id) fun v => { v with stby := true, stbyParent := (offeredBy x) } else h
  h.csbAssignDown { uid := x.uid, id := x.id, level := level, tree := Config.dieUid, result := result, standby := true }

/-- CSB_HELLO: the parent end of the link names itself and takes the link as its child's primary or standby link; every relay
notes the way of the answer. -/
def Hub.csbHello (h : Hub) (p : PodIx) (hd : CsbHdr) (x : Hello) : Hub :=
  let near := x.parent = 0x7E
  let x := if near then { x with parent := if h.csb.role = 2 then 0 else h.csb.myId } else x
  let h := h.modClink p fun l =>
    { l with state := if near && l.isParent then (if x.standby then 2 else 1) else l.state }
  let h := (h.modCsb fun c =>
    { c with links := c.links.map fun l => { l with uids := l.uids.filter fun u => u != (x.uid, x.standby) } }).modClink p fun l =>
      { l with uids := l.uids ++ [(x.uid, x.standby)] }
  h.csbUpward p hd (.hello x) fun h => if x.standby then h.helloStandby x else h.helloPrimary x

/-! #### Joining at the worker (R259-R261, R264, R277) -/

/-- ASSIGN for this worker. -/
def Hub.assigned (h : Hub) (a : Assign) : Hub :=
  if a.standby then
    if a.result = 0 then h.modCsb fun c => { c with stby := 2, stbyLevel := a.level }
    else ((h.modCsb fun c => { c with stby := 3 }).csbEvt 1).raise srcCsb 0x9003 2 [a.result, 1]
  else if a.result = 0 then
    let h := h.modCsb fun c => { c with joined := true, myId := a.id, level := a.level, tree := a.tree, demandDue := true }
    let h := (h.csbEvt 0).raise srcCsb 0x9002 1 ([a.id, a.level, h.csb.parentPod.val, 0] ++ le32 (a.tree.toNat % 2 ^ 32))
    h.demandSend.probesResume.csbReport
  else ((h.modCsb fun c => { c with joined := false }).csbEvt 1).raise srcCsb 0x9003 2 [a.result, 0]

/-- A primary ASSIGN makes the link it came over the primary one: HELLO may have gone over whatever link is up (R271). -/
def Hub.assignedOver (h : Hub) (p : PodIx) (a : Assign) : Hub :=
  match podUp p with
  | some u =>
    if a.result = 0 && !a.standby && !h.csb.parentUp then
      ((h.modCsb fun c => { c with parentPod := u, parentUp := true, stby := 0 }).modClink p fun l => { l with state := 1 }).assigned a
    else h.assigned a
  | none => h

/-- CSB_ASSIGN: it is for the hub whose die identifier it names. -/
def Hub.csbAssign (h : Hub) (p : PodIx) (a : Assign) : Hub :=
  if (h.clink p).isParent then h
  else if a.uid = Config.dieUid then h.assignedOver p a
  else h.csbAssignDown a

/-! #### LINK (R271) -/

/-- A worker and its subtree moved to a new parent: joined as before, on their new levels. -/
def Hub.workerMoved (h : Hub) (w parent : Nat) : Hub :=
  let ws := workerIds.filter fun v => h.below w 5 v
  let old := (h.worker (workerIx w)).level
  let new := h.levelOf parent + 1
  let h := h.modWorker (workerIx w) fun v => { v with parent := parent, stby := false }
  let h := ws.foldl
    (fun h v => h.modWorker v fun x =>
      { x with level := x.level + new - old
               state := if x.state = 2 || x.state = 3 then 1 else x.state, granted := x.granted || x.acked }) h
  h.csbRetarget

/-- CSB_LINK: a child is lost where the hub that says so is still its parent. A moved worker and its subtree are reached through the segment its LINK came up, which is its primary link where
this hub is the new parent. -/
def Hub.csbLinkNote (h : Hub) (p : PodIx) (hd : CsbHdr) (k : LinkNote) : Hub :=
  let h : Hub := match k with
    | .moved w parent sub =>
      let me := if h.csb.role = 2 then 0 else h.csb.myId
      let h := if parent = me && (h.clink p).isParent then h.modClink p fun l => { l with state := 1, peerId := w % 64 } else h
      if h.csb.role = 2 then
        ((workerIds.filter fun v => h.below w 5 v).foldl (fun h v => h.csbLearn p v.val (h.worker v).level) h)
      else
        let level := match (h.clink p).subtree.find? fun x => x.1 == parent with
          | some x => x.2 + 1
          | none => h.csb.level + 1
        sub.foldl (fun h x => h.csbLearn p x.1 (level + x.2)) (h.csbLearn p w level)
    | .lost _ => h
  h.csbUpward p hd (.link k) fun h =>
    match k with
    | .lost child => if (h.worker (workerIx child)).parent = hd.src then h.subtreeLost child else h
    | .moved w parent _ => h.workerMoved w parent

/-! #### Time (R263) -/

/-- CSB_SYNC at a child: t1 and t2, and DELAY_REQ in the next turn; a refused standby link carries none (R261). -/
def Hub.csbSync (h : Hub) (p : PodIx) (t1 : Nat) : Hub :=
  if (h.clink p).isParent then h
  else
    let h := ((h.modClink p fun l => { l with t1 := t1, t2 := h.tbNs }).drawn).bump (cntCsb 0)
    if (h.clink p).state = 2 && h.csb.stby = 3 then h
    else h.csbQueue p { dst := 0x7E, src := h.csbSrc, body := .delayReq }

/-- CSB_DELAY_REQ at the parent, whose own PEER_DELAY is a free value (R263, R275; log 101). -/
def Hub.csbDelayReq (h : Hub) (p : PodIx) : Hub :=
  if (h.clink p).isParent then
    let t4 := h.tbNs
    ((h.modClink p fun l => { l with delay := Config.peerDelay h.freeCtr % 65536 }).drawn).csbQueue p
      { dst := 0x7E, src := h.csbSrc, body := .delayResp t4 }
  else h

/-- CSB_DELAY_RESP at a child: the offset disciplines the timebase over the primary link (R237, R263). -/
def Hub.csbDelayResp (h : Hub) (p : PodIx) (t4 : Nat) : Hub :=
  let l := h.clink p
  if l.isParent then h
  else
    let out : Int := (l.t2 : Int) - l.t1
    let back : Int := (t4 : Int) - l.t3
    let h := h.modClink p fun l => { l with delay := (clampInt 0 65535 ((out + back) / 2)).toNat }
    if l.state = 1 then h.csbDiscipline ((out - back) / 2) else h

/-! #### Grants (R264-R267, R271) -/

/-- CSB_GRANT at a worker (R161, R267, R277): B follows, and charges above a lowered B assert the warning. -/
def Hub.csbGrant (h : Hub) (w : Nat) : Hub :=
  let old := h.bud.grant
  let h := h.modBud fun b => { b with grant := w, grantValid := true, holding := false, floored := false }
  let h :=
    if h.csb.mgrLost then
      ((h.modCsb fun c => { c with mgrLost := false }).csbEvt 6).raise srcCsb 0x9008 1 (le32 (msSince h.clk h.csb.lossAt))
    else h
  let h := if old = w then h else h.raise srcCsb 0x900A 1 (le16 old ++ le16 w)
  (((h.modCsb fun c => { c with ackDue := true }).budNewB).budOverdraft).grantAckCheck

/-- CSB_DEMAND at the manager (R265). -/
def Hub.csbDemand (h : Hub) (w : HubId) (d : Demand) : Hub :=
  if (h.worker w).state = 1 then
    (h.modWorker w fun x => { x with demand := d.cls, charges := d.charges, granted := true }).csbRetarget
  else h

/-- CSB_GRANT_ACK at the manager (R266). -/
def Hub.csbGrantAck (h : Hub) (w : HubId) (charges : Nat) : Hub :=
  if (h.worker w).state = 1 then
    (h.modWorker w fun x =>
      { x with charges := charges, ackWait := false, acked := true, held := if x.ackWait || x.acked then x.issued else x.held }).csbRetarget
  else h

/-- GRANT_REFRESH (R266). -/
def Hub.grantsAgain (h : Hub) : Hub :=
  if h.csb.role = 2 then
    h.csbGranted.foldl (fun h w => h.csbDown { dst := w.val, src := 0, body := .grant (h.worker w).issued }) h
  else h

/-! #### Journal collection (R268) -/

/-- The absolute number of the next record of the Seedbank. -/
def Hub.jnlTotal (h : Hub) : Nat := h.nvm.wraps * 16384 + h.nvm.head

/-- The Seedbank's records with their absolute numbers, oldest first. -/
def Hub.jnlList (h : Hub) : List (Nat × Rec) :=
  let n := h.nvm
  ((n.ring.filter fun x => n.head ≤ x.1 && decide (0 < n.wraps)).map fun x => ((n.wraps - 1) * 16384 + x.1, x.2))
    ++ (n.ring.filter fun x => decide (x.1 < n.head)).map fun x => (n.wraps * 16384 + x.1, x.2)

/-- A worker's records that wait to be acknowledged (R268). -/
def Hub.jcolEligible (h : Hub) : List (Nat × Rec) :=
  if h.csb.role ≠ 1 then [] else h.jnlList.filter fun x => decide (h.csb.jcolPos ≤ x.1) && decide (h.jcolSev ≤ x.2.sev)

/-- Records overwritten before they were forwarded are counted, and the count journaled (R268, R277). -/
def Hub.jcolOverrun (h : Hub) : Hub :=
  let n := h.csb.jcolLost
  if n = 0 then h else ((h.modCsb fun c => { c with jcolLost := 0 }).bumpBy (cntCsb 6) n).raise srcCsb 0x900C 2 (le32 n)

/-- The frame of the unacknowledged records. -/
def Hub.jcolFrame (h : Hub) : Hub :=
  match h.csb.jcolSent with
  | [] => h
  | (n, r) :: rest => h.csbUp (.journal n (r :: rest.map Prod.snd))

/-- JOURNAL_FORWARD (R268): up to eight records, within JCOL_RATE. -/
def Hub.jcolForward (h : Hub) : Hub :=
  if h.csb.joined && h.csb.parentUp && !h.csb.mgrLost && h.jcolEn && h.csb.jcolSent.isEmpty then
    let h := h.jcolOverrun
    let h := if h.csb.jcolSince + ticksPerSecond ≤ h.clk then h.modCsb fun c => { c with jcolSince := h.clk, jcolRate := 0 } else h
    let xs := h.jcolEligible.take (min 8 (h.jcolRate - h.csb.jcolRate))
    if xs.isEmpty then h
    else
      ((h.modCsb fun c => { c with jcolSent := xs, jcolRate := c.jcolRate + xs.length }).bumpBy (cntCsb 5) xs.length).jcolFrame
  else h

/-- JOURNAL_REPEAT (R268). -/
def Hub.jcolRepeat (h : Hub) : Hub := if h.csb.joined && h.csb.parentUp && !h.csb.mgrLost then h.jcolFrame else h

/-- The last number of a JOURNAL frame. -/
def lastOf (first n : Nat) : Nat := first + n - 1

/-- CSB_JOURNAL at the manager (R268): the records are stored; the acknowledgement follows the stores. -/
def Hub.csbJournal (h : Hub) (w first : Nat) (rs : List Rec) : Hub :=
  let last := lastOf first rs.length
  if rs.isEmpty || h.csb.jcolAcks.any fun a => a.1 == w && a.2.1 == last then h
  else
    let rs := rs.map fun r => { r with devId := if r.devId = 0 then w else r.devId, flags := r.flags ||| 4 }
    rs.foldl (fun h r => h.recordStore r) (h.modCsb fun c => { c with jcolAcks := c.jcolAcks ++ [(w, last, rs)] })

/-- CSB_JOURNAL_ACK at a worker (R268). -/
def Hub.csbJournalAck (h : Hub) (last : Nat) : Hub :=
  match h.csb.jcolSent with
  | [] => h
  | (n, _) :: _ =>
    let abs := h.csb.jcolSent.foldl (fun a x => max a x.1) 0
    if lastOf n h.csb.jcolSent.length = last then h.modCsb fun c => { c with jcolSent := [], jcolPos := abs + 1 } else h

/-! #### Firmware distribution (R269, R270) -/

/-- The workers a distribution names. -/
def Hub.fwNamed (h : Hub) : List HubId := workerIds.filter fun w => (h.worker w).named

/-- The distribution halts (R270). -/
def Hub.fwHalt (h : Hub) (w : HubId) (cause : Nat) : Hub :=
  ((h.modCsb fun c => { c with dist := { c.dist with phase := 5 } }).csbEvt 10).raise srcCsb 0x900B 4 [w.val, cause]

/-- The next batch of READY workers is activated; with none left the distribution is done (R269). -/
def Hub.fwBatchNext (h : Hub) : Hub :=
  match (h.fwNamed.filter fun w => (h.worker w).fw == 2).take h.fwBatch with
  | [] => h.modCsb fun c => { c with dist := { c.dist with phase := 4 } }
  | w :: ws =>
    let h := h.modCsb fun c => { c with dist := { c.dist with phase := 3, curId := w.val } }
    (w :: ws).foldl
      (fun h v => (h.modWorker v fun x => { x with activated := true }).csbDown { dst := v.val, src := 0, body := .fwActivate }) h

/-- The distribution goes on as far as the workers' reports permit (R269). -/
def Hub.fwAdvance (h : Hub) : Hub :=
  let ph := h.csb.dist.phase
  if ph = 1 || ph = 2 then
    if h.fwNamed.any fun w => (h.worker w).fw == 1 then h else h.fwBatchNext
  else if ph = 3 then
    if h.fwNamed.any fun w => (h.worker w).activated && (h.worker w).fw == 2 then h else h.fwBatchNext
  else h

/-- Block `k` of the distributed image (R269). -/
def Hub.fwBlockBody (h : Hub) (k : Nat) : CsbBody :=
  .fwBlock h.csb.dist.tag k ((((h.nvm.bank h.csb.dist.bank).image.drop (240 * k)).take 240))

/-- The workers that still load are offered the image again: each answers with the blocks it lacks (R269, R272; DESIGN CHOICE, log
58). -/
def Hub.fwAsk (h : Hub) : Hub :=
  (h.fwNamed.filter fun w => (h.worker w).state == 1 && (h.worker w).fw == 1).foldl (fun h w => h.fwOfferTo w) h

/-- The next block is broadcast once a segment has nothing else to carry; after the last the workers repair (R269). -/
def Hub.fwPump (h : Hub) (p : PodIx) : Hub :=
  let d := h.csb.dist
  if h.csb.role = 2 && d.phase = 1 && (h.clink p).queue.isEmpty && d.next < d.blocks then
    let h := h.csbBroadcast { dst := 0x7F, src := 0, body := h.fwBlockBody d.next }
    let last := d.next + 1 = d.blocks
    let h := h.modCsb fun c => { c with dist := { c.dist with next := d.next + 1, phase := if last then 2 else 1 } }
    if last then h.fwAsk else h
  else h

/-- Blocks resent to one worker alone, and the offer again, to which it reports what it still lacks (R269; log 58). -/
def Hub.fwResend (h : Hub) (w : HubId) (ranges : List (Nat × Nat)) : Hub :=
  ((ranges.flatMap fun r => (List.range r.2).map fun i => r.1 + i).foldl
    (fun h k => if k < h.csb.dist.blocks then h.csbDown { dst := w.val, src := 0, body := h.fwBlockBody k } else h) h).fwOfferTo w

/-- A distribution starts (R269, R390): the named workers get FW_OFFER. -/
def Hub.fwStart (h : Hub) (bank : Bank) (mask : Nat) : Hub :=
  let len := (h.nvm.bank bank).image.length
  let h := h.modCsb fun c =>
    { c with dist := { phase := 1, bank := bank, tag := (c.dist.tag + 1) % 65536, version := (h.nvm.bank bank).version
                       blocks := (len + 239) / 240 }
             workers := Vector.ofFn fun w =>
               let x := c.workers[w]
               if w.val ≠ 0 && mask.testBit w.val then { x with named := true, fw := 1, activated := false }
               else { x with named := false, fw := 0, activated := false } }
  (h.fwNamed.filter fun w => (h.worker w).state == 1).foldl (fun h w => h.fwOfferTo w) h

/-- CSB_FW_STATUS at the manager (R269, R270). -/
def Hub.csbFwStatus (h : Hub) (w : HubId) (k : FwReport) : Hub :=
  if !(h.worker w).named || h.csb.dist.phase = 0 || h.csb.dist.phase = 4 || h.csb.dist.phase = 5 then h
  else
    match k with
    | .done => (h.modWorker w fun x => { x with fw := 5 }).fwAdvance
    | .missing rs => if h.csb.dist.phase = 2 then h.fwResend w rs else h
    | .ready => (h.modWorker w fun x => { x with fw := 2 }).fwAdvance
    | .failed => (h.modWorker w fun x => { x with fw := 4 }).fwHalt w 1
    | .running v =>
      let h := h.modWorker w fun x => { x with fwVer := v }
      if (h.worker w).activated && v = h.csb.dist.version then (h.modWorker w fun x => { x with fw := 3 }).fwAdvance else h

/-- Runs of consecutive missing blocks below `n`, as first block and count (R269). -/
def missingRanges (got : List Nat) : Nat → List (Nat × Nat)
  | 0 => []
  | n + 1 =>
    let rest := missingRanges got n
    if got.contains n then rest
    else match rest.getLast? with
      | some (a, c) => if a + c = n then rest.dropLast ++ [(a, c + 1)] else rest ++ [(n, 1)]
      | none => [(n, 1)]

/-- Blocks of an offered image. -/
def offerBlocks (o : FwOffer) : Nat := (o.length + 239) / 240

/-- The worker's report: missing blocks, or the start of verification (R269). -/
def Hub.fwReport (h : Hub) (o : FwOffer) : Hub :=
  match missingRanges h.csb.load.got (offerBlocks o) with
  | [] =>
    (h.modCsb fun c => { c with load := { c.load with verifying := true } }).modSec fun c =>
      { c with engine := c.engine ++ [.firmware none] }
  | rs => h.csbUp (.fwStatus (.missing rs))

/-- The idle bank is cleared for an offered image (R269). -/
def Hub.fwClear (h : Hub) (o : FwOffer) : Hub :=
  (h.modNvm fun n => n.modBank n.idle fun _ => { state := .writing, version := o.version }).modCsb fun c =>
    { c with load := { offer := some o, report := c.load.report } }

/-- CSB_FW_OFFER at a worker (R269, R272): it reports the blocks it lacks, all of them where the offer is new to it. -/
def Hub.csbFwOffer (h : Hub) (o : FwOffer) : Hub :=
  if o.version = h.sec.runVersion then h.csbUp (.fwStatus .done)
  else
    match h.csb.load.offer with
    | some k =>
      if k.tag = o.tag then (if h.csb.load.verifying || h.csb.load.activating then h else h.fwReport o)
      else (h.fwClear o).fwReport o
    | none => (h.fwClear o).fwReport o

/-- CSB_FW_BLOCK at a worker (R269): the block is stored in the idle bank; the last missing one starts the verification. -/
def Hub.csbFwBlock (h : Hub) (tag block : Nat) (data : List Byte) : Hub :=
  match h.csb.load.offer with
  | none => h
  | some o =>
    if o.tag ≠ tag || h.csb.load.verifying || h.csb.load.activating || offerBlocks o ≤ block then h
    else
      let h := h.bump (cntCsb 7)
      if h.csb.load.got.contains block then h
      else if h.pageRefused .firmware then h.pageStore (.firmware h.nvm.idle block data 0)
      else
        let h := (h.pageStore (.firmware h.nvm.idle block data 0)).modCsb fun c =>
          { c with load := { c.load with got := c.load.got ++ [block] } }
        if (missingRanges h.csb.load.got (offerBlocks o)).isEmpty then h.fwReport o else h

/-- CSB_FW_ACTIVATE at a worker (R269, R321): the idle bank, verified, is named active. -/
def Hub.csbFwActivate (h : Hub) : Hub :=
  if (h.nvm.bank h.nvm.idle).state = .verified then
    (h.modCsb fun c => { c with load := { c.load with activating := true } }).pageStore (.config (.activeBank h.nvm.idle 2))
  else h

/-! #### Loss (R271) -/

/-- Link loss, with the silence its pod sees (R93, R271). -/
def Hub.csbLossAll (h : Hub) (p : PodIx) (cause : Nat) : Hub :=
  let h := h.csbLoss p cause
  if isD p then h.pdCsbSilent p else h

/-- CSB_REPEAT_TIMEOUT (R256): the oldest unacknowledged frame is repeated; after three repeats the link is lost. -/
def Hub.csbUnacked (h : Hub) (p : PodIx) : Hub :=
  match (h.clink p).sent with
  | [] => h
  | x :: rest =>
    if 3 ≤ x.repeats then h.csbLossAll p 3
    else h.modClink p fun l => { l with sent := rest, again := l.again ++ [x] }

/-- MANAGER_LOSS at a worker (R253, R271, R277). -/
def Hub.managerLost (h : Hub) : Hub :=
  if h.csb.role = 1 && h.csb.joined && !h.csb.mgrLost then
    let had := h.bud.grantValid
    let h := ((((h.modCsb fun c => { c with mgrLost := true, lossAt := h.clk, ackDue := false }).csbEvt 5).bump (cntCsb 3)).raise
      srcCsb 0x9007 3 (le16 h.bud.grant)).modBud fun b => { b with grantValid := false, holding := had }
    (if h.discipline = 2 && !h.timing.unsync then h.holdoverOn else h).budNewB
  else h

/-- GRANT_HOLD_EXPIRY (R271). -/
def Hub.grantHoldEnd (h : Hub) : Hub :=
  if h.csb.mgrLost && h.bud.holding then (h.modBud fun b => { b with holding := false, floored := true }).budNewB else h

/-- HELLO_RETRY (R260, R271): over the primary link, or whatever link is up. -/
def Hub.helloAgain (h : Hub) : Hub :=
  if h.csb.role = 1 && (!h.csb.joined || h.csb.mgrLost) then
    if h.csb.parentUp then h.helloSend h.csb.parentPod false
    else if (h.clink (upPod (upOther h.csb.parentPod))).up then h.helloSend (upOther h.csb.parentPod) false
    else h
  else h

/-- WORKER_HOLD_EXPIRY at the manager (R266). -/
def Hub.workerHoldEnd (h : Hub) (w : HubId) : Hub :=
  if (h.worker w).state = 2 then (h.modWorker w fun x => { x with state := 3, held := x.floor }).csbRetarget else h

/-! #### The commands -/

/-- A command of the cascade acts while the CSB domain works (R333). -/
def onCsb (s : State) (f : Hub → Hub) : Host.Outcome State Fault Refusal := perform s fun h => h.inDom domCsb f

/-- AUTO_WAIT_EXPIRY (R252). -/
def execAutoWaitExpiry (s : State) : Host.Outcome State Fault Refusal :=
  onCsb s fun h => if h.csb.role = 0 then ((h.csbSetRole 2).budNewB).probesResume else h

/-- CSB_BAD_FRAME (R255). -/
def execCsbBadFrame (p : PodIx) (s : State) : Host.Outcome State Fault Refusal := onCsb s fun h => h.csbBad p

/-- CSB_NULL (R256). -/
def execCsbNull (p : PodIx) (hd : CsbHdr) (s : State) : Host.Outcome State Fault Refusal :=
  onCsb s fun h => h.csbRx p hd .null id

/-- CSB_POLL (R257). -/
def execCsbPoll (p : PodIx) (hd : CsbHdr) (s : State) : Host.Outcome State Fault Refusal :=
  onCsb s fun h => h.csbRx p hd .poll id

/-- CSB_HELLO (R260, R261). -/
def execCsbHello (p : PodIx) (hd : CsbHdr) (x : Hello) (s : State) : Host.Outcome State Fault Refusal :=
  onCsb s fun h => h.csbRx p hd (.hello x) fun h => h.csbHello p hd x

/-- CSB_ASSIGN (R260, R261). -/
def execCsbAssign (p : PodIx) (hd : CsbHdr) (a : Assign) (s : State) : Host.Outcome State Fault Refusal :=
  onCsb s fun h => h.csbRx p hd (.assign a) fun h => h.csbAssign p a

/-- CSB_LINK (R271). -/
def execCsbLink (p : PodIx) (hd : CsbHdr) (k : LinkNote) (s : State) : Host.Outcome State Fault Refusal :=
  onCsb s fun h => h.csbRx p hd (.link k) fun h => h.csbLinkNote p hd k

/-- CSB_SYNC (R263). -/
def execCsbSync (p : PodIx) (hd : CsbHdr) (t1 : Nat) (s : State) : Host.Outcome State Fault Refusal :=
  onCsb s fun h => h.csbRx p hd (.sync t1) fun h => h.csbSync p t1

/-- CSB_DELAY_REQ (R263). -/
def execCsbDelayReq (p : PodIx) (hd : CsbHdr) (s : State) : Host.Outcome State Fault Refusal :=
  onCsb s fun h => h.csbRx p hd .delayReq fun h => h.csbDelayReq p

/-- CSB_DELAY_RESP (R263). -/
def execCsbDelayResp (p : PodIx) (hd : CsbHdr) (t4 : Nat) (s : State) : Host.Outcome State Fault Refusal :=
  onCsb s fun h => h.csbRx p hd (.delayResp t4) fun h => h.csbDelayResp p t4

/-- CSB_GRANT (R267). -/
def execCsbGrant (p : PodIx) (hd : CsbHdr) (w : Nat) (s : State) : Host.Outcome State Fault Refusal :=
  onCsb s fun h => h.csbRx p hd (.grant w) fun h => h.csbDownward p hd (.grant w) fun h => h.csbGrant w

/-- CSB_DEMAND (R265). -/
def execCsbDemand (p : PodIx) (hd : CsbHdr) (d : Demand) (s : State) : Host.Outcome State Fault Refusal :=
  onCsb s fun h => h.csbRx p hd (.demand d) fun h => h.csbUpward p hd (.demand d) fun h => h.csbDemand (workerIx hd.src) d

/-- CSB_GRANT_ACK (R266). -/
def execCsbGrantAck (p : PodIx) (hd : CsbHdr) (charges : Nat) (s : State) : Host.Outcome State Fault Refusal :=
  onCsb s fun h => h.csbRx p hd (.grantAck charges) fun h =>
    h.csbUpward p hd (.grantAck charges) fun h => h.csbGrantAck (workerIx hd.src) charges

/-- CSB_MBX (R377, R391). -/
def execCsbMbx (p : PodIx) (hd : CsbHdr) (bytes : List (BitVec 8)) (s : State) : Host.Outcome State Fault Refusal :=
  onCsb s fun h => h.csbRx p hd (.mbx bytes) fun h =>
    if (h.clink p).isParent then h.csbUpward p hd (.mbx bytes) fun h => h.fwdResponse hd.src bytes
    else h.csbDownward p hd (.mbx bytes) fun h => if hd.src = 0 then h.commandCheck 4 bytes else h.formatErr

/-- CSB_JOURNAL (R268). -/
def execCsbJournal (p : PodIx) (hd : CsbHdr) (first : Nat) (recs : List Rec) (s : State) : Host.Outcome State Fault Refusal :=
  onCsb s fun h => h.csbRx p hd (.journal first recs) fun h =>
    h.csbUpward p hd (.journal first recs) fun h => h.csbJournal hd.src first recs

/-- CSB_JOURNAL_ACK (R268). -/
def execCsbJournalAck (p : PodIx) (hd : CsbHdr) (last : Nat) (s : State) : Host.Outcome State Fault Refusal :=
  onCsb s fun h => h.csbRx p hd (.journalAck last) fun h => h.csbDownward p hd (.journalAck last) fun h => h.csbJournalAck last

/-- CSB_FW_OFFER (R269). -/
def execCsbFwOffer (p : PodIx) (hd : CsbHdr) (o : FwOffer) (s : State) : Host.Outcome State Fault Refusal :=
  onCsb s fun h => h.csbRx p hd (.fwOffer o) fun h => h.csbDownward p hd (.fwOffer o) fun h => h.csbFwOffer o

/-- CSB_FW_BLOCK (R269). -/
def execCsbFwBlock (p : PodIx) (hd : CsbHdr) (tag block : Nat) (data : List (BitVec 8)) (s : State) :
    Host.Outcome State Fault Refusal :=
  onCsb s fun h => h.csbRx p hd (.fwBlock tag block data) fun h =>
    h.csbDownward p hd (.fwBlock tag block data) fun h => h.csbFwBlock tag block data

/-- CSB_FW_STATUS (R269, R270). -/
def execCsbFwStatus (p : PodIx) (hd : CsbHdr) (k : FwReport) (s : State) : Host.Outcome State Fault Refusal :=
  onCsb s fun h => h.csbRx p hd (.fwStatus k) fun h =>
    h.csbUpward p hd (.fwStatus k) fun h => h.csbFwStatus (workerIx hd.src) k

/-- CSB_FW_ACTIVATE (R269). -/
def execCsbFwActivate (p : PodIx) (hd : CsbHdr) (s : State) : Host.Outcome State Fault Refusal :=
  onCsb s fun h => h.csbRx p hd .fwActivate fun h => h.csbDownward p hd .fwActivate fun h => h.csbFwActivate

/-- CSB_REPEAT_TIMEOUT (R256, R271). -/
def execCsbRepeatTimeout (p : PodIx) (s : State) : Host.Outcome State Fault Refusal := onCsb s fun h => h.csbUnacked p

/-- CSB_TURN_GRANT (R257). -/
def execCsbTurnGrant (p : PodIx) (s : State) : Host.Outcome State Fault Refusal :=
  onCsb s fun h =>
    if (h.clink p).isParent && (h.clink p).up && !(h.clink p).turn then
      ((h.fwPump p).csbSend p true).modClink p fun l => { l with turn := true }
    else h

/-- CSB_TURN_LAPSE (R257). -/
def execCsbTurnLapse (p : PodIx) (s : State) : Host.Outcome State Fault Refusal :=
  onCsb s fun h => h.modClink p fun l => { l with turn := false }

/-- HELLO_RETRY (R260, R271). -/
def execHelloRetry (s : State) : Host.Outcome State Fault Refusal := onCsb s fun h => h.helloAgain

/-- SYNC_INTERVAL (R263). -/
def execSyncInterval (p : PodIx) (s : State) : Host.Outcome State Fault Refusal :=
  onCsb s fun h =>
    if (h.clink p).isParent && (h.clink p).up then
      (h.csbQueue p { dst := 0x7E, src := h.csbSrc, body := .sync 0 }).bump (cntCsb 0)
    else h

/-- DEMAND_INTERVAL (R264). -/
def execDemandInterval (s : State) : Host.Outcome State Fault Refusal := onCsb s fun h => h.demandSend

/-- GRANT_REFRESH (R266). -/
def execGrantRefresh (s : State) : Host.Outcome State Fault Refusal := onCsb s fun h => h.grantsAgain

/-- GRANT_ACK_TIMEOUT (R267). -/
def execGrantAckTimeout (w : HubId) (s : State) : Host.Outcome State Fault Refusal :=
  onCsb s fun h => if h.csb.role = 2 && (h.worker w).ackWait then h.csbEvt 11 else h

/-- JOURNAL_FORWARD (R268). -/
def execJournalForward (s : State) : Host.Outcome State Fault Refusal := onCsb s fun h => h.jcolForward

/-- JOURNAL_REPEAT (R268). -/
def execJournalRepeat (s : State) : Host.Outcome State Fault Refusal := onCsb s fun h => h.jcolRepeat

/-- FW_ACTIVATE_TIMEOUT (R270). -/
def execFwActivateTimeout (w : HubId) (s : State) : Host.Outcome State Fault Refusal :=
  onCsb s fun h => if h.csb.dist.phase = 3 && (h.worker w).activated && (h.worker w).fw = 2 then h.fwHalt w 2 else h

/-- LINK_SILENCE (R271). -/
def execLinkSilence (p : PodIx) (s : State) : Host.Outcome State Fault Refusal :=
  onCsb s fun h => if (h.clink p).up then h.csbLossAll p 2 else h

/-- MANAGER_LOSS (R271). -/
def execManagerLoss (s : State) : Host.Outcome State Fault Refusal := onCsb s fun h => h.managerLost

/-- GRANT_HOLD_EXPIRY (R271). -/
def execGrantHoldExpiry (s : State) : Host.Outcome State Fault Refusal := onCsb s fun h => h.grantHoldEnd

/-- WORKER_SILENCE (R271). -/
def execWorkerSilence (w : HubId) (s : State) : Host.Outcome State Fault Refusal :=
  onCsb s fun h => if h.csb.role = 2 then (h.workerLost w).csbRetarget else h

/-- WORKER_HOLD_EXPIRY (R266). -/
def execWorkerHoldExpiry (w : HubId) (s : State) : Host.Outcome State Fault Refusal :=
  onCsb s fun h => if h.csb.role = 2 then h.workerHoldEnd w else h

end Sys2Proof.Machine
end

