-- ==== Sys2Proof/Machine/Security.lean ====
section
/-! DEFINITION. Authentication of devices and by the hub, the signature engine, debug opening, attestation (chapter 11: R284-R289,
R295, R297-R303, R305). -/

namespace Sys2Proof.Machine

/-! #### Bytes and words -/

/-- Bytes of a list of words. -/
def wordsBytes (ws : List Word) : List Byte := ws.flatMap wordBytes

/-- Words of a list of bytes, zero-filled. -/
def bytesWords (bs : List Byte) : List Word := (List.range ((bs.length + 3) / 4)).map fun i => BitVec.ofNat 32 (u32 bs (4 * i))

/-! #### The initiator (R284, R286) -/

/-- The pin of a pod (R303). -/
def Hub.pinWords (h : Hub) (p : PodIx) : List Word := (List.range 8).map fun i => h.cfg (podBase p + 0xC20 + 4 * i)

/-- Root entry r (R290, R304). -/
def Hub.rootWords (h : Hub) (r : Nat) : List Word := (List.range 8).map fun i => h.cfg (0x60100 + 0x20 * r + 4 * i)

/-- The next certificate piece is asked for (R284 step 2). -/
def Hub.authCert (h : Hub) (p : PodIx) : Hub :=
  let f := h.fwl p
  let n := if f.total = 0 then 256 else min 256 (f.total - f.got)
  (h.modFwl p fun f => { f with step := .certificate }).authSend p 0x82 0 (putLe 2 f.got ++ putLe 2 n)

/-- CHALLENGE with a fresh nonce (R284 step 3). -/
def Hub.authChallenge (h : Hub) (p : PodIx) : Hub :=
  let nonce := (List.range 8).map fun i => Config.nonceWord h.freeCtr (8 + i)
  (h.drawn.modFwl p fun f => { f with step := .challenge }).authSend p 0x83 0 (wordsBytes nonce)

/-- Slot 0's digest arrives (R284 step 1). -/
def Hub.authDigest (h : Hub) (p : PodIx) (d : List Word) : Hub :=
  if h.pinReq p && d ≠ h.pinWords p then h.authOver p .failed 5 0
  else
    let h := h.modFwl p fun f => { f with digest := d, got := 0, total := 0 }
    if (h.fwl p).verified = some d then h.authChallenge p else h.authCert p

/-- A piece of the chain arrives (R284 step 2). One with nothing in it, with more than was asked for, or of a chain whose length
changes, is malformed (DEDUCED, log 84). -/
def Hub.authPiece (h : Hub) (p : PodIx) (bytes total : Nat) : Hub :=
  if 4096 < total then h.authOver p .failed 9 0
  else if bytes = 0 || total = 0 || 256 < bytes || total < (h.fwl p).got + bytes
      || ((h.fwl p).total ≠ 0 && (h.fwl p).total ≠ total) then h.authOver p .failed 3 0
  else
    let h := h.modFwl p fun f => { f with got := f.got + bytes, total := total }
    if (h.fwl p).got < total then h.authCert p
    else (h.modFwl p fun f => { f with step := .verifyChain }).modSec fun c => { c with engine := c.engine ++ [.chain p] }

/-- SECURITY_RESPONSE_RECEIVED on a D pod (R284): one that answers no request of the exchange is without effect. -/
def Hub.authAnswer (h : Hub) (p : PodIx) (a : AuthAnswer) : Hub :=
  if !h.authAwaits p then h
  else
    match (h.fwl p).step, a with
    | _, .error => h.authOver p .failed 2 0
    | .digests, .digests (some d) => h.authDigest p d
    | .digests, .digests none => h.authOver p .failed 4 0
    | .certificate, .certificate bytes total => h.authPiece p bytes total
    | .challenge, .challengeAuth =>
      (h.modFwl p fun f => { f with step := .verifySignature }).modSec fun c => { c with engine := c.engine ++ [.challenge p] }
    | .digests, _ | .certificate, _ | .challenge, _ => h.authOver p .failed 3 0
    | _, _ => h

/-- The calendar time in seconds (R285). -/
def Hub.calendar (h : Hub) : Nat := (h.cfg 0x60024).toNat + (h.cfg 0x60028).toNat * 2 ^ 32 + h.tb.toNat / ticksPerSecond

/-- The trusted root of a chain on a pod (R284, R290). -/
def Hub.trustedRoot (h : Hub) (p : PodIx) (root : List Word) : Option Nat :=
  (List.range 8).find? fun r => h.rootValid.testBit r && (h.rootMask p).testBit r && h.rootWords r == root

/-- The chain of a pod is verified (R284, R285). -/
def Hub.chainDone (h : Hub) (p : PodIx) (r : SigResult) : Hub :=
  if (h.fwl p).step ≠ .verifyChain then h
  else
    let dated := h.sec.utcValid && r.certs.any fun c => decide (h.calendar < c.1 ∨ c.2 < h.calendar)
    if !r.ok || r.certs.length < 2 || 4 < r.certs.length || dated then h.authOver p .failed 6 0
    else
      match h.trustedRoot p r.root with
      | none => h.authOver p .failed 7 0
      | some k => (h.modFwl p fun f => { f with root := k }).authChallenge p

/-- The CHALLENGE_AUTH of a pod is verified (R284, R286). -/
def Hub.challengeDone (h : Hub) (p : PodIx) (r : SigResult) : Hub :=
  if (h.fwl p).step ≠ .verifySignature then h
  else if r.ok then (h.modFwl p fun f => { f with verified := some f.digest }).authOver p .passed 0 (h.fwl p).root
  else h.authOver p .failed 8 0

/-- AUTH_TIMEOUT (R286): T_AUTH runs with the exchange, and starts again with one that a Hard Reset cut. -/
def Hub.authLate (h : Hub) (p : PodIx) : Hub :=
  if (h.fwl p).auth = .running && !(h.fwl p).restart then
    ((h.authFree p).modPde p fun e => { e with pendAuth := false }).authOver p .timeout 0 0
  else h

/-- RELEASE (R281, R303). -/
def Hub.fwlRelease (h : Hub) (p : PodIx) : Hub :=
  if isD p then
    (h.modFwl p fun f => { f with policy := false, blocked := [] }).modLink p fun l =>
      { l with disReason := if l.disReason = 3 then 0 else l.disReason }
  else h

/-- REAUTH (R286, R303): a running exchange is given up; the new one starts at once in PDE.READY, else at the next. -/
def Hub.fwlReauth (h : Hub) (p : PodIx) : Hub :=
  if isD p && h.securePort p then
    let h := (h.authFree p).modFwl p fun f => { f with step := .idle, keep := false }
    if (h.pde p).state == .ready && !h.inSafe 31 then h.authStart p else h.modFwl p fun f => { f with restart := true }
  else h

/-! #### The responder (R289) -/

/-- An answer of the responder over its transport. -/
def Hub.respond (h : Hub) (d : RespTo) (bs : List Byte) : Hub :=
  match d with
  | .pd u => h.pdSendExt (upPod u) .securityResponse bs
  | .mf => h.mfEp0 bs

/-- ERROR: 1 invalid request, 3 Busy. -/
def Hub.respError (h : Hub) (d : RespTo) (code : Nat) : Hub := h.respond d (authMsg 0x7F code 0 [])

/-- A slot's certificate chain: slot 0's is the part's own (R289). -/
def Hub.chainOf (h : Hub) (slot : Nat) : Option (List Byte) :=
  if slot = 0 then some Config.slot0Chain else (h.sec.chains.find? fun c => c.1 == slot).map Prod.snd

/-- The slots that are populated, one bit each (R289). -/
def Hub.chainMask (h : Hub) : Nat := (List.range 8).foldl (fun a k => if (h.chainOf k).isSome then a + 2 ^ k else a) 0

/-- The digests of the populated slots, ascending. -/
def Hub.chainDigests (h : Hub) : List Byte :=
  (List.range 8).flatMap fun k => match h.chainOf k with
    | some bs => wordsBytes (Config.sha256 bs)
    | none => []

/-- A request to the responder: one CHALLENGE at a time over all transports (R289). -/
def Hub.responder (h : Hub) (d : RespTo) (q : AuthRequest) : Hub :=
  if h.sec.respBusy.isSome then (h.bump (cntSec 1)).respError d 3
  else
    match q with
    | .getDigests => h.respond d (authMsg 0x01 1 h.chainMask h.chainDigests)
    | .getCertificate slot offset length =>
      match h.chainOf slot with
      | some bs => h.respond d (authMsg 0x02 slot 0 ((bs.drop offset).take length))
      | none => h.respError d 1
    | .challenge slot nonce =>
      if (h.chainOf slot).isSome then
        (h.bump (cntSec 0)).modSec fun c => { c with respBusy := some d, engine := c.engine ++ [.respond d slot nonce] }
      else h.respError d 1
    | .malformed => h.respError d 1

/-! #### Firmware images (R269, R295, R321) -/

/-- The verified bank (R321, R330). -/
def Hub.bankVerified (h : Hub) (r : SigResult) : Hub :=
  let k := h.nvm.idle
  (h.modNvm fun n => n.modBank k fun b => { b with state := .verified, version := r.version, secVer := r.secVer }).raise srcNvm 0xA101 1
    ([bankNo k, 0, 0, 0] ++ le32 r.version.toNat)

/-- The bank that failed. -/
def Hub.bankBad (h : Hub) : Hub := h.modNvm fun n => n.modBank n.idle fun b => { b with state := .bad }

/-- An image passes its signature and the security version's floor (R294, R295). -/
def Hub.imageOk (h : Hub) (r : SigResult) : Bool := r.ok && !isUe r.mram.read && decide (h.sec.secVerMin ≤ r.secVer)

/-- A distributed image is verified: READY or FAILED (R269). -/
def Hub.loadVerified (h : Hub) (r : SigResult) : Hub :=
  match h.csb.load.offer with
  | none => h
  | some o =>
    let same := Config.sha256 (((h.nvm.bank h.nvm.idle).image).take o.length) == o.digest
    let h := (h.mramRead r.mram).modCsb fun c => { c with load := { c.load with verifying := false } }
    if same && h.imageOk r then h.bankVerified r |>.csbUp (.fwStatus .ready) else h.bankBad.csbUp (.fwStatus .failed)

/-- FW.VERIFY's job ends (R321, R390). -/
def Hub.verifyJobDone (h : Hub) (j : Fin 8) (r : SigResult) : Hub :=
  let h := h.mramRead r.mram
  if h.imageOk r then (h.bankVerified r).jobEnd j { status := 0, data := wordBytes r.version }
  else h.bankBad.jobEnd j { status := 5, detail := 0x3000 }

/-! #### Debug opening (R298, R299, R305) -/

/-- The next store of the erase sequence: 1 the marker, 3 a page of the sealed region, 5 the clearing of the marker. -/
def Hub.eraseStore (h : Hub) (step : Nat) : Hub := (h.modSec fun c => { c with eraseStep := step }).pageStore (.erase step)

/-- A store of the sequence that no queue room held is tried again (R299, R320). -/
def Hub.eraseKick (h : Hub) : Hub :=
  if h.sec.eraseStep = 0 || ((h.nvm.inStore ++ h.nvm.deferQ).any fun d => storeClass d.store == .erase) then h
  else h.eraseStore h.sec.eraseStep

/-- Step 2: the key RAM is zeroised; then the region's pages follow. -/
def Hub.eraseKeys (h : Hub) : Hub :=
  (h.modSec fun c => { c with keys := Vector.replicate 32 none, publics := [], erasePage := 0 }).eraseStore 3

/-- The boot ROM starts (R294, R322): an erase whose marker is set and that does not run is completed first. -/
def Hub.bootStart (h : Hub) : Hub :=
  let h := h.modSec fun c => { c with boot := .verify }
  if h.sec.erasePending && h.sec.eraseStep == 0 then (h.modSec fun c => { c with eraseAtBoot := true }).eraseKeys else h

/-- Step 4 (R299): the key RAM and the sealed region as read back hold nothing but zeros. -/
def Hub.eraseClean (h : Hub) : Bool := !h.sec.keys.toList.any Option.isSome && !h.sec.blobs.toList.any Option.isSome

/-- Steps 5 and 6: fuse, marker cleared, register access open (R299). -/
def Hub.eraseEnd (h : Hub) : Hub :=
  let boot := h.sec.eraseAtBoot
  let jobs := h.sec.eraseJobs
  let h := (h.modSec fun c =>
    { c with eraseStep := 0, erasePending := false, dbgOpened := true, dbgOpenNow := c.dbgOpenNow || !boot, eraseJobs := [] }).secEvt 2
  let h := h.raise srcSec 0x6006 4 [if boot then 1 else 0]
  jobs.foldl (fun h j => h.jobEnd j { status := 0 }) h

/-- A store of the sequence has finished (R299): the sealed region has 64 pages. What has been written since, by a store that was
under way or a key brought in, is found by the read-back, before step 5 and at its end, and restarts step 2. -/
def Hub.eraseStored (h : Hub) (step : Nat) : Hub :=
  if step = 1 then (h.modSec fun c => { c with erasePending := true }).eraseKeys
  else if step = 3 then
    let h := h.modSec fun c => { c with erasePage := c.erasePage + 1 }
    if h.sec.erasePage < 64 then h.eraseStore 3
    else
      let h := h.modSec fun c => { c with blobs := Vector.replicate 32 none }
      if h.eraseClean then h.eraseStore 5 else h.eraseKeys
  else if step = 5 then (if h.eraseClean then h.eraseEnd else h.eraseKeys)
  else h

/-- The token of a debug request is verified (R298, R299, R305); SEC's safe response refuses it (R313). One accepted while an
erase runs ends with that erase. -/
def Hub.tokenDone (h : Hub) (job : Option (Fin 8)) (r : SigResult) : Hub :=
  let via := if job.isSome then 2 else 1
  let h := h.modSec fun c => { c with nonceNo := c.nonceNo + 1 }
  if r.ok && !h.inSafe 31 then
    let h := (h.secEvt 0).raise srcSec 0x6005 4 [1, via]
    let h := h.modSec fun c => { c with eraseJobs := c.eraseJobs ++ job.toList }
    if h.sec.eraseStep ≠ 0 then h else (h.modSec fun c => { c with eraseAtBoot := false }).eraseStore 1
  else
    let h := ((h.secEvt 1).bump (cntSec 4)).raise srcSec 0x6005 4 [2, via]
    match job with
    | some j => h.jobEnd j { status := 5, detail := 0x3000 }
    | none => h

/-- DBG_REQ over JTAG (R297, R298). -/
def Hub.dbgReq (h : Hub) (scope : Nat) : Hub :=
  (h.bump (cntSec 3)).modSec fun c => { c with engine := c.engine ++ [.token none scope] }

/-! #### Attestation and keys (R300, R390) -/

/-- Key slots loaded, one bit per slot (R304). -/
def Hub.slotsLoaded (h : Hub) : Nat :=
  (List.finRange 32).foldl (fun a i => if h.sec.keys[i].isSome then a + 2 ^ i.val else a) 0

/-- The flags byte of the report. -/
def Hub.attestFlags (h : Hub) : Nat :=
  let c := h.sec
  c.bootOk.toNat + 2 * bankNo c.bootBank + 4 * c.dbgOpened.toNat + 8 * c.dbgOpenNow.toNat + 16 * c.erasePending.toNat + 32 * c.sealFail.toNat

/-- SHA-256 of a bank; zero of an empty one. -/
def Hub.bankDigest (h : Hub) (k : Bank) : List Byte :=
  if (h.nvm.bank k).state = .empty then List.replicate 32 0 else wordsBytes (Config.sha256 (h.nvm.bank k).image)

/-- SI_REV (R425). -/
def siRev : Nat := 0xB0

/-- Bytes 0-191 of the report (R300). -/
def Hub.attestBody (h : Hub) (nonce : List Byte) : List Byte :=
  let secure := (List.finRange 16).foldl (fun a p => if isD p && h.securePort p then a + 2 ^ (p.val - 2) else a) 0
  let rules := (List.range 128).flatMap fun i => wordBytes (h.cfg (0x60400 + 4 * i))
  let denied := (List.range 6).foldl (fun a m => a + h.cnt (cntDeny m)) 0
  nonce ++ putLe 8 Config.dieUid.toNat ++ putLe 3 siRev ++ putLe 1 1 ++ wordBytes h.sec.runVersion
    ++ h.bankDigest h.nvm.active ++ h.bankDigest h.nvm.idle ++ putLe 2 h.sec.secVerRun ++ putLe 2 h.sec.secVerMin
    ++ putLe 1 h.attestFlags ++ putLe 1 h.rootValid ++ putLe 2 secure ++ wordsBytes (Config.sha256 rules)
    ++ (if h.sec.policyDigest.isEmpty then List.replicate 32 0 else wordsBytes h.sec.policyDigest)
    ++ putLe 4 h.slotsLoaded ++ putLe 4 (min denied 0xFFFFFFFF)

/-- The report is signed (R300, R390). -/
def Hub.attestDone (h : Hub) (j : Fin 8) (nonce : List Byte) (r : SigResult) : Hub :=
  let rep := h.attestBody nonce ++ (wordsBytes r.words).take 64
  (h.modSec fun c => { c with report := some rep }).jobEnd j { status := 0, data := rep.take 128 }

/-- The use of a key by its code (R390). -/
def keyUseOf (usage : Nat) : KeyUse := if usage = 0 then .sign else if usage = 1 then .verify else if usage = 2 then .aes else .nonceSeed

/-- A page store's answer: refused, deferred or started (R319, R320, R386). -/
def Hub.pageAnswer (h : Hub) (c : StoreClass) (data : List Byte) : Outcome :=
  if h.pageRefused c then { status := 7, detail := match c with | .journal => 1 | .config => 2 | .firmware => 3 | .erase => 4 }
  else { status := 0, detail := if h.storeOk c then 0 else 1, data := data }

/-- A generated key, whose value is a free value, fills its slot, and its sealed blob is stored (R292, R390). -/
def Hub.keyGenDone (h : Hub) (j : Fin 8) (slot : Fin 32) (usage : Nat) (r : SigResult) : Hub :=
  let pub := (wordsBytes r.words).take 64
  let ans := h.pageAnswer .config (if usage = 0 then pub else [])
  let h := if h.pageRefused .config then h
    else h.drawn.modSec fun c =>
      { c with keys := c.keys.set slot (some { use := keyUseOf usage, value := Config.keyValue h.freeCtr })
               publics := (c.publics.filter fun x => x.1 ≠ slot.val) ++ (if usage = 0 then [(slot.val, pub)] else []) }
  ((h.pageStore (.config (.keyBlob slot))).jobEnd j ans).domCheck

/-! #### Policy images (R295, R378) -/

/-- The messages laid end to end in a body. -/
def policyMsgs : Nat → List Byte → List (List Byte)
  | 0, _ => []
  | fuel + 1, bs =>
    if bs.length < 16 then []
    else
      let n := 16 + u16 bs 4
      bs.take n :: policyMsgs fuel (bs.drop n)

/-- A policy image is applied or rejected (R397). -/
def Hub.policyRecord (h : Hub) (ok : Bool) (detail length run : Nat) : Hub :=
  h.mbxRaise 0xA005 2 ([if ok then 1 else 0, 0] ++ le16 detail ++ le32 length ++ le32 run)

/-- A policy run ends (R378, R390, R397): every command OK, or stopped by a status. -/
def Hub.policyEnd (h : Hub) (j : Fin 8) (length run status : Nat) : Hub :=
  let h := h.modMbx fun m => { m with policy := none }
  if status = 0 then
    let d := Config.sha256 (h.sec.staging.take length)
    ((h.modSec fun c => { c with policyDigest := d }).policyRecord true 0 length run).jobEnd j
      { status := 0, data := putLe 4 run ++ putLe 2 0 }
  else
    (h.policyRecord false 0x6000 length run).jobEnd j { status := 5, detail := 0x6000, data := putLe 4 run ++ putLe 2 status }

/-- A policy image's signature is verified: its commands run on ring 5 (R378). -/
def Hub.policyDone (h : Hub) (j : Fin 8) (length : Nat) (r : SigResult) : Hub :=
  let img := h.sec.staging.take length
  let body := (img.drop 64).take (length - 128)
  let msgs := policyMsgs (u32 img 4) body
  let whole := u32 img 0 == length && msgs.length == u32 img 4 && Config.sha256 body == bytesWords ((img.drop 8).take 32)
  if r.ok && whole && h.sec.keys[(4 : Fin 32)].isSome then
    if msgs.isEmpty then h.policyEnd j length 0 0
    else h.modMbx fun m => { m with policy := some { job := j, length := length, rest := msgs } }
  else (h.policyRecord false 0x3000 length 0).jobEnd j { status := 5, detail := 0x3000 }

/-! #### The signature engine (R288) -/

/-- SIGNATURE_DONE: the oldest request is served. -/
def Hub.sigDone (h : Hub) (r : SigResult) : Hub :=
  match h.sec.engine with
  | [] => h
  | j :: rest =>
    let h := h.modSec fun c => { c with engine := rest }
    match j with
    | .chain p => h.chainDone p r
    | .challenge p => h.challengeDone p r
    | .respond d slot _ =>
      (h.modSec fun c => { c with respBusy := none }).drawn.respond d
        (authMsg 0x03 slot h.chainMask (Config.responderBytes h.freeCtr ++ wordsBytes r.words))
    | .firmware none => h.loadVerified r
    | .firmware (some j) => h.verifyJobDone j r
    | .policy j n => h.policyDone j n r
    | .token job _ => h.tokenDone job r
    | .attest j nonce => h.attestDone j nonce r
    | .keyGen j slot usage => h.keyGenDone j slot usage r

/-! #### The commands -/

/-- A command of the security unit acts while the SEC domain works (R333). -/
def onSec (s : State) (f : Hub → Hub) : Host.Outcome State Fault Refusal := perform s fun h => h.inDom domSec f

/-- SECURITY_REQUEST_RECEIVED (R70, R91, R289): D pods answer Not_Supported. -/
def execSecurityRequestReceived (p : PodIx) (f : PdFrame) (q : AuthRequest) (s : State) : Host.Outcome State Fault Refusal :=
  onPod s p fun h => h.pdOn p f fun h =>
    match podUp p with
    | some u => if (h.pde p).r3 then h.inDom domSec fun h => h.responder (.pd u) q else h.pdNotSup p
    | none => h.pdNotSup p

/-- SECURITY_RESPONSE_RECEIVED (R91, R284): unexpected on an upstream pod. -/
def execSecurityResponseReceived (p : PodIx) (f : PdFrame) (a : AuthAnswer) (s : State) : Host.Outcome State Fault Refusal :=
  onPod s p fun h => h.pdOn p f fun h => if isD p then h.authAnswer p a else h.pdUnexpected p f

/-- SIGNATURE_DONE (R288). -/
def execSignatureDone (r : SigResult) (s : State) : Host.Outcome State Fault Refusal := onSec s fun h => h.sigDone r

/-- AUTH_TIMEOUT (R286). -/
def execAuthTimeout (p : PodIx) (s : State) : Host.Outcome State Fault Refusal := onPod s p fun h => h.authLate p

/-- MF_AUTH_REQUEST (R178, R204, R289): a host request to EP0 of MF, counted by its SETUP packet. -/
def execMfAuthRequest (q : AuthRequest) (s : State) : Host.Outcome State Fault Refusal :=
  onSec s fun h => if h.upstreamUp && h.takesHeaders then h.countSetup.responder .mf q else h

/-- DBG_REQ (R298). -/
def execDbgReq (scope : Nat) (_token : List Word) (s : State) : Host.Outcome State Fault Refusal := onSec s fun h => h.dbgReq scope

/-- EXTEST (R297). -/
def execExtest (s : State) : Host.Outcome State Fault Refusal :=
  perform s fun h => h.emit (.extest (h.vbs.toList.all fun e => e.state == .off))

end Sys2Proof.Machine
end

