-- ==== Sys2Proof/Machine/Nvm.lean ====
section
/-! DEFINITION. Patrol scrub, configuration parity, the Seedbank, stores and the hold-up check, firmware banks and MP restart
(chapter 12: R307-R324, R330, R331). -/

namespace Sys2Proof.Machine

/-! #### MP restart (R322, R323) -/

/-- A restart counts towards the rollback: its cause is watchdog, ECC or exception, within 60 s of an activation (R323). -/
def Hub.inWindow (h : Hub) : Bool := h.nvm.activatedAt.any fun t => decide (h.clk < t + 60 * ticksPerSecond)

/-- RESTARTS_IN_WIN after a restart with a cause (R323, R328). -/
def Hub.winCount (h : Hub) (cause : Nat) : Nat :=
  if !h.inWindow then 0
  else if 3 ≤ cause ∧ cause ≤ 5 then min 3 (h.nvm.restartsInWin + 1) else h.nvm.restartsInWin

/-- The MP is reset and runs the boot ROM (R322, R330): the rings are aborted, MP SRAM is cleared. -/
def Hub.mpReset (h : Hub) (cause : Nat) : Hub :=
  if !h.domRuns domMp then h
  else
    let h := h.restartAbort.modMbx fun m => { m with umuriUp := false, restarting := true, bootRomOnly := false, halves := [] }
    let h := (h.modSec fun c => { c with staging := [], bootOk := false }).bootStart
    let h := h.modNvm fun n => { n with inRestart := true, lastRestart := cause, restartsInWin := h.winCount cause }
    (h.bump (cntNvm 25)).raise srcNvm 0xA103 (if 3 ≤ cause ∧ cause ≤ 5 then 3 else 2)
      [cause, bankNo h.nvm.active, h.nvm.restartsInWin]

/-- The other bank. -/
def otherBank (k : Bank) : Bank := if k = .a then .b else .a

/-- Steps 1 and 2 of the rollback: the new bank is BAD, the other one is to be named active if it is VERIFIED (R323). -/
def Hub.rollback (h : Hub) : Hub :=
  let k := h.nvm.active
  let h := h.modNvm fun n => { n.modBank k (fun b => { b with state := .bad }) with activatedAt := none }
  if (h.nvm.bank (otherBank k)).state = .verified then h.pageStore (.config (.activeBank (otherBank k) 6)) else h

/-- A restart for a cause of R322; the third within the window of an activation rolls back (R323). -/
def Hub.mpRestart (h : Hub) (cause : Nat) : Hub :=
  let h := h.mpReset cause
  if h.rollbackEn && h.nvm.restartsInWin == 3 && decide (3 ≤ cause ∧ cause ≤ 5) then h.rollback else h

/-- The active-bank name has been stored (R321 step 5, R323): the MP restarts into the named bank. -/
def Hub.bankNamed (h : Hub) (k : Bank) (cause : Nat) : Hub :=
  let old := h.nvm.active
  let gone := (h.nvm.bank old).version
  let h := h.modNvm fun n =>
    { (n.modBank old fun b => { b with state := if cause = 6 then .bad else .verified }).modBank k (fun b => { b with state := .active }) with
      active := k, activatedAt := if cause = 6 then none else some h.clk, restartsInWin := 0 }
  let h := if cause = 6
    then (h.bump (cntNvm 26)).raise srcNvm 0xA104 4 ([bankNo old, bankNo k, 0, 0] ++ le32 gone.toNat)
    else h.raise srcNvm 0xA102 2 ([bankNo k, 0, 0, 0] ++ le32 (h.nvm.bank k).version.toNat)
  h.mpReset cause

/-! #### Patrol scrub (R309, R310) -/

/-- A memory of a domain is powered: the domain is on, or in RET with the memory's RET_MASK bit (R309, R339). -/
def Hub.memPowered (h : Hub) (n : DomIx) (bit : Nat) : Bool :=
  match (h.dom n).state with
  | .on | .draining | .entering => true
  | .ret => (h.retMask n).testBit bit
  | _ => false

/-- The packet whose data a scrubbed Shell cell holds, or none where the cell is free. Which cells hold what is the die's own choice: a
free value. -/
def Hub.cellUser (h : Hub) : Option Holder := h.holders[h.readWord (h.holders.length + 1)]?

/-- A failing Shell cell: it waits for its release where it is in use, else it is retired at once (R310). -/
def Hub.cellWorn (h : Hub) (cell : Nat) (used : Bool) : Hub :=
  let h := h.cellFails cell
  if used || !h.nvm.toRetire.contains cell then h
  else ((h.modNvm fun n => { n with toRetire := n.toRetire.filter fun c => c ≠ cell }).cellRetire cell).pageStore (.config .retired)

/-- A word of a Shell cell is scrubbed (R308-R310): with an uncorrectable error, the packet that uses the cell is marked, or the free
cell is rewritten. -/
def Hub.cellScrub (h : Hub) (cell word : Nat) (r : EccRead) : Hub :=
  let user := h.cellUser
  let h := if isUe r || lastingErr r then h.drawn else h
  let h := h.eccSeen 0 (16 * cell + word) (if user.isSome then 1 else 0) r
  let h := match isUe r, user with
    | true, some x => h.holderMark x
    | _, _ => h
  if lastingErr r then h.cellWorn cell user.isSome else h

/-- A word of the descriptor store is scrubbed with the Shell (R307-R309): the packet an uncorrectable descriptor belongs to can no
longer be routed (R191). DESIGN CHOICE (log 105): it is discarded as its turn to leave comes. -/
def Hub.descScrub (h : Hub) (r : EccRead) : Hub :=
  if r = .clean then h
  else
    let word := h.readWord 524288
    let user := h.descHolders[h.drawn.readWord (h.descHolders.length + 1)]?
    let h := h.drawn.drawn.eccSeen 1 word (if user.isSome then 2 else 0) r
    match isUe r, user with
    | true, some x => h.holderUnrouted x
    | _, _ => h

/-- One word of the Shell patrol (R308-R310), which runs while its memory is powered (R309): a word of the cell, or, as the 17th, of the
descriptor store. -/
def Hub.shellScrub (h : Hub) (word : Fin 17) (r : EccRead) : Hub :=
  let cell := h.nvm.scrubCell
  let h :=
    if word.val = 16 then (if h.memPowered domPe 16 then h.descScrub r else h)
    else if h.memPowered domPe (cell / 1536) then h.cellScrub cell word.val r
    else h
  if (h.dom domPe).state = .off || (h.dom domPe).state = .exiting then h
  else
    let h := h.modNvm fun n => { n with scrubCell := (cell + 1) % 24576 }
    if cell = 24575 then h.bump (cntNvm 11) else h

/-- The entry of the deferral queue that covers a byte of bank 7, the entries laid end to end. -/
def deferAt : List Deferred → Nat → Nat → Option Nat
  | [], _, _ => none
  | d :: rest, off, i => if off < deferBytes d then some i else deferAt rest (off - deferBytes d) (i + 1)

/-- The deferral queue has emptied, where it held something before (R319, R330). -/
def Hub.drainEnd (h : Hub) (held : Bool) : Hub :=
  if held && h.nvm.deferQ.isEmpty then
    let n := h.nvm
    ((h.modNvm fun n => { n with drainCnt := 0, drainWait := 0 }).huEvt 1).raise srcNvm 0x8021 1
      (le16 n.drainCnt ++ [0, 0] ++ le32 n.drainWait)
  else h

/-- A deferred entry is discarded for an uncorrectable error (R307, R320, R324). -/
def Hub.deferDrop (h : Hub) (i : Nat) : Hub :=
  let h := ((h.huEvt 3).bump (cntNvm 22))
  let r := match (h.nvm.deferQ.getD i { store := .erase 0, since := 0 }).store with
    | .record r => some r
    | _ => none
  let h := h.modNvm fun n => { n with deferQ := n.deferQ.eraseIdx i }
  let h := match r with
    | some r => (h.modNvm fun n => n.lose r).collectLost r
    | none => h
  h.drainEnd true

/-- The message in a slot of ring memory is damaged (R307, R362): slots 0-7 hold commands, 8-15 responses, oldest first. -/
def Hub.slotDamaged (h : Hub) (r : RingIx) (slot : Nat) : Hub :=
  if slot < 8 then
    if slot < (h.ring r).cmds.length then
      (h.freeSlots r fun h => (h.modRing r fun g => { g with cmds := g.cmds.eraseIdx slot }).stallEval r).mbxCrcErr
    else h
  else (h.modRing r fun g => { g with resps := g.resps.eraseIdx (slot - 8), cursor := if slot = 8 then 0 else g.cursor }).stallEval r

/-- A word of the 8 KiB of ring memory beyond the rings is damaged: a command in its assembly is discarded as for a bad CRC (R307,
R362, R364). Where in them the assembly buffers lie is the die's own choice: a free value (log 110). -/
def Hub.ringRestDamaged (h : Hub) (k : Nat) : Hub :=
  (([2, 3] : List RingIx).filter fun r => Config.ringRest k == r.val && (h.ring r).asmOpen).foldl
    (fun h r => (h.asmDrop r).mbxCrcErr) h

/-- An uncorrectable error at a word of the MP patrol, by the memory it lies in (R307, R309). -/
def Hub.mpScrubUe (h : Hub) (w : Nat) : Hub :=
  if w < 28672 then (h.eccUe 2 w 3).mpRestart 4
  else if w < 32768 then
    match deferAt h.nvm.deferQ ((w - 28672) * 16) 0 with
    | some i => (h.eccUe 2 w 4).deferDrop i
    | none => h.eccUe 2 w 0
  else
    let k := w - 32768
    if hk : k / 256 < 6 then (h.eccUe 3 k 5).slotDamaged ⟨k / 256, hk⟩ (k % 256 / 16) else (h.eccUe 3 k 5).ringRestDamaged (k - 1536)

/-- One word of the MP patrol (R308, R309). -/
def Hub.mpScrub (h : Hub) (r : EccRead) : Hub :=
  let w := h.nvm.mpScrub
  let on := if w < 32768 then h.memPowered domMp (w / 4096) else h.memPowered domBus 0
  let h :=
    if !on then h
    else match r with
      | .clean => h
      | .corrected hard => if w < 32768 then h.eccCe 2 w hard else h.eccCe 3 (w - 32768) hard
      | .uncorrectable _ => h.mpScrubUe w
  let h := h.modNvm fun n => { n with mpScrub := (w + 1) % 34816 }
  if w = 34815 then h.bump (cntNvm 12) else h

/-! #### Configuration parity (R311-R313) -/

/-- The group of a register is pending. -/
def Hub.groupPending (h : Hub) (off : Nat) : Bool := h.glob.pending.getLsbD (h.groupOf off)

/-- The bits of a register that carry parity (R311). -/
def parBits (off : Nat) : Word :=
  if 0x49400 ≤ off ∧ off < 0x4A400 then (gateEntryInfo true (off % 16 / 4)).rw
  else match regInfo off with
    | some i => i.rwb ||| i.rw ||| i.sc
    | none => 0

/-- The second copy of a register is its shadow: it holds buffered fields (R311). -/
def hasShadow (off : Nat) : Bool :=
  match regInfo off with
  | some i => i.rwb ≠ 0
  | none => false

/-- A register kept in a memory of PE: a map entry or a word of a gate list (R339). -/
def inPeMem (off : Nat) : Bool := decide ((0x40000 ≤ off ∧ off < 0x48000) ∨ (0x48400 ≤ off ∧ off < 0x4A400))

/-- The direction of a GATE offset. -/
def gateDir (off : Nat) : DirIx :=
  if off < 0x48400 then ⟨(off - 0x48000) / 0x40 % 2, Nat.mod_lt _ (by omega)⟩
  else ⟨(off - 0x48400) / 0x800 % 2, Nat.mod_lt _ (by omega)⟩

/-- Wrong bits of the active copy stay (R312). -/
def Hub.actSpoil (h : Hub) (off : Nat) (bits : Word) : Hub :=
  if 0x48400 ≤ off ∧ off < 0x4A400 then
    let k := (off - 0x48400) % 0x800 / 4
    h.modGate (gateDir off) fun g =>
      if off < 0x49400 then { g with admin := smSet gateWordReset g.admin k (smGet gateWordReset g.admin k ^^^ bits) }
      else { g with oper := smSet gateWordReset g.oper k (smGet gateWordReset g.oper k ^^^ bits) }
  else h.setAct off (h.act off ^^^ bits)

/-- The word a learned entry of an index would hold, while its device's snooped state is held (R313). -/
def Hub.relearned (h : Hub) (i : Nat) : Option Word :=
  let eps := fun (d : Dev) =>
    [{ num := 0, dirIn := true, ttype := 0, maxPkt := 0 }, { num := 0, dirIn := false, ttype := 0, maxPkt := 0 }] ++ d.active
  if !h.learnEn then none
  else h.sched.devs.findSome? fun d =>
    if d.admitted && !d.hs && d.addr ≠ 0 then
      ((eps d).find? fun e => mapIndex d.addr e.num e.dirIn == i).map fun e => h.learnEndpoint d.pod e
    else none

/-- The safe response of a map entry: invalid in its bank, learned again where it was learned (R313). -/
def Hub.entrySafe (h : Hub) (off : Nat) : Hub :=
  let bankB := decide (0x44000 ≤ off)
  let i := (off % 0x4000) / 4
  let w := h.mapWord bankB i
  let h := h.setMapWord bankB i (invalidWord w)
  if w.getLsbD 31 && !w.getLsbD 18 then
    match h.relearned i with
    | some v => h.setMapWord bankB i v
    | none => h
  else h

/-- Entries not past their commit point return without a refusal; their requests stay pending (R353). -/
def Hub.entriesHeld (h : Hub) : Hub :=
  ((List.finRange 24).filter fun n =>
      (h.dom n).state == .draining || ((h.dom n).state == .entering && !(h.dom n).committed)).foldl
    (fun h n =>
      let d := h.dom n
      ((h.domBack n 31).modDom n fun x => { x with queued := d.target, planned := false }).modSeq fun q =>
        if d.planned then { q with plan := n :: q.plan } else { q with waiting := n :: q.waiting }) h

/-- What a block does as it enters its safe response for a register (R225, R244, R313, R353); `first`: it was not in it. -/
def Hub.safeEnter (h : Hub) (off : Nat) (first gateFirst : Bool) : Hub :=
  let b := blockOf off
  let h := if first then h.modNvm fun n => { n with safeAt := n.safeAt ++ [(b, h.clk)] } else h
  if b = 28 then h.entrySafe off
  else if b = 29 then
    if gateFirst then (h.gateEvt (gateDir off) 6).raise srcGate 0x5111 3 [(gateDir off).val] else h
  else if !first then h
  else if b = 26 then h.modBud fun x => { x with heldPrio := some (Vector.ofFn h.prio) }
  else if b = 27 then h.schedEvt 0
  else if b = 30 then h.holdoverOn
  else if b = 34 then h.restartAbort
  else if 1 ≤ b ∧ b ≤ 3 then h.entriesHeld
  else h

/-- A fault is recorded (R312, R326, R330, R427): the capture takes the first one after CFG_PARITY was cleared. -/
def Hub.parNote (h : Hub) (off copy outcome : Nat) : Hub :=
  let b := blockOf off
  let h := h.modNvm fun n => { n with parCopy := copy, parOutcome := outcome, parBlock := b }
  let h := if (h.evtWord 0x6C).getLsbD 0 then h.evt 0x6C 1
    else (h.evt 0x6C 0).modNvm fun n => { n with capBlock := b, capAddr := off }
  (h.bump (cntNvm 13)).raise srcNvm 0x8010 3 ([b, copy, outcome, 0] ++ le32 off)

/-- Wrong bits of the shadow stay (R312). A mirror is never read. -/
def Hub.shdSpoil (h : Hub) (off : Nat) (bits : Word) : Hub := if hasShadow off then h.setShd off (h.shd off ^^^ bits) else h

/-- A fault of a register is held, in place of what was held for it. -/
def Hub.parHold (h : Hub) (f : ParFault) : Hub :=
  h.modNvm fun n => { n with faults := (n.faults.filter fun g => g.off ≠ f.off) ++ [f] }

/-- The active copy cannot be trusted and the second copy cannot restore it: the safe response (R312, R313). -/
def Hub.parSafe (h : Hub) (off copy : Nat) (a s : Word) : Hub :=
  let b := blockOf off
  let first := !h.inSafe b
  let gateFirst := b == 29 && !h.gateSafe (gateDir off)
  let kept := h.act off
  let h := (h.parNote off copy 2).bump (cntNvm 15)
  let h := if b = 28 then h else h.actSpoil off a
  ((h.shdSpoil off s).parHold { off := off, copy := copy, safe := true, since := h.clk, kept := kept }).safeEnter off first gateFirst

/-- PARITY_FAULT: the outcome of one mismatch (R312). A copy already known to be faulted gives no new fault; a second copy that is found
faulted in a register under its safe response is one (R324). -/
def Hub.parFault (h : Hub) (x : ParityHit) : Hub :=
  let old := h.nvm.faults.find? fun f => f.off == x.off
  let safe := old.any ParFault.safe
  let bad2 := old.any fun f => f.copy ≠ 0
  let a := if safe then 0 else x.active &&& parBits x.off
  let s := if bad2 then 0 else x.second &&& parBits x.off
  if (a = 0 && s = 0) || (inPeMem x.off && h.domDark domPe) then h
  else
    let pend := h.groupPending x.off
    if a ≠ 0 then
      if pend || s ≠ 0 || bad2 then h.parSafe x.off (if s ≠ 0 || bad2 then 2 else 0) a s
      else (h.parNote x.off 0 1).bump (cntNvm 14)
    else if pend && hasShadow x.off then
      let f : ParFault := { off := x.off, copy := 1, safe := false, since := h.clk }
      (((h.parNote x.off 1 3).bump (cntNvm 16)).shdSpoil x.off s).parHold
        (match old with | some g => { g with copy := if safe then 2 else 1 } | none => f)
    else
      match safe, old with
      | true, some g => (((h.parNote x.off 2 2).bump (cntNvm 15)).shdSpoil x.off s).parHold { g with copy := 2 }
      | _, _ => (h.parNote x.off 1 1).bump (cntNvm 14)

/-- A hit, in the order of R427: blocks ascend with their offsets. -/
def hitInsert (x : ParityHit) : List ParityHit → List ParityHit
  | [] => [x]
  | y :: ys => if x.off ≤ y.off then x :: y :: ys else y :: hitInsert x ys

/-- One full pass of the scanner (R311, R326). -/
def Hub.parityScan (h : Hub) (hits : List ParityHit) : Hub :=
  let h := (hits.foldr hitInsert []).foldl (fun h x => h.parFault x) h
  h.modNvm fun n => { n with scanPasses := (n.scanPasses + 1) % 65536 }

/-! #### Stores and the Seedbank (R315-R320) -/

/-- Some records are still to be stored. -/
def Hub.collecting (h : Hub) (rs : List Rec) : Bool :=
  let mine := fun (s : Store) => match s with | .record r => rs.any fun x => recSame x r | _ => false
  (h.nvm.inStore ++ h.nvm.deferQ).any fun d => mine d.store

/-- JOURNAL_ACK goes out once the records of its frame are stored (R268). -/
def Hub.jcolAnswer (h : Hub) : Hub :=
  let ready := h.csb.jcolAcks.filter fun a => !h.collecting a.2.2
  let h := h.modCsb fun c => { c with jcolAcks := c.jcolAcks.filter fun a => h.collecting a.2.2 }
  ready.foldl (fun h a => h.csbDown { dst := a.1, src := 0, body := .journalAck a.2.1 }) h

/-- A worker's record that is about to be overwritten before it was forwarded counts as lost to the collection (R268). -/
def Hub.overwritten (h : Hub) : Hub :=
  let n := h.nvm
  let k := h.jnlTotal - 16384
  let old : Rec := smGet (fun _ => ({} : Rec)) n.ring n.head
  if 0 < n.wraps && h.csb.role = 1 && h.jcolEn && decide (h.csb.jcolPos ≤ k) && decide (h.jcolSev ≤ old.sev)
      && !(h.csb.jcolSent.any fun x => x.1 == k) then
    h.modCsb fun c => { c with jcolLost := c.jcolLost + 1 }
  else h

/-- A record takes its place in the ring (R315). -/
def Hub.ringPut (h : Hub) (r : Rec) : Hub :=
  let h := h.overwritten
  let n := h.nvm
  let wrap := n.head = 16383
  let h := (h.modNvm fun n =>
    { n with ring := smSet (fun _ => ({} : Rec)) n.ring n.head r, head := (n.head + 1) % 16384
             ringFull := n.ringFull || wrap, wraps := if wrap then (n.wraps + 1) % 65536 else n.wraps }).bump (cntNvm 17)
  if wrap then h.jnlEvt 1 else h

/-- A page of an image lies in its bank. -/
def BankInfo.put (b : BankInfo) (page : Nat) (bytes : List (BitVec 8)) : BankInfo :=
  { b with pages := smSet (fun _ => ([] : List (BitVec 8))) b.pages page bytes }

/-- Bytes laid over a byte string from an offset on. -/
def overlay (old : List Byte) (off : Nat) (bs : List Byte) : List Byte :=
  let pad := old ++ List.replicate (off - old.length) 0
  pad.take off ++ bs ++ pad.drop (off + bs.length)

/-- What a page of the configuration store brings about once it is stored. -/
def Hub.pageDone (h : Hub) (p : CfgPage) : Hub :=
  match p with
  | .retired => h.modNvm fun n => { n with retiredMram := n.retired }
  | .activeBank k cause => h.bankNamed k cause
  | .root r digest valid =>
    let words : List (Nat × Word) := (List.range 8).map fun i => (0x60100 + 0x20 * r.val + 4 * i, digest.getD i 0)
    let mask : Word := BitVec.twoPow 32 (8 + r.val)
    let ctrl := smGet regReset h.nvm.stored 0x60000
    let all := words ++ [(0x60000, if valid then ctrl ||| mask else ctrl &&& ~~~mask)]
    h.modNvm fun n => { n with stored := all.foldl (fun m (x : Nat × Word) => smSet regReset m x.1 x.2) n.stored }
  | .keyBlob slot => h.modSec fun c => { c with blobs := c.blobs.set slot (c.keys[slot].map fun k => { key := k, opened := c.dbgOpened }) }
  | .keyErase slot => h.modSec fun c => { c with blobs := c.blobs.set slot none }
  | .cert slot off bytes =>
    h.modSec fun c =>
      let old := match c.chains.find? fun x => x.1 == slot with
        | some x => x.2
        | none => []
      { c with chains := (c.chains.filter fun x => x.1 ≠ slot) ++ [(slot, overlay old off bytes)] }
  | .idTable => h

/-- A store finishes (R315, R318, R321, R299). -/
def Hub.storeDone (h : Hub) (s : Store) : Hub :=
  match s with
  | .record r => h.ringPut r
  | .config p => h.pageDone p
  | .firmware k page bytes _ => (h.modNvm fun n => n.modBank k fun b => b.put page bytes).bump (cntNvm 23)
  | .erase step => h.eraseStored step

/-- MRAM_STORE_COMPLETE: the store that runs finishes, and the next one can start (R315, R318). -/
def Hub.storeNext (h : Hub) : Hub :=
  match h.nvm.inStore with
  | [] => h
  | d :: rest => ((h.modNvm fun n => { n with inStore := rest }).storeDone d.store).lineStart.jcolAnswer

/-- JOURNAL_RECORD: the oldest record raised reaches the NVM unit (R315, R348). -/
def Hub.journalNext (h : Hub) : Hub :=
  match h.nvm.raised with
  | [] => h
  | r :: rest =>
    let h := h.modNvm fun n => { n with raised := rest }
    let r := if r.flags.testBit 2 then r else { r with devId := h.csb.myId }
    if !h.domOn domNvm then h.stageRecord r
    else (h.recordStore r).domCheck

/-- The flag of a record stored after deferral (R316, R319). -/
def drained : Store → Store
  | .record r => .record { r with flags := r.flags ||| 1 }
  | s => s

/-- The first deferred store of a class, and the queue without it. -/
def deferTake (c : StoreClass) : List Deferred → Option (Deferred × List Deferred)
  | [] => none
  | d :: rest => if storeClass d.store = c then some (d, rest) else (deferTake c rest).map fun x => (x.1, d :: x.2)

/-- The oldest deferred store of a class is tried (R319, R320). -/
def Hub.drainClass (h : Hub) (c : StoreClass) : Hub :=
  match deferTake c h.nvm.deferQ with
  | none => h
  | some (d, rest) =>
    if h.energyFor c then
      (h.modNvm fun n =>
        { n with deferQ := rest, drainCnt := n.drainCnt + 1, drainWait := max n.drainWait (msSince h.clk d.since) }).linePut
        { store := drained d.store, since := d.since, held := true }
    else h

/-- HOLDUP_MEASUREMENT (R318, R319): V from the pin, then the deferred stores. -/
def Hub.holdup (h : Hub) (pinMv : Nat) : Hub :=
  let h := (h.modNvm fun n => { n with huV := pinMv * h.huScale }).eccFlush
  if h.domRuns domNvm then
    let held := !h.nvm.deferQ.isEmpty
    (((((((h.drainClass .journal).drainClass .config).drainClass .firmware).drainClass .erase).drainEnd held).eraseKick).jcolAnswer).domCheck
  else h

/-- The 32 bytes of a record (R316). -/
def recBytes (r : Rec) : List Byte :=
  putLe 8 r.tb.toNat ++ putLe 2 r.devId ++ putLe 2 r.src ++ putLe 2 r.code ++ putLe 1 r.sev ++ putLe 1 r.flags
    ++ ((r.data ++ List.replicate 16 0).take 16).map (BitVec.ofNat 8)

/-- A record of the ring as it is read. -/
def Hub.ringRec (h : Hub) (i : Nat) : Rec := smGet (fun _ => ({} : Rec)) h.nvm.ring (i % 16384)

/-- A read of a record of MRAM: what it showed is counted and journaled (R307, R308, R317). -/
def Hub.recRead (h : Hub) (i : Nat) (r : EccRead) : Hub := h.eccSeen 4 (2 * (i % 16384)) 6 r

/-- RD_IDX (R317). -/
def Hub.journalLoad (h : Hub) (i : Nat) (r : EccRead) : Hub :=
  let h := (h.setAct 0x78048 (BitVec.ofNat 32 (i % 16384))).parWritten 0x78048 false
  (h.recRead i r).modNvm fun n => { n with win := bytesWords (recBytes (h.ringRec i)), rdUe := isUe r }

/-- The MP meets an uncorrectable error: counted and recorded in its memory (R307, R330). -/
def Hub.mpEcc (h : Hub) (x : MpError) : Hub :=
  match x with
  | .sram w => h.eccUe 2 w 3
  | .fetch w => h.eccUe 4 w 3

/-! #### The commands -/

/-- SHELL_SCRUB (R309). -/
def execShellScrub (word : Fin 17) (r : EccRead) (s : State) : Host.Outcome State Fault Refusal :=
  perform s fun h => h.shellScrub word r

/-- MP_SCRUB (R309). -/
def execMpScrub (r : EccRead) (s : State) : Host.Outcome State Fault Refusal := perform s fun h => h.mpScrub r

/-- PARITY_SCAN (R311, R312). -/
def execParityScan (hits : List ParityHit) (s : State) : Host.Outcome State Fault Refusal :=
  perform s fun h => h.inDom domNvm fun h => h.parityScan hits

/-- JOURNAL_RECORD (R315, R348). -/
def execJournalRecord (s : State) : Host.Outcome State Fault Refusal := perform s fun h => h.journalNext

/-- MRAM_STORE_COMPLETE (R315, R318). -/
def execMramStoreComplete (s : State) : Host.Outcome State Fault Refusal :=
  perform s fun h => h.inDom domNvm fun h => h.storeNext

/-- HOLDUP_MEASUREMENT (R318, R319). -/
def execHoldupMeasurement (pinMv : Nat) (s : State) : Host.Outcome State Fault Refusal := perform s fun h => h.holdup pinMv

/-- MP_WATCHDOG_EXPIRY (R322, R323). -/
def execMpWatchdogExpiry (s : State) : Host.Outcome State Fault Refusal :=
  perform s fun h => h.inDom domMp fun h => h.mpRestart 3

/-- MP_EXCEPTION (R322, R323). -/
def execMpException (s : State) : Host.Outcome State Fault Refusal :=
  perform s fun h => h.inDom domMp fun h => h.mpRestart 5

/-- MP_ECC_ERROR (R307, R322, R323). -/
def execMpEccError (x : MpError) (s : State) : Host.Outcome State Fault Refusal :=
  perform s fun h => h.inDom domMp fun h => (h.mpEcc x).mpRestart 4

end Sys2Proof.Machine
end

