-- ==== Sys2Proof/Machine/Domains.lean ====
section
/-! DEFINITION. Power domains, wakes, the Husk and the clocks (chapter 13: R334-R348, R351-R353, R357, R358). -/

namespace Sys2Proof.Machine

/-! #### Entries (R334-R338) -/

/-- DOMAIN_DRAINED (R334 step 3): nothing is in flight any more. The refusals are checked once more (R335). -/
def Hub.domDrained (h : Hub) (n : DomIx) : Hub :=
  let d := h.dom n
  if d.state == .draining then
    match h.domReason n d.target with
    | some (c, o, x) => (h.domRefuse n c o x).domNext
    | none =>
      if (h.inFlight n d.target).isNone then h.modDom n fun d => { d with state := .entering, committed := false } else h
  else h

/-- T_DRAIN_EXPIRY (R334 step 3, R336): refused IN_FLIGHT, owned by the block that still holds the transfer, where no earlier reason
holds (R335). -/
def Hub.domDrainExpiry (h : Hub) (n : DomIx) : Hub :=
  let d := h.dom n
  if d.state == .draining then
    match h.domReason n d.target with
    | some (c, o, x) => (h.domRefuse n c o x).domNext
    | none => (h.domRefuse n 1 ((h.inFlight n d.target).getD (domOwner n)) 0).domNext
  else h

/-- The rails that an entry to OFF removes, in descending order (R337, R344). -/
def Hub.railsLeaving (h : Hub) (n : DomIx) : List (Fin 10) :=
  (List.finRange 10).reverse.filter fun r =>
    h.railEn r && h.seq.railOn.getLsbD r.val && (h.railMask r).testBit n.val
      && (List.finRange 24).all fun d => d == n || !(h.railMask r).testBit d.val || (h.dom d).state == .off

/-- DOMAIN_COMMIT_POINT (R334 step 5, R337). -/
def Hub.domCommit (h : Hub) (n : DomIx) : Hub :=
  let d := h.dom n
  if d.state == .entering && !d.committed then
    match h.domReason n d.target with
    | some (c, o, x) => (h.domRefuse n c o x).domNext
    | none =>
      let h := h.modDom n fun d => { d with committed := true }
      let rails := if d.target = .off then h.railsLeaving n else []
      if rails.isEmpty then h
      else (h.modSeq fun q => { q with railsOff := rails, offFor := some n }).railOffNext n
  else h

/-- RET or OFF is reached (R334 step 6, R337, R358). TB is lost with PE's power (R339). -/
def Hub.domArrived (h : Hub) (n : DomIx) : Hub :=
  let st : DomState := if (h.dom n).target = .ret then .ret else .off
  let h := h.modDom n fun d => { d with state := st, target := .none, committed := false, planned := false, since := h.clk, fromRet := false }
  let h := h.modSeq fun q =>
    { q with offFor := none, mpOnPll := q.mpOnPll && n != domMp, pllLock := q.pllLock && n != domBus, refOk := q.refOk && n != domBus }
  let h := if n = domPe ∧ st = .off then ({ h with tb := 0 }).modTiming fun t => { t with unsync := true } else h
  let h := ((h.domEvt 0).bump (cntDom n 0)).raise srcDom 0x7001 1 ([n.val, st.code] ++ le16 (h.dom n).removed ++ le32 h.huskTime)
  ((h.replayAll n).domJobsEnd n true).domNext

/-- DOMAIN_ENTRY_COMPLETE (R334 step 6): not before the rails that its last target removes are off, or, for RET, its rails are on
again (R344, R353). -/
def Hub.domEntered (h : Hub) (n : DomIx) : Hub :=
  let d := h.dom n
  if d.state == .entering && d.committed then
    let leaving := if d.target = .off then h.railsLeaving n else []
    if !h.seq.railsOff.isEmpty then h.railsKick
    else if !leaving.isEmpty then (h.modSeq fun q => { q with railsOff := leaving, offFor := some n }).railOffNext n
    else if d.target = .ret ∧ !(h.railsNeeded n).isEmpty then h.railsRequestOn n
    else h.domArrived n
  else h

/-! #### What an exit restores (R339, R340) -/

/-- The domain whose counter lies at a slot (R339, R431). -/
def slotDom (a : Nat) : Nat :=
  if a < 0x94000 then (a - 0x90000) / 0x400
  else if a < 0x95000 then 23
  else if a < 0x99100 then 21
  else if a < 0x99130 then 17
  else if a < 0x99160 then 16
  else if a < 0x99200 then 0
  else if a < 0x99500 then 22
  else if a < 0x99600 then 19
  else if a < 0x99700 then 18
  else if a < 0x9A000 then 17
  else if a < 0x9A800 then 16
  else 17

/-- Out of OFF, the RC bits and the counters of a domain start at 0 (R339). -/
def Hub.domClear (h : Hub) (n : DomIx) : Hub :=
  { h with evts := h.evts.filter fun e => blockDom (blockOf e.1) != n.val
           counters := h.counters.filter fun c => slotDom c.1 != n.val }

/-- A pod (R52, R339, R340): its connection machine starts unattached. The capture memory is not kept. -/
def Hub.podRestore (h : Hub) (p : PodIx) (off : Bool) : Hub :=
  let h := if (h.tc p).attached then h.leaveAttached p 6 0 else h.portGone p
  let h := h.modCapture p fun c => { c with items := [] }
  let h :=
    if off then
      ({ h with tcs := h.tcs.set p tcsReset[p], pdes := h.pdes.set p {}, captures := h.captures.set p {}
                links := h.links.set p {}, fwls := h.fwls.set p {} }).modVb (podPath p) fun _ => {}
    else h
  let h := h.enterUnattached p
  let h := if h.tcEn p then h else h.modTc p fun t => { t with state := .disabled }
  h.budSetCharge (podPath p) (h.idleCharge p)

/-- The descriptor store, which no RET_MASK bit keeps, is empty (R339). -/
def Hub.descLost (h : Hub) : Hub :=
  h.modSched fun s => { s with devs := s.devs.map fun d => { d with desc := none, cfgs := [] } }

/-- Endpoint Map entries and gate-list entries are lost (R339): every entry invalid, the gates open (R242). -/
def Hub.mapLost (h : Hub) : Hub :=
  { (h.modSched fun s => { s with mapA := [], mapB := [] }) with gates := Vector.replicate 2 {} }

/-- PE out of RET (R339): TB advances by the measured LRC cycles, 3125 ticks each. -/
def Hub.peFromRet (h : Hub) (lrc : Nat) : Hub :=
  let h := { h with tb := h.tb + BitVec.ofNat 64 (lrc * 3125) }
  let h := if h.timing.unsync then h else h.holdoverOn
  let h := h.descLost
  if (h.retMask domPe).testBit 16 then h else h.mapLost

/-- PE out of OFF (R339): the Shell is empty, buckets full and deficits 0, TB from 0 and unsynchronised. -/
def Hub.peFromOff (h : Hub) : Hub :=
  let h := h.mapLost.descLost
  let h := h.modSched fun s =>
    { uq := Vector.ofFn fun n => { tokens := tok (h.shpBurst n * 64) }
      pol := Vector.ofFn fun m => { tokens := tok (h.polBurst m * 64) }
      devs := s.devs.map fun d => { d with cfg := 0, alts := [] } }
  ({ h with tb := 0, timing := {} }).modSec fun c => { c with utcValid := false }

/-- The MP starts on FRC (R340, R351): it resumes where it kept all eight banks, otherwise it runs the boot ROM. -/
def Hub.mpRestore (h : Hub) (off : Bool) : Hub :=
  let h := h.modSeq fun q => { q with mpOnPll := false }
  if !off && h.retMask domMp % 256 = 255 then h
  else
    let h := h.modMbx fun m => { m with umuriUp := false, bootRomOnly := false, restarting := false, policy := none, halves := [] }
    let h := (h.modSec fun c => { c with staging := [], bootOk := false }).bootStart
    h.modNvm fun n =>
      { n with lastRestart := 0, inRestart := false
               deferQ := if !off && (h.retMask domMp).testBit 7 then n.deferQ else [] }

/-- SEC (R339): the key RAM is empty unless it was kept; out of OFF its status is that of reset, with a new nonce. -/
def Hub.secRestore (h : Hub) (off : Bool) : Hub :=
  let h := if !off && (h.retMask domSec).testBit 0 then h else h.modSec fun c => { c with keys := Vector.replicate 32 none }
  if off then
    h.modSec fun c =>
      { c with bootOk := false, dbgOpenNow := false, utcValid := false, sealFail := false, respBusy := none, engine := [], nonceNo := c.nonceNo + 1 }
  else h

/-- NVM (R339, R348): out of OFF its status is that of reset; the staged records follow. -/
def Hub.nvmRestore (h : Hub) (off : Bool) : Hub :=
  let h :=
    if off then
      h.modNvm fun n =>
        { n with win := List.replicate 8 0, rdUe := false, scrubCell := 0, mpScrub := 0, ceCount := Vector.replicate 5 0
                 ceWord := Vector.replicate 5 0, ceSince := Vector.replicate 5 none, eccMem := 0, eccHard := false, eccWord := 0
                 parCopy := 0, parOutcome := 0, parBlock := 0, scanPasses := 0, restartsInWin := 0 }
    else h
  h.stageFlush

/-- Every ring starts empty with its sequence numbers at 0 (R339, R384). -/
def Hub.ringsLost (h : Hub) : Hub :=
  { (h.modMbx fun m => { m with rings := Vector.replicate 6 {}, jobs := Vector.replicate 8 none, taken := 0 }) with holding := [] }

/-- BUS (R339, R340, R346, R384): rings and holding region unless kept; the crystal runs and the PLL is locked, unless REFCLK is
lost; the SMBus target takes over from the matcher. -/
def Hub.busRestore (h : Hub) (off : Bool) : Hub :=
  let h := if !off && (h.retMask domBus).testBit 0 then h else h.ringsLost
  let h := if off then { (h.modBud fun _ => {}) with glob := { pending := h.glob.pending } } else h
  (h.modSeq fun q => { q with pllLock := !q.fallback, refOk := !q.fallback }).busTakes

/-- CSB out of OFF: unresolved until its strap or AUTO_WAIT decides (R252, R339). The ID table and the place in the Seedbank are in
MRAM. -/
def Hub.csbRestore (h : Hub) : Hub :=
  h.modCsb fun c =>
    { strap := c.strap, role := if c.strap = 2 then 2 else if c.strap = 1 then 1 else 0
      tree := if c.strap = 2 then Config.dieUid else 0
      workers := c.workers.map fun w => { uid := w.uid }, jcolPos := c.jcolPos }

/-- OUT out of OFF (R134, R150): an outlet that asks for no load claims. Out of RET what was missed is acted on. -/
def Hub.outRestore (h : Hub) (off : Bool) : Hub :=
  if off then (List.finRange 4).foldl (fun h o => ((h.modOut o fun _ => {}).modVb (outPath o) fun _ => {}).outletEval o) h
  else (List.finRange 4).foldl (fun h o => h.outletCatch o) h

/-- The domain's contents at the end of an exit from RET or OFF (R339). -/
def Hub.domRestore (h : Hub) (n : DomIx) (off : Bool) (lrc : Nat) : Hub :=
  let h := if off then h.domClear n else h
  if hp : n.val < 16 then h.podRestore ⟨n.val, hp⟩ off
  else if n = domBus then h.busRestore off
  else if n = domNvm then h.nvmRestore off
  else if n = domSec then h.secRestore off
  else if n = domMp then h.mpRestore off
  else if n = domPe then (if off then h.peFromOff else h.peFromRet lrc)
  else if n = domCsb then (if off then h.csbRestore else h)
  else if n = domOut then h.outRestore off
  else h

/-! #### Exits (R340) -/

/-- An exit may complete: the domains it requires are ON, its rails are on, and a domain clocked from the PLL has its lock
(R332, R340, R353). -/
def Hub.exitReady (h : Hub) (n : DomIx) : Bool :=
  (h.dom n).state == .exiting && (domRequires n).all (fun d => h.domOn d) && (h.railsNeeded n).isEmpty
    && ((n != domPe && n != domCsb) || h.seq.pllLock)

/-- DOMAIN_EXIT_COMPLETE (R340, R353, R358, R359). `lrc`: the LRC cycles of the stay. -/
def Hub.domExited (h : Hub) (n : DomIx) (lrc : Nat) : Hub :=
  if h.exitReady n then
    let d := h.dom n
    let off := d.prev == .off
    let h := h.domRestore n off lrc
    let next := if h.seq.plan.contains n || h.seq.waiting.contains n then DomTgt.none else d.queued
    let h := h.modDom n fun d => { d with state := .on, failing := false, queued := if next = .none then d.queued else .none }
    let h := ((h.domEvt 1).bump (cntDom n 1)).raise srcDom 0x7002 1
      ([n.val, d.prev.code, d.source, 0] ++ le32 d.stay ++ le32 h.huskTime)
    (if next = .none then h.domJobsEnd n true else h.domRun n next).domNext
  else h

/-- EXIT_RAIL_RETRY (R340). -/
def Hub.exitRetry (h : Hub) (n : DomIx) : Hub :=
  if (h.dom n).state == .exiting && (h.dom n).failing then h.railsRequestOn n else h

/-! #### Wakes (R345-R347) -/

/-- WAKE (R345). Attach sensing acts on a pod in RET or OFF alone (R52). -/
def Hub.wake (h : Hub) (s : Nat) : Hub :=
  if hs : s < 16 then (if ((h.dom (podDom ⟨s, hs⟩)).state == .ret || (h.dom (podDom ⟨s, hs⟩)).state == .off) && h.stbySense ⟨s, hs⟩ then h.wakeSource s else h)
  else h.wakeSource s

/-- SMBUS_WAKE_MATCH (R346). -/
def Hub.smbMatch (h : Hub) : Hub :=
  if h.smbMatchEn && !h.domOn domBus then
    ((h.modSeq fun q => { q with stretch := true, stretchNak := false }).emit (.stretch true)).wakeSource 16
  else h

/-- T_STRETCH_EXPIRY (R346, R358). -/
def Hub.stretchExpiry (h : Hub) : Hub :=
  if h.seq.stretch && !h.domOn domBus then
    let h := (h.modSeq fun q => { q with stretch := false, stretchNak := true }).emit (.stretch false)
    ((h.huskEvt 1).bump (cntHusk 24)).raise srcHusk 0x7007 2 [h.tStretch]
  else h

/-- A read of HUSK_FIFO_DATA pops the head word; empty, it returns Pip (R99, R347). -/
def Hub.fifoPop (h : Hub) : Hub × Word :=
  match h.seq.fifo with
  | [] => (h, pip)
  | [] :: rest => (h.modSeq fun q => { q with fifo := rest }, pip)
  | (w :: ws) :: rest => (h.modSeq fun q => { q with fifo := if ws.isEmpty then rest else ws :: rest }, w)

/-- FIFO_FLUSH (R99, R347): `rest` words of an item being pushed are discarded as orphans. -/
def Hub.fifoFlush (h : Hub) (rest : Nat) : Hub :=
  let h := h.modSeq fun q => { q with fifo := [] }
  if rest = 0 then h else h.huskEvt 3

/-! #### Clocks (R350-R352, R357) -/

/-- MP_CLK written (R351): CLK_MP without lock is refused, and the MP stays on FRC. -/
def Hub.mpClock (h : Hub) (pll : Bool) : Hub :=
  if pll && !h.seq.pllLock then h.clkEvt 2
  else
    ((h.setAct 0x3004 (if pll then 1 else 0)).modSeq fun q => { q with mpOnPll := pll && h.domRuns domMp }).parWritten 0x3004 false

/-- CLOCK_MEASUREMENT (R351, R357). -/
def Hub.clockMeasured (h : Hub) (frc lrc : Nat) : Hub :=
  if h.seq.pllLock then
    ((h.modSeq fun q =>
      { q with frcKhz := frc % 131072, lrcHz := lrc % 65536, clkSeq := (q.clkSeq + 1) % 128 }).evt 0x3010 31).evt 0x3014 31
  else h

/-- REFCLK_LOST (R352, R358): the clocks fall back to FRC. -/
def Hub.refLost (h : Hub) : Hub :=
  if h.refMonEn && h.seq.refOk && !h.seq.fallback then
    let locked := h.seq.pllLock
    let h := h.modSeq fun q =>
      { q with fallback := true, refOk := false, pllLock := false, mpOnPll := false, lostAt := h.clk }
    let h := if locked && h.domOn domBus then h.clkEvt 3 else h
    (((h.clkEvt 0).bump (cntHusk 26)).raise srcClk 0x7006 3 ([1, 0] ++ le32 0)).holdoverOn
  else h

/-- REFCLK_BACK (R352, R358): the PLL relocks and every clock returns to its source. -/
def Hub.refBack (h : Hub) : Hub :=
  if !h.domRuns domBus then h
  else
    let was := h.seq.fallback
    let since := h.seq.lostAt
    let h := h.modSeq fun q =>
      { q with refOk := true, pllLock := true, fallback := false, mpOnPll := q.mpOnPll || (was && h.flag 0x3004 0 && h.domRuns domMp) }
    if was then (h.clkEvt 1).raise srcClk 0x7006 3 ([0, 0] ++ le32 ((h.clk - since) / 100)) else h

/-! #### The commands -/

/-- TGT written in DOM_n_REQ (R343, R355). A value of 3 is ignored. -/
def execTgt (m : Master) (n : DomIx) (tgt : Fin 4) (hold : Bool) (s : State) : Host.Outcome State Fault Refusal :=
  perform s fun h => h.cmdBit m (0x2100 + 0x10 * n.val) false fun h =>
    let h := (h.setAct (0x2100 + 0x10 * n.val) (BitVec.ofNat 32 (tgt.val + if hold then 4 else 0))).parWritten (0x2100 + 0x10 * n.val) false
    if tgt = 3 then h else h.domRequest n (tgtOf tgt.val) hold

/-- DOMAIN_DRAINED (R334). -/
def execDomainDrained (n : DomIx) (s : State) : Host.Outcome State Fault Refusal := perform s fun h => h.domDrained n

/-- T_DRAIN_EXPIRY (R334). -/
def execTDrainExpiry (n : DomIx) (s : State) : Host.Outcome State Fault Refusal := perform s fun h => h.domDrainExpiry n

/-- DOMAIN_COMMIT_POINT (R337). -/
def execDomainCommitPoint (n : DomIx) (s : State) : Host.Outcome State Fault Refusal := perform s fun h => h.domCommit n

/-- DOMAIN_ENTRY_COMPLETE (R334). -/
def execDomainEntryComplete (n : DomIx) (s : State) : Host.Outcome State Fault Refusal := perform s fun h => h.domEntered n

/-- WAKE (R345). -/
def execWake (src : Fin 32) (s : State) : Host.Outcome State Fault Refusal := perform s fun h => h.wake src.val

/-- DOMAIN_EXIT_COMPLETE (R340). -/
def execDomainExitComplete (n : DomIx) (lrcCycles : Nat) (s : State) : Host.Outcome State Fault Refusal :=
  perform s fun h => h.domExited n lrcCycles

/-- EXIT_RAIL_RETRY (R340). -/
def execExitRailRetry (n : DomIx) (s : State) : Host.Outcome State Fault Refusal := perform s fun h => h.exitRetry n

/-- SMBUS_WAKE_MATCH (R346). -/
def execSmbusWakeMatch (s : State) : Host.Outcome State Fault Refusal := perform s fun h => h.smbMatch

/-- T_STRETCH_EXPIRY (R346). -/
def execTStretchExpiry (s : State) : Host.Outcome State Fault Refusal := perform s fun h => h.stretchExpiry

/-- HUSK_TIMER (R345): source 21, off while TMR_S is 0 (R356). -/
def execHuskTimer (s : State) : Host.Outcome State Fault Refusal := perform s fun h => if h.tmrS = 0 then h else h.wakeSource 21

/-- HUSK_FIFO_DATA_READ (R347). -/
def execHuskFifoDataRead (m : Master) (s : State) : Host.Outcome State Fault Refusal :=
  perform s fun h => h.readAcc m 0x1018 fun h => h.fifoPop.1.emit (.read h.fifoPop.2)

/-- MP_CLK written (R351). -/
def execMpClk (m : Master) (pll : Bool) (s : State) : Host.Outcome State Fault Refusal :=
  perform s fun h => h.cmdBit m 0x3004 false fun h => h.mpClock pll

/-- CLOCK_MEASUREMENT (R351). -/
def execClockMeasurement (frcKhz lrcHz : Nat) (s : State) : Host.Outcome State Fault Refusal :=
  perform s fun h => h.clockMeasured frcKhz lrcHz

/-- REFCLK_LOST (R352). -/
def execRefclkLost (s : State) : Host.Outcome State Fault Refusal := perform s fun h => h.refLost

/-- REFCLK_BACK (R352). -/
def execRefclkBack (s : State) : Host.Outcome State Fault Refusal := perform s fun h => h.refBack

/-- PLL_UNLOCK (R357). -/
def execPllUnlock (s : State) : Host.Outcome State Fault Refusal :=
  perform s fun h =>
    if h.seq.pllLock then
      let h := h.modSeq fun q => { q with pllLock := false }
      if h.domOn domBus then h.clkEvt 3 else h
    else h

end Sys2Proof.Machine
end

