-- ==== Sys2Proof/Machine/Status.lean ====
section
/-! DEFINITION. The words of the read-only fields (R29, R61-R66, R105-R110, R145-R150, R168-R169, R199-R202, R227-R230, R246-R248,
R274-R275, R303-R304, R326-R329, R355-R357, R395-R396, R425-R427, R431): what the hardware shows of its state. Times left are
rounded up to a whole unit. -/

namespace Sys2Proof

/-- SPEED code (R199). -/
def Speed.code : Speed → Nat
  | .none => 0 | .low => 1 | .full => 2 | .high => 3 | .gen1x1 => 4 | .gen2x1 => 5 | .gen2x2 => 6

/-- CCn_SEEN code (R61). -/
def Term.code : Term → Nat
  | .open => 0 | .ra => 1 | .rd => 2 | .rp _ => 3

/-- SS_LTSSM code (R199). -/
def Ltssm.code : Ltssm → Nat
  | .ssDisabled => 0 | .rxDetect => 1 | .ssInactive => 2 | .polling => 3 | .u0 => 4 | .u1 => 5 | .u2 => 6 | .u3 => 7
  | .recovery => 8 | .hotReset => 9 | .loopback => 10 | .compliance => 11

end Sys2Proof

namespace Sys2Proof.Machine

/-- U2_STATE code (R199). -/
def U2State.code : U2State → Nat
  | .notConnected => 0 | .disabled => 1 | .resetting => 2 | .enabled => 3 | .suspended => 4 | .resuming => 5 | .l1 => 6

/-- CLASS code of a moisture reading (R64). -/
def MoistClass.code : MoistClass → Nat
  | .dry => 0 | .wet => 1 | .ra => 2 | .rd => 3

/-- Bank state code (R328). -/
def BankState.code : BankState → Nat
  | .empty => 0 | .writing => 1 | .verified => 2 | .active => 3 | .bad => 4

/-- A word made of fields: lowest bit, width, value. -/
def pk (l : List (Nat × Nat × Nat)) : Word := BitVec.ofNat 32 (l.foldl (fun a f => a + f.2.2 % 2 ^ f.2.1 * 2 ^ f.1) 0)

/-- The largest value of a width where a count exceeds it. -/
def sat (bits v : Nat) : Nat := min v (2 ^ bits - 1)

/-- Units of `unit` ticks left until a time, rounded up. -/
def leftUp (now fin unit : Nat) : Nat := (fin - now + unit - 1) / unit

/-- The low and high word of a 64-bit value. -/
def half64 (v : BitVec 64) (hi : Bool) : Word := if hi then v.extractLsb' 32 32 else v.extractLsb' 0 32

/-! #### Pods and outlets -/

/-- POD_p_TC_STAT (R61). -/
def Hub.stTc (h : Hub) (p : PodIx) : Word :=
  let t := h.tc p
  let dry := if t.state == .wet then t.dryCnt else 0
  pk [(0, 5, t.state.code), (5, 2, t.cc1.code), (7, 2, t.cc2.code), (9, 1, t.orient.toNat), (10, 1, t.vconnOn.toNat)
      , (11, 2, t.rpLevel), (13, 1, t.chatterExt.toNat), (14, 1, t.sbuCsb.toNat), (15, 1, dry), (16, 2, dry)
      , (24, 8, if t.state == .lockout then leftUp h.clk t.lockoutEnd ticksPerSecond else 0)]

/-- POD_p_MOIST_RES_n and POD_p_MOIST_BASE_n (R64, R65). -/
def Hub.stMoist (h : Hub) (p : PodIx) (n : Fin 4) (base : Bool) : Word :=
  let m := (h.tc p).pins[n]
  if base then pk [(0, 16, m.base), (16, 1, m.baseValid.toNat), (17, 2, m.baseCnt)]
  else pk [(0, 16, m.res), (16, 2, m.cls.code), (24, 8, m.seq)]

/-- POD_p_BH_STAT (R66). -/
def Hub.stBh (h : Hub) (p : PodIx) : Word :=
  let t := h.tc p
  pk [(0, 1, t.bhAvail.toNat), (1, 1, t.hold.isSome.toNat), (2, 1, t.lastResult.toNat), (3, 1, t.lastUsb2.toNat), (16, 16, t.lastDur)]

/-- POD_p_PDE_STAT (R106). -/
def Hub.stPde (h : Hub) (p : PodIx) : Word :=
  let e := h.pde p
  pk [(0, 4, e.state.code), (4, 1, e.roleSrc.toNat), (5, 1, e.dfp.toNat), (6, 1, (h.tc p).vconnOn.toNat), (7, 1, e.rev3.toNat)
      , (8, 1, e.eprMode.toNat), (9, 1, e.casMode.toNat), (10, 1, e.sinkTxNg.toNat), (11, 2, e.swap.code)
      , (13, 1, e.inputAlerted.toNat), (16, 8, sat 8 e.capsCount)]

/-- POD_p_PDE_CONTRACT (R75, R107): I_C is the one the sequencer has; of an implicit contract of a source, 5 V and the current of
the Rp level. -/
def Hub.stContract (h : Hub) (p : PodIx) : Word :=
  let c := (h.pde p).contract
  let impl := c.ctype = 0 ∧ (h.tc p).srcAttached
  let ic := if impl && (h.pde p).pending.isNone then h.implicitIc p else if (h.pde p).roleSrc then (h.vb (podPath p)).iC else c.i
  pk [(0, 11, if impl then 250 else c.v / 2), (11, 10, ic), (21, 4, c.pos), (25, 2, c.ctype)
      , (27, 1, c.mismatch.toNat)]

/-- POD_p_PDE_OFFER, _CABLE, _VIOL_STAT (R105, R107). -/
def Hub.stPdMore (h : Hub) (p : PodIx) (k : Nat) : Word :=
  let e := h.pde p
  if k = 0 then pk [(0, 13, (h.cons (podPath p)).pOff), (16, 4, e.numObj), (24, 8, e.offerSeq)]
  else if k = 1 then
    pk [(0, 1, e.discDone.toNat), (1, 1, e.emarked.toNat), (2, 1, e.eprCable.toNat), (3, 2, e.iCbl), (5, 2, e.vCbl)
        , (7, 1, e.activeCbl.toNat), (8, 4, sat 4 e.attempts)]
  else pk [(0, 4, e.srRun), (4, 4, e.hrRun), (8, 8, e.lastViol)]

/-- POD_p_PDE_PDO_n (R109). -/
def Hub.stPdo (h : Hub) (p : PodIx) (n : Nat) : Word :=
  if n = 6 then 0 else (h.pde p).pdos.getD n 0

/-- POD_p_CAP_STAT (R110). -/
def Hub.stCap (h : Hub) (p : PodIx) : Word :=
  let c := h.capture p
  pk [(0, 9, c.depth), (9, 1, (c.depth == 0).toNat), (10, 1, (c.depth == 256).toNat), (16, 8, c.items.length)]

/-- Ticks left in RETRY_WAIT or COOL_DOWN (R129, R145). -/
def Hub.vbWaitLeft (h : Hub) (x : PathIx) : Nat :=
  let e := h.vb x
  match e.tripAt with
  | none => 0
  | some t =>
    if e.state == .retryWait then t + e.backoff - h.clk
    else if e.state == .coolDown then t + e.floor - h.clk
    else 0

/-- x_VB_STAT to x_VB_TARGET (R145-R147). -/
def Hub.stVb (h : Hub) (x : PathIx) (o : Nat) : Word :=
  let e := h.vb x
  match o with
  | 0x20 =>
    pk [(0, 4, e.state.code), (4, 3, e.retryCnt), (7, 1, e.gpre.toNat), (8, 1, e.gmain.toNat), (9, 1, e.enhanced.toNat)
        , (10, 1, e.pg.toNat), (11, 1, (h.dschOn x).toNat), (12, 1, e.ocTiming.toNat), (13, 1, e.uvHeld.toNat)
        , (14, 1, e.transition.toNat), (15, 1, e.sinkDir.toNat), (16, 4, e.lastTrip)
        , (24, 8, sat 8 ((h.vbWaitLeft x + 100 * ticksPerMs - 1) / (100 * ticksPerMs)))]
  | 0x24 => pk [(0, 12, sat 12 e.vbusV), (12, 12, int12 e.iMeas), (24, 7, e.measSeq)]
  | 0x28 => pk [(0, 12, sat 12 e.vsrcV), (12, 10, tEstCode e.tEstMeas), (24, 7, e.measSeq)]
  | 0x2C => pk [(0, 12, sat 12 (h.vbILim x)), (12, 12, sat 12 (h.vbIFast x))]
  | 0x30 => pk [(0, 12, sat 12 e.vTgt), (12, 1, e.pps.toNat)]
  | _ => 0

/-- POD_p_LINK_STAT, _DS, _US, _SNOOP (R199, R200). -/
def Hub.stLink (h : Hub) (p : PodIx) (o : Nat) : Word :=
  let l := h.link p
  match o with
  | 0x604 =>
    pk [(0, 4, l.speed.code), (4, 4, l.ltssm.code), (8, 3, l.u2.code), (11, 1, l.portEn.toNat), (12, 3, l.disReason)
        , (15, 1, (!l.deferred.isEmpty).toNat), (16, 7, l.devAddr), (23, 6, l.deferred.length)]
  | 0x608 => pk [(0, 12, sat 12 l.dsNeed), (12, 12, sat 12 l.dsRsv), (24, 1, l.dsShort.toNat)]
  | 0x60C =>
    pk [(0, 13, sat 13 (h.usHeld p))
        , (16, 8, sat 8 (sumBy (fun q => q.reqs.countP fun r => r.pod == p && r.cellAt.isSome) h.sched.pq.toList))
        , (24, 8, sat 8 (h.sched.rsvs.countP fun r => r.pod == p))]
  | 0x610 =>
    match h.sched.devs.find? fun d => d.pod == p && d.direct with
    | none => pk [(15, 1, (h.snoopTrunc p).toNat)]
    | some d =>
      let known := d.cfg ≠ 0 ∧ (d.cfgs.any fun c => c.value == d.cfg && !c.truncated)
      pk [(0, 8, d.cfg), (8, 6, d.active.length), (14, 1, (decide known).toNat), (15, 1, (h.snoopTrunc p).toNat), (16, 3, d.cfgs.length)]
  | _ => 0

/-- UPSEL_STAT (R29). -/
def Hub.stUpsel (h : Hub) : Word :=
  let u := h.upsel
  pk [(0, 2, match u.active with | some a => a.val | none => 2), (2, 2, h.upState 0), (4, 2, h.upState 1), (6, 1, u.timing.toNat)
      , (7, 1, u.seq.isSome.toNat), (8, 3, u.lastCause)
      , (16, 16, if u.timing then leftUp h.clk u.failEnd ticksPerMs else 0)]

/-- POD_p_FWL_STAT (R303). -/
def Hub.stFwl (h : Hub) (p : PodIx) : Word :=
  let f := h.fwl p
  pk [(0, 2, f.verdict), (2, 3, f.auth.code), (5, 3, f.denyCause), (8, 5, f.denyRule), (13, 4, f.authErr), (17, 3, f.rootUsed)
      , (20, 7, f.blocked.length)]

/-- OUT_o_INFO (R150). -/
def Hub.stOut (h : Hub) (o : OutIx) : Word :=
  let q := h.outlet o
  pk [(0, 1, q.pres.toNat), (1, 1, q.budgetWait.toNat), (2, 1, (h.consShed (outPath o)).toNat), (3, 1, (h.statAsserted o).toNat)
      , (4, 1, h.budWarn.toNat), (5, 1, (h.vb (outPath o)).pg.toNat)]

/-- The read-only fields of a pod's block (R428). -/
def Hub.roPod (h : Hub) (p : PodIx) (o : Nat) : Word :=
  if o = 0x08 then h.stTc p
  else if 0x14 ≤ o ∧ o < 0x24 then h.stMoist p ⟨(o - 0x14) / 4 % 4, Nat.mod_lt _ (by omega)⟩ false
  else if 0x24 ≤ o ∧ o < 0x34 then h.stMoist p ⟨(o - 0x24) / 4 % 4, Nat.mod_lt _ (by omega)⟩ true
  else if o = 0x38 then h.stBh p
  else if o = 0x214 then h.stPde p
  else if o = 0x218 then h.stContract p
  else if 0x21C ≤ o ∧ o < 0x228 then h.stPdMore p ((o - 0x21C) / 4)
  else if 0x240 ≤ o ∧ o < 0x260 then h.stPdo p ((o - 0x240) / 4)
  else if 0x400 ≤ o ∧ o < 0x440 then h.stVb (podPath p) (o - 0x400)
  else if 0x600 ≤ o ∧ o < 0x620 then h.stLink p o
  else if o = 0x7C8 then h.stUpsel
  else if o = 0x804 then h.stCap p
  else if o = 0x808 then (h.capturePop p).2
  else if o = 0xC04 then (if 2 ≤ p.val then h.stFwl p else 0)
  else 0

/-! #### GLOBAL, HUSK, DOM, CLK, RLINK, HOLDUP, BUDGET -/

/-- A captured access (R426). -/
def accWord : Option AccCap → Word
  | none => 0
  | some c => pk [(0, 23, c.addr), (24, 3, c.master), (27, 2, c.size), (29, 1, c.write.toNat)]

/-- GLOBAL (R425, R426). -/
def Hub.roGlobal (h : Hub) (o : Nat) : Word :=
  let g := h.glob
  match o with
  | 0x00 => 0x4F1E1402
  | 0x04 => 0x000000B0
  | 0x08 => 0x14022F7A
  | 0x0C => 0x14120200
  | 0x44 => g.pending.setWidth 32 ||| (g.withheld.setWidth 32 <<< 16)
  | 0x4C => pk [(0, 16, g.snapSeq)]
  | 0x50 => half64 g.snapTb false
  | 0x54 => half64 g.snapTb true
  | 0x64 => accWord g.lockCap
  | 0x68 => accWord g.accCap
  | 0x6C => pk [(2, 6, h.nvm.capBlock), (8, 20, h.nvm.capAddr)]
  | _ => 0

/-- HUSK (R356). -/
def Hub.roHusk (h : Hub) (o : Nat) : Word :=
  match o with
  | 0x10 => h.seq.wakePend
  | 0x14 => BitVec.ofNat 32 h.huskTime
  | 0x18 => h.fifoPop.2
  | 0x1C =>
    pk [(0, 7, h.seq.fifoDepth), (7, 1, (h.seq.fifoDepth == 0).toNat), (8, 1, (h.seq.fifoDepth == 64).toNat)]
  | _ => 0

/-- DOM_n_STATE (R355). -/
def Hub.stDom (h : Hub) (n : DomIx) : Word :=
  let d := h.dom n
  let replay := (List.range 32).any fun s => h.seq.wakePend.getLsbD s && (h.latchSet s).contains n
  pk [(0, 3, d.state.code), (3, 2, (if d.queued = .none then d.pend else d.queued).code), (5, 1, replay.toNat), (6, 1, d.failing.toNat)
      , (8, 7, if d.state == .draining then leftUp h.clk (d.drainAt + h.tDrain n * ticksPerMs) ticksPerMs else 0)]

/-- DOM_STAT (R355). -/
def Hub.stDomAll (h : Hub) : Word :=
  pk [(0, 24, (List.finRange 24).foldl (fun a n => if h.domOn n then a else a + 2 ^ n.val) 0)
      , (24, 1, (h.entryBusy || h.doms.toList.any fun d => d.state == .exiting).toNat), (25, 5, h.seq.stopDom)]

/-- DOM_RAIL_STAT (R355): a rail not managed reads on. -/
def Hub.stRails (h : Hub) : Word :=
  pk [(0, 10, (List.finRange 10).foldl (fun a r => if h.seq.railOn.getLsbD r.val || !h.railEn r then a + 2 ^ r.val else a) 0)
      , (16, 10, h.seq.railFail.toNat)]

/-- DOM (R355). -/
def Hub.roDom (h : Hub) (o : Nat) : Word :=
  if o = 0x04 then h.stDomAll
  else if o = 0x40 then h.stRails
  else if hn : 0x100 ≤ o ∧ o < 0x280 then
    let n : DomIx := ⟨(o - 0x100) / 0x10, by omega⟩
    if o % 0x10 = 8 then h.stDom n else if o % 0x10 = 0xC then BitVec.ofNat 32 (h.dom n).refuser else 0
  else 0

/-- CLK (R357). -/
def Hub.roClk (h : Hub) (o : Nat) : Word :=
  let q := h.seq
  match o with
  | 0x08 => pk [(0, 1, q.pllLock.toNat), (1, 1, q.refOk.toNat), (2, 1, q.mpOnPll.toNat), (3, 1, q.fallback.toNat)]
  | 0x10 => pk [(0, 17, q.frcKhz), (24, 7, q.clkSeq)]
  | 0x14 => pk [(0, 16, q.lrcHz), (24, 7, q.clkSeq)]
  | _ => 0

/-- RLINK (R169). A transaction runs within one command of the table, so RL_BUSY reads 0 between them (DEDUCED, log 82). -/
def Hub.roRl (h : Hub) (o : Nat) : Word :=
  let l := h.rl
  if o = 0x04 then
    pk [(1, 5, l.curSlot.val), (8, 6, sat 6 l.queue.length), (16, 8, l.pgIn.toNat), (24, 1, l.alert.toNat)]
  else if 0x100 ≤ o ∧ o < 0x200 ∧ o % 8 = 4 then
    let s := l.slots[((o - 0x100) / 8) % 32]'(Nat.mod_lt _ (by omega))
    pk [(8, 8, s.voutMode.toNat), (16, 4, s.lastRes), (24, 8, s.rev.toNat)]
  else 0

/-- BUDGET (R168). -/
def Hub.roBud (h : Hub) (o : Nat) : Word :=
  let b := h.bud
  if o = 0x10 then pk [(0, 13, b.grant), (13, 1, b.grantValid.toNat), (14, 1, b.holding.toNat), (15, 1, b.floored.toNat)]
  else if o = 0x30 then
    pk [(0, 13, b.bEff), (13, 1, h.budWarn.toNat), (14, 1, b.warnVin.toNat), (15, 1, b.fail.toNat)
        , (16, 1, (decide (b.bEff < h.chargeSum)).toNat), (17, 1, b.restoring.toNat)]
  else if o = 0x34 then pk [(0, 14, twos 14 b.headroom), (16, 10, b.vinMeas)]
  else if hx : 0x80 ≤ o ∧ o < 0xD0 then
    let q := h.cons ⟨(o - 0x80) / 4, by omega⟩
    pk [(0, 13, q.charge), (16, 13, q.target.getD 0x1FFF), (29, 1, (q.target.any fun t => decide (t < q.charge)).toNat), (30, 1, q.shed.toNat)]
  else 0

/-! #### PE, MAP, GATE, TIME -/

/-- UQ_n_STAT to PQ_n_OUT (R229). -/
def Hub.stQueue (h : Hub) (n : QueueIx) (o : Nat) : Word :=
  let u := h.uq n
  let q := h.pq n
  match o with
  | 0x04 =>
    pk [(0, 12, sat 12 u.pkts.length), (12, 15, h.queueCells n), (27, 1, (h.eligible n).isSome.toNat)
        , (28, 3, match uqHead n u.pkts with | some x => h.headBlock n x | none => 0)]
  | 0x08 => pk [(0, 16, u.deficit), (16, 1, u.visited.toNat)]
  | 0x14 => BitVec.ofNat 32 (twos 32 (if h.shpRate n = 0 then (h.shpBurst n * 64 : Nat) else u.tokens / 16777216))
  | 0x18 =>
    match q.reqs with
    | [] => 0
    | r :: _ =>
      pk [(0, 11, sat 11 q.reqs.length), (11, 1, r.deferred.toNat), (12, 12, sat 12 ((h.clk - r.since) / 100)), (24, 3, h.pqBlock n r)]
  | 0x1C => pk [(0, 24, sat 24 q.out)]
  | _ => 0

/-- The PE block (R202, R227-R230). -/
def Hub.roPe (h : Hub) (o : Nat) : Word :=
  let s := h.sched
  if o = 0x04 then pk [(0, 15, h.poolFree), (16, 9, h.uq0Used)]
  else if o = 0x08 then pk [(0, 15, h.dsRsvSum), (16, 9, (List.finRange 16).foldl (fun a p => a + h.ttUsed p) 0)]
  else if o = 0x14 then
    pk [(0, 6, s.rr), (6, 1, (h.inSafe 27).toNat), (7, 1, s.sending.isSome.toNat), (8, 6, s.lastQ.val)]
  else if o = 0x24 then pk [(0, 1, s.mapActB.toNat), (1, 12, h.validEntries), (16, 16, s.flipSeq)]
  else if hn : 0x1000 ≤ o ∧ o < 0x1800 then h.stQueue ⟨(o - 0x1000) / 0x20, by omega⟩ (o % 0x20)
  else if hm : 0x2000 ≤ o ∧ o < 0x2800 then
    let m : PolIx := ⟨(o - 0x2000) / 0x10, by omega⟩
    let t := (h.policer m).tokens
    if o % 0x10 = 8 then BitVec.ofNat 32 (twos 32 (if h.polRate m = 0 then (h.polBurst m * 64 : Nat) else t / 16777216))
    else if o % 0x10 = 0xC then pk [(0, 1, (h.polRate m ≠ 0 && decide (t < 0)).toNat)]
    else 0
  else 0

/-- A word of an admin or operational gate-list entry. -/
def Hub.gateWord (h : Hub) (o : Nat) : Word :=
  let d : DirIx := if o % 0x1000 < 0x800 then 0 else 1
  let k := o % 0x800 / 4
  smGet gateWordReset (if o < 0x1000 then (h.gate d).admin else (h.gate d).oper) k

/-- GATE (R247). -/
def Hub.roGate (h : Hub) (o : Nat) : Word :=
  if hd : o < 0x80 then
    let d : DirIx := ⟨o / 0x40, by omega⟩
    let g := h.gate d
    let e := g.entryAt h.tb.toNat
    match o % 0x40 with
    | 0x14 =>
      pk [(0, 1, g.valid.toNat), (1, 1, g.pending.toNat), (2, 1, (h.gateSafe d).toNat), (4, 7, match e with | some x => x.1 | none => 0)
          , (12, 8, g.operLen), (20, 7, g.operCyc)]
    | 0x18 => pk [(0, 20, match e with | some x => x.2.2 | none => 0)]
    | 0x1C => BitVec.ofNat 32 g.adjK
    | 0x20 => half64 g.switchT false
    | 0x24 => half64 g.switchT true
    | 0x28 => half64 g.origin false
    | 0x2C => half64 g.origin true
    | 0x34 => half64 (h.gatesNow d) false
    | 0x38 => half64 (h.gatesNow d) true
    | _ => 0
  else 0

/-- TIME (R246). -/
def Hub.roTime (h : Hub) (o : Nat) : Word :=
  let t := h.timing
  match o with
  | 0x04 =>
    pk [(0, 1, t.unsync.toNat), (1, 1, t.holdover.toNat), (2, 2, t.srcUsed), (16, 16, twos 16 (clampInt (-32768) 32767 t.phaseErr))]
  | 0x08 => half64 h.tb false
  | 0x0C => t.hiLatch
  | 0x10 => pk [(0, 16, twos 16 t.trim)]
  | 0x18 => BitVec.ofNat 32 (twos 32 (clampInt (-2147483648) 2147483647 t.lastStep))
  | _ => 0

/-! #### SEC, CSB, NVM, MBX -/

/-- SEC (R304). -/
def Hub.roSec (h : Hub) (o : Nat) : Word :=
  let c := h.sec
  match o with
  | 0x04 =>
    pk [(0, 1, c.bootOk.toNat), (1, 1, bankNo c.bootBank), (2, 1, c.dbgOpened.toNat), (3, 1, c.dbgOpenNow.toNat)
        , (4, 1, c.erasePending.toNat), (5, 1, c.sealFail.toNat), (6, 1, c.respBusy.isSome.toNat)]
  | 0x0C => pk [(0, 16, c.secVerRun), (16, 16, c.secVerMin)]
  | 0x10 => pk [(0, 32, (List.finRange 32).foldl (fun a k => if (c.keys[k]).isSome then a + 2 ^ k.val else a) 0)]
  | 0x14 => Config.nonceWord c.nonceNo 0
  | 0x18 => Config.nonceWord c.nonceNo 1
  | 0x1C => Config.nonceWord c.nonceNo 2
  | 0x20 => Config.nonceWord c.nonceNo 3
  | 0x2C => pk [(0, 1, c.utcValid.toNat)]
  | _ => 0

/-- CSB_W_n_STAT, _GRANT, _DEMAND (R275). -/
def Hub.stWorker (h : Hub) (w : HubId) (k : Nat) : Word :=
  let x := h.worker w
  if k = 4 then
    pk [(0, 2, x.state), (2, 3, x.level), (5, 1, x.ackWait.toNat), (6, 1, x.stby.toNat), (8, 6, x.parent), (16, 3, x.fw)]
  else if k = 8 then pk [(0, 16, sat 16 x.issued), (16, 16, sat 16 x.held)]
  else if k = 0xC then pk [(0, 16, sat 16 (x.demand.toList.foldl (· + ·) 0)), (16, 16, sat 16 x.charges)]
  else 0

/-- CSB_STAT (R275). -/
def Hub.stCsb (h : Hub) : Word :=
  let c := h.csb
  pk [(0, 2, c.strap), (2, 2, c.role), (4, 1, c.joined.toNat), (5, 6, c.myId), (11, 3, c.level), (14, 1, c.parentPod.val)
      , (15, 1, c.parentUp.toNat), (16, 2, c.stby), (18, 1, c.mgrLost.toNat), (19, 6, h.workerCount), (25, 3, h.subDepth)]

/-- CSB (R274, R275). -/
def Hub.roCsb (h : Hub) (o : Nat) : Word :=
  let c := h.csb
  if o = 0x08 then pk [(16, 16, sat 16 h.jcolEligible.length)]
  else if o = 0x0C then h.stCsb
  else if o = 0x14 then half64 Config.dieUid false
  else if o = 0x18 then half64 Config.dieUid true
  else if o = 0x1C then half64 c.tree false
  else if o = 0x20 then half64 c.tree true
  else if o = 0x28 then pk [(0, 16, sat 16 h.csbPoolFree), (16, 1, c.minShort.toNat), (17, 1, c.raiseWait.toNat)]
  else if o = 0x30 then
    pk [(0, 3, c.dist.phase), (3, 6, c.dist.curId), (16, 6, workerIds.countP fun w => (h.worker w).fw = 2)
        , (22, 6, workerIds.countP fun w => (h.worker w).fw = 3)]
  else if hp : 0x40 ≤ o ∧ o < 0x80 then
    let l := h.clink ⟨(o - 0x40) / 4, by omega⟩
    pk [(0, 2, l.state), (2, 1, l.isParent.toNat), (3, 6, l.peerId), (16, 16, sat 16 l.delay)]
  else if hw : 0x110 ≤ o ∧ o < 0x500 then h.stWorker ⟨(o - 0x100) / 0x10, by omega⟩ (o % 0x10)
  else 0

/-- Entries of a kind in the deferral queue (R327). -/
def Hub.deferCount (h : Hub) (jnl : Bool) : Nat := h.nvm.deferQ.countP fun d => (storeClass d.store == .journal) == jnl

/-- NVM (R326-R328) and HOLDUP (R329). -/
def Hub.roNvm (h : Hub) (o : Nat) : Word :=
  let n := h.nvm
  if o = 0x04 then pk [(0, 15, n.scrubCell), (16, 9, n.retired.length)]
  else if o = 0x0C then pk [(0, 3, n.eccMem), (3, 1, n.eccHard.toNat), (4, 20, n.eccWord)]
  else if o = 0x20 then pk [(0, 2, n.parCopy), (2, 2, n.parOutcome), (4, 6, n.parBlock), (16, 16, n.scanPasses)]
  else if o = 0x24 then pk [(0, 32, (List.range 32).foldl (fun a b => if h.inSafe b then a + 2 ^ b else a) 0)]
  else if o = 0x28 then pk [(0, 1, (h.inSafe 32).toNat), (1, 1, (h.inSafe 33).toNat), (2, 1, (h.inSafe 34).toNat)]
  else if o = 0x44 then pk [(0, 14, n.head), (14, 1, n.ringFull.toNat), (16, 16, n.wraps)]
  else if o = 0x48 then pk [(16, 1, n.rdUe.toNat)]
  else if 0x50 ≤ o ∧ o < 0x70 then n.win.getD ((o - 0x50) / 4) 0
  else if o = 0x70 then
    pk [(0, 11, sat 11 (h.deferCount true)), (11, 8, sat 8 (h.deferCount false))
        , (19, 13, match n.deferQ with | d :: _ => sat 13 (msSince h.clk d.since) | [] => 0)]
  else if o = 0x80 then
    pk [(0, 1, bankNo n.active), (1, 3, n.bankA.state.code), (4, 3, n.bankB.state.code), (8, 4, n.lastRestart)
        , (12, 2, n.restartsInWin), (14, 1, n.inRestart.toNat)]
  else 0

/-- HU_STAT (R329). -/
def Hub.stHu (h : Hub) : Word := pk [(0, 16, sat 16 (h.nvm.huV / 256)), (16, 16, sat 16 (h.energy / 10))]

/-- MBX_RING_r_STAT (R396). A stall shows while a command waits for a response slot. -/
def Hub.stRing (h : Hub) (r : RingIx) : Word :=
  let g := h.ring r
  pk [(0, 4, g.cmds.length), (4, 4, g.resps.length), (8, 4, h.undelivered r), (12, 1, g.running.isSome.toNat)
      , (13, 1, g.stalled.toNat), (16, 16, g.nextSeq)]

/-- MBX (R395, R396): Umuri is in service, or the boot ROM in its place, while the MP runs. -/
def Hub.roMbx (h : Hub) (o : Nat) : Word :=
  let m := h.mbx
  if o = 0x08 then
    let cur := (List.finRange 6).find? fun r => (h.ring r).running.isSome
    pk [(0, 1, (m.umuriUp && h.domRuns domMp).toNat), (1, 1, (m.bootRomOnly && h.domRuns domMp).toNat), (2, 1, m.restarting.toNat), (3, 4, h.jobCount)
        , (7, 3, match cur with | some r => r.val | none => 7)
        , (16, 16, match cur with
            | some r => (match (h.ring r).running with | some c => c.tag.toNat | none => 0)
            | none => 0)]
  else if hr : 0x10 ≤ o ∧ o < 0x40 ∧ o % 8 = 0 then h.stRing ⟨(o - 0x10) / 8, by omega⟩
  else 0

/-- The read-only fields of a register, by its offset in the active view (R422). -/
def Hub.roWord (h : Hub) (x : Nat) : Word :=
  if x < 0x1000 then h.roGlobal x
  else if x < 0x2000 then h.roHusk (x - 0x1000)
  else if x < 0x3000 then h.roDom (x - 0x2000)
  else if x < 0x4000 then h.roClk (x - 0x3000)
  else if x < 0x5000 then h.roRl (x - 0x4000)
  else if x < 0x6000 then (if x = 0x5010 then h.stHu else 0)
  else if hp : 0x10000 ≤ x ∧ x < 0x20000 then h.roPod ⟨(x - 0x10000) / 0x1000, by omega⟩ (x % 0x1000)
  else if ho : 0x20000 ≤ x ∧ x < 0x21000 then
    if x % 0x400 = 0x48 then h.stOut ⟨(x - 0x20000) / 0x400, by omega⟩
    else h.stVb ⟨16 + (x - 0x20000) / 0x400, by omega⟩ (x % 0x400)
  else if 0x22000 ≤ x ∧ x < 0x23000 then h.roBud (x - 0x22000)
  else if 0x30000 ≤ x ∧ x < 0x33000 then h.roPe (x - 0x30000)
  else if 0x40000 ≤ x ∧ x < 0x48000 then h.mapWord (decide (0x44000 ≤ x)) (x % 0x4000 / 4)
  else if 0x48000 ≤ x ∧ x < 0x48400 then h.roGate (x - 0x48000)
  else if 0x48400 ≤ x ∧ x < 0x4A400 then h.gateWord (x - 0x48400)
  else if 0x4C000 ≤ x ∧ x < 0x4D000 then h.roTime (x - 0x4C000)
  else if 0x60000 ≤ x ∧ x < 0x60600 then h.roSec (x - 0x60000)
  else if 0x70000 ≤ x ∧ x < 0x70500 then h.roCsb (x - 0x70000)
  else if 0x78000 ≤ x ∧ x < 0x79000 then h.roNvm (x - 0x78000)
  else if 0x7C000 ≤ x ∧ x < 0x7D000 then h.roMbx (x - 0x7C000)
  else if 0x90000 ≤ x ∧ x < 0x9A868 then
    half64 (BitVec.ofNat 64 (smGet (fun _ => 0) h.holding (x - x % 8))) (x % 8 == 4)
  else 0

end Sys2Proof.Machine
end

