-- ==== Sys2Proof/Machine/Access.lean ====
section
/-! DEFINITION. Register accesses: views and aliases, lanes, shadows and commit groups, command bits, locks, guarded fields,
read side effects, snapshots (chapter 15). -/

namespace Sys2Proof.Machine

/-! #### Lanes and views (R399, R401, R414) -/

/-- The bits of the lanes an access covers: size 0 is 8 bits, 1 is 16 bits, 2 and 3 cover the word. -/
def laneMask (x size : Nat) : Word :=
  if size = 0 then (0xFF : Word) <<< (8 * (x % 4))
  else if size = 1 then (0xFFFF : Word) <<< (8 * (x % 4))
  else BitVec.allOnes 32

/-- A write of `w` into the bits of a mask: store, set alias (2), clear alias (3), toggle alias (4). -/
def mergeOp (view : Nat) (old mask w : Word) : Word :=
  match view with
  | 2 => old ||| (w &&& mask)
  | 3 => old &&& ~~~(w &&& mask)
  | 4 => old ^^^ (w &&& mask)
  | _ => (old &&& ~~~mask) ||| (w &&& mask)

/-- A write of `w` to the lanes `mask` of the register `reg` by a master: the address as issued, its view, its size code. -/
structure RegOp where
  m    : Master
  addr : Nat
  view : Nat
  reg  : Nat
  mask : Word
  w    : Word
  size : Nat
  deriving DecidableEq, Repr

/-! #### Failures (R412, R413, R415) -/

/-- A misaligned access. -/
def Hub.accFault (h : Hub) (m : Master) (addr size : Nat) (write : Bool) : Hub :=
  let h :=
    if (h.evtWord 0x60).getLsbD 1 then h
    else h.modGlob fun g => { g with accCap := some { addr := addr, master := m.val, size := size, write := write } }
  (h.globEvt 1).bump cntAcc

/-- A lock violation. -/
def Hub.lockViol (h : Hub) (m : Master) (addr size : Nat) : Hub :=
  let h :=
    if (h.evtWord 0x60).getLsbD 0 then h
    else h.modGlob fun g => { g with lockCap := some { addr := addr, master := m.val, size := size, write := true } }
  (h.globEvt 0).bump (cntLock m.val)

/-- The locked bits of a register for a master (R412). The map has no write-once field. -/
def Hub.lockedBits (h : Hub) (m : Master) (x : Nat) : Word :=
  if 0x100 ≤ x ∧ x < 0x18C then (if h.glob.pending.getLsbD ((h.act x).toNat % 16) then 0xF else 0)
  else if x = 0x40 then (if m.val = 5 ∧ h.nvm.inRestart then 0xFFFF else 0)
  else if 0x48000 ≤ x ∧ x < 0x48080 ∧ (x % 0x40 = 4 ∨ x % 0x40 = 8 ∨ x % 0x40 = 12) then
    (if (h.gate (gateDir x)).pending then BitVec.allOnes 32 else 0)
  else if 0x48400 ≤ x ∧ x < 0x49400 then (if (h.gate (gateDir x)).pending then BitVec.allOnes 32 else 0)
  else 0

/-! #### Commit (R403-R405, R312) -/

/-- A group whose shadow holds a parity fault, and every group in GLOBAL's safe response, is withheld. -/
def Hub.withheldNow (h : Hub) (g : Nat) : Bool :=
  h.inSafe 0 || h.nvm.faults.any fun f => f.copy ≠ 0 && h.groupOf f.off == g

/-- One register's shadow goes to its active copy. -/
def Hub.commitReg (h : Hub) (x : Nat) : Hub :=
  match regInfo x with
  | none => h
  | some i =>
    let a := (h.act x &&& ~~~i.rwb) ||| (h.shd x &&& i.rwb)
    (h.setAct x a).setShd x a

/-- Bits of both copies of a one-shot register clear (R404). -/
def Hub.oneShotClear (h : Hub) (x : Nat) (bits : Word) : Hub :=
  (h.setAct x (h.act x &&& ~~~bits)).setShd x (h.shd x &&& ~~~bits)

/-- MAP_FLIP (R210). -/
def Hub.flipBanks (h : Hub) : Hub :=
  let h := Hub.pacingLeft h (h.modSched fun s => { s with mapActB := !s.mapActB, flipSeq := (s.flipSeq + 1) % 65536 })
  ((h.mapEvt 0).bump (cntMap 1)).raise srcPe 0x5002 1
    ([if h.sched.mapActB then 1 else 0, 0] ++ le16 h.validEntries ++ le16 h.sched.flipSeq)

/-- The one-shots of the committed registers act once (R404); where their domain does not work they only clear. -/
def Hub.oneShots (h : Hub) (ks : List Nat) : Hub :=
  let flip := ks.contains 0x30020 && (h.act 0x30020).getLsbD 0
  let ap0 := ks.contains 0x48000 && (h.act 0x48000).getLsbD 1
  let ap1 := ks.contains 0x48040 && (h.act 0x48040).getLsbD 1
  let reev := ks.contains 0x60000 && (h.act 0x60000).getLsbD 1
  let h := if flip then (h.oneShotClear 0x30020 1).inDom domPe fun h => h.flipBanks else h
  let h := if ap0 then (h.oneShotClear 0x48000 2).inDom domPe fun h => h.gateApply 0 else h
  let h := if ap1 then (h.oneShotClear 0x48040 2).inDom domPe fun h => h.gateApply 1 else h
  if reev then (h.oneShotClear 0x60000 2).inDom domSec fun h => h.fwlReeval else h

/-- The tokens of a shaper or policer after a change of its fields (R218, R220). -/
def tokensAfter (t : Int) (rate rate' burst burst' : Nat) : Int :=
  let full := tok (burst' * 64)
  if rate = 0 ∧ rate' ≠ 0 then full
  else if rate' = 0 ∧ rate ≠ 0 then max 0 (min t full)
  else if burst' < burst then min t full
  else t

/-- The queues and policers follow their committed fields. -/
def Hub.shapersCommitted (old h : Hub) : Hub :=
  let h := (List.finRange 64).foldl
    (fun h n => h.modUq n fun q =>
      { q with tokens := tokensAfter q.tokens (old.shpRate n) (h.shpRate n) (old.shpBurst n) (h.shpBurst n) }) h
  let h := (List.finRange 128).foldl
    (fun h n => h.modPol n fun q =>
      q.refill (tokensAfter q.tokens (old.polRate n) (h.polRate n) (old.polBurst n) (h.polBurst n)) h.clk) h
  Hub.pacingLeft old h

/-- SECURE_PORT changed at a commit (R301): newly set, authentication starts at once in PDE.READY; cleared, a running exchange is
abandoned. -/
def Hub.securePortCommitted (old h : Hub) (p : PodIx) : Hub :=
  if !old.securePort p && h.securePort p then
    let h := h.modFwl p fun f => { f with keep := h.sched.devs.any fun d => d.pod == p && d.admitted }
    if (h.pde p).state = .ready then h.authReady p else h
  else if old.securePort p && !h.securePort p && (h.fwl p).auth == .running then
    let h := (h.authFree p).modPde p fun e => { e with pendAuth := false }
    (h.modFwl p fun f => { f with auth := .none, step := .idle, restart := false }).portReveal p
  else h

/-- A pod follows its committed fields, by the sub-blocks that changed (R59, R97, R122, R283). -/
def Hub.podCommitted (old h : Hub) (p : PodIx) (ch : List Nat) : Hub :=
  let mine := (ch.filter fun k => blockOf k = 6 + p.val).map fun k => k % 0x1000
  let h := if mine.any (· < 0x200) then h.inDom (podDom p) fun h => h.tcCommitted p else h
  let h := if mine.any fun k => 0x200 ≤ k && k < 0x400 then h.inDom (podDom p) fun h => Hub.pdCommitted old h p else h
  let h := if mine.any fun k => 0x400 ≤ k && k < 0x600 then h.inDom (podDom p) fun h => h.uvEval (podPath p) else h
  if mine.any fun k => 0xC00 ≤ k then h.inDom (podDom p) fun h => Hub.securePortCommitted old h p else h

/-- An outlet follows its committed fields (R134): its conditions, in VB.OFF without a grant the new settings at once, and a
waiting claim with them. -/
def Hub.outCommitted (old h : Hub) (o : OutIx) (ch : List Nat) : Hub :=
  if ch.any fun k => blockOf k = 22 + o.val then
    h.inDom domOut fun h =>
      let h := h.uvEval (outPath o)
      let turned := h.outletWants o != old.outletWants o
      let changed := ch.contains (outBase o + 0x44)
      let anew := changed && (h.outlet o).budgetWait
      let free := changed && (h.outlet o).grant = none && (h.vb (outPath o)).state = .off
      let h := if free then h.modVb (outPath o) fun e => { e with vTgt := h.vSet o, iC := h.iSet o } else h
      if turned || anew then h.outletEval o else h
  else h

/-- A regulator slot whose use changed is probed anew. -/
def Hub.slotCommitted (old h : Hub) (n : Fin 32) : Hub :=
  if h.slotEn n != old.slotEn n then h.modSlot n fun _ => {} else h

/-- The blocks follow the registers `ch` that a commit changed. Outlets whose claims one commit raises are decided in the order of
R156. -/
def Hub.committed (old h : Hub) (ch : List Nat) : Hub :=
  let inBlock := fun b => ch.any fun k => blockOf k == b
  let h := (List.finRange 16).foldl (fun h p => Hub.podCommitted old h p ch) h
  let h := (h.claimOrder.filterMap pathOut).foldl (fun h o => Hub.outCommitted old h o ch) h
  let h := if inBlock 4 then (List.finRange 32).foldl (fun h n => Hub.slotCommitted old h n) h else h
  let h := if inBlock 26 then h.inDom domBus fun h => (List.finRange 16).foldl Hub.budRpMax h.budNewB else h
  let h := if inBlock 27 then h.inDom domPe fun h => Hub.shapersCommitted old h else h
  let h := if inBlock 29 then h.inDom domPe fun h => h.noteOverrun old.sendingGate else h
  let h := if inBlock 30 && h.tbSrc = 3 then h.modTiming fun t => { t with trim := 0 } else h
  if inBlock 32 then h.inDom domCsb fun h => h.csbRetarget else h

/-- COMMIT (R403-R405): every named and pending group that is not withheld takes effect at one edge. -/
def Hub.commit (h : Hub) (mask : BitVec 16) : Hub :=
  let named := (List.range 16).filter fun g => mask.getLsbD g && h.glob.pending.getLsbD g
  let bad := named.filter fun g => h.withheldNow g
  let good := named.filter fun g => !h.withheldNow g
  let bits := fun (l : List Nat) => l.foldl (fun a g => a ||| BitVec.twoPow 16 g) (0 : BitVec 16)
  let h := h.modGlob fun g => { g with withheld := g.withheld ||| bits bad }
  if good.isEmpty then h
  else
    let old := h
    let ks := (h.active.map Prod.fst ++ h.shadow.map Prod.fst).filter fun k => hasShadow k && good.contains (h.groupOf k)
    let h := ks.foldl (fun h k => h.commitReg k) h
    let h := h.modGlob fun g => { g with pending := g.pending &&& ~~~(bits good), withheld := g.withheld &&& ~~~(bits good) }
    let h := h.parEndIf fun f => f.copy == 0 && hasShadow f.off && good.contains (old.groupOf f.off)
    let ch := ks.filter fun k => old.cfg k ≠ h.cfg k
    (Hub.committed old h ch).oneShots ks

/-! #### Snapshot (R419) -/

/-- The counters at the edge: times under way are counted up to it; a domain in OFF shows 0. -/
def Hub.countersNow (h : Hub) : List (Nat × Nat) :=
  let f := h.budOverTime.holdoverCount
  let f := (List.finRange 20).foldl (fun h x => h.countOnTime x) f
  let f := (List.finRange 64).foldl (fun h n => (h.pq n).reqs.foldl (fun h r => h.reqWaited n r) h) f
  let f := (List.finRange 6).foldl
    (fun h r => if (h.ring r).stalled then h.bumpBy (cntRing r 2) (h.clk - (h.ring r).stallAt) else h) f
  let f := (List.finRange 24).foldl
    (fun h n =>
      let ms := msSince h.clk (h.dom n).since
      match (h.dom n).state with
      | .ret => h.bumpBy (cntDom n 3) ms
      | .off => h.bumpBy (cntDom n 4) ms
      | _ => h) f
  f.counters.filter fun c =>
    decide (0x9A600 ≤ c.1 ∧ c.1 < 0x9A800) || !((List.finRange 24).any fun n => n.val == slotDom c.1 && (h.dom n).state == .off)

/-- SNAPSHOT TAKE. -/
def Hub.snapshot (h : Hub) : Hub :=
  { h with
    holding := h.countersNow
    glob := { h.glob with snapSeq := (h.glob.snapSeq + 1) % 65536, snapTb := if (h.dom domPe).state = .off then 0 else h.tb } }

/-! #### Writes -/

/-- A plain writable register takes a word. -/
def Hub.setRw (h : Hub) (x : Nat) (w : Word) : Hub :=
  if 0x48400 ≤ x ∧ x < 0x49400 then
    h.modGate (gateDir x) fun g => { g with admin := smSet gateWordReset g.admin ((x - 0x48400) % 0x800 / 4) w }
  else h.setAct x w

/-- What a plain writable register holds. -/
def Hub.getRw (h : Hub) (x : Nat) : Word := if 0x48400 ≤ x ∧ x < 0x49400 then h.gateWord (x - 0x48400) else h.act x

/-- The fields of CSB that only a manager has: they read zero and ignore writes on another hub (R274). -/
def Hub.mgrBits (h : Hub) (x : Nat) : Word :=
  if h.csb.role = 2 then 0
  else if x = 0x70004 then 0x007C0000
  else if x = 0x70024 then 0x00FFFFFF
  else if 0x70110 ≤ x ∧ x < 0x70500 ∧ x % 16 = 0 then BitVec.allOnes 32
  else 0

/-- Command bits that a parity fault has turned over are put right by a write (R314): they are no command. -/
def Hub.unspoil (h : Hub) (x : Nat) (bits : Word) : Hub :=
  if h.nvm.faults.any fun f => f.off == x then h.setAct x (h.act x &&& ~~~bits) else h

/-- The covered RWB bits go to the shadow, whose group becomes pending (R403); the covered RW bits to the active copy. -/
def Hub.storeFields (h : Hub) (i : RegInfo) (o : RegOp) (ok : Word) : Hub :=
  let b := i.rwb &&& ok
  let p := i.rw &&& ok
  let c := i.sc &&& ok
  let h :=
    if b = 0 then h
    else (h.setShd o.reg (mergeOp o.view (h.shd o.reg) b o.w)).modGlob fun g =>
      { g with pending := g.pending ||| BitVec.twoPow 16 (h.groupOf o.reg) }
  let h := if p = 0 then h else h.setRw o.reg (mergeOp o.view (h.getRw o.reg) p o.w)
  let h := if c = 0 then h else h.unspoil o.reg c
  if b = 0 ∧ p = 0 ∧ c = 0 then h else h.parWritten o.reg (i.rwb ≠ 0 && h.groupPending o.reg)

/-- What follows a write of a plain field that the hardware acts on at once (R285, R343). -/
def Hub.rwEffect (h : Hub) (x : Nat) : Hub :=
  if x = 0x60028 then h.modSec fun c => { c with utcValid := true }
  else if hx : 0x2100 ≤ x ∧ x < 0x2280 then
    let v := h.act x
    let t := v.toNat % 4
    if x % 16 ≠ 0 ∨ t = 3 then h else h.domRequest ⟨(x - 0x2100) / 16, by omega⟩ (tgtOf t) (v.getLsbD 2)
  else h

/-- A self-clearing command bit (R408) of a pod's block, written with 1. -/
def Hub.podAct (h : Hub) (p : PodIx) (o bit : Nat) : Hub :=
  match o, bit with
  | 0x000, 5 => h.errorRecovery p
  | 0x000, 6 => h.endLockout p
  | 0x010, _ => h.rebase p
  | 0x22C, 0 => h.cmdSendCaps p
  | 0x22C, 1 => if h.pdActive p then h.pdSoftReset p else h
  | 0x22C, 2 => if h.pdActive p then h.pdHardReset p 0x10 2 true else h
  | 0x22C, 3 => h.cmdVconnSwap p
  | 0x22C, 4 => h.pdCasExit p 1
  | 0x22C, 5 => h.cmdEprExit p
  | 0x41C, 0 => h.vbLatchClr (podPath p)
  | 0x41C, 1 => h.vbRetryClr (podPath p)
  | 0x7C4, _ => h.upSwitch
  | 0x800, _ => h.captureFlush p 0
  | 0xC0C, 0 => h.fwlRelease p
  | 0xC0C, 1 => h.fwlReauth p
  | _, _ => h

/-- A self-clearing command bit (R408), written with 1. -/
def Hub.cmdAct (h : Hub) (x bit : Nat) : Hub :=
  if x = 0x48 then h.snapshot
  else if x = 0x1020 then h.fifoFlush 0
  else if x = 0x2000 then h.planGo
  else if hp : 0x10000 ≤ x ∧ x < 0x20000 then h.podAct ⟨(x - 0x10000) / 0x1000, by omega⟩ (x % 0x1000) bit
  else if ho : 0x20000 ≤ x ∧ x < 0x21000 then
    let y : PathIx := ⟨16 + (x - 0x20000) / 0x400, by omega⟩
    if bit = 0 then h.vbLatchClr y else h.vbRetryClr y
  else if x = 0x48010 then h.gateCancel 0
  else if x = 0x48050 then h.gateCancel 1
  else if x = 0x78088 then h.mpRestart 1
  else if hr : 0x7C014 ≤ x ∧ x < 0x7C044 then
    let r : RingIx := ⟨(x - 0x7C014) / 8, by omega⟩
    if bit = 0 then h.ringClear r 2 else h.ringRewind r
  else h

/-- A commit that no master but an opened JTAG port can apply: the MP, through which the others act, restarts or is not ON (R10). -/
def Hub.commitBarred (h : Hub) (m : Master) : Bool := m.val ≠ 5 && (h.nvm.inRestart || !h.domOn domMp)

/-- The self-clearing bits of a word, lowest first; the clear alias issues none (R401, R408). -/
def Hub.cmdBits (h : Hub) (o : RegOp) (bits : Word) : Hub :=
  if o.view = 3 ∨ bits = 0 then h
  else if o.reg = 0x40 then (if h.commitBarred o.m then h else h.commit (bits.setWidth 16))
  else ((List.range 32).filter fun b => bits.getLsbD b).foldl (fun h b => h.cmdAct o.reg b) h

/-- A write of one 32-bit register by the checks of R416: guarded fields, the domain, locked fields, then the write. -/
def Hub.regPut (h : Hub) (i : RegInfo) (o : RegOp) : Hub :=
  let i := { i with rwb := i.rwb &&& ~~~(h.mgrBits o.reg) }
  let mp := h.secure o.m
  let deny := !mp && i.g &&& o.mask ≠ 0
  let h := if deny then h.denyAcc o.m o.addr true else h
  let ok := if mp then o.mask else o.mask &&& ~~~i.g
  let wr := (i.rwb ||| i.rw ||| i.sc) &&& ok
  if deny && wr = 0 then h
  else if h.domDark (domOf o.reg) then
    let h := h.accOff (domOf o.reg)
    if inPeMem o.reg then h else h.storeFields i o ok
  else
    let lk := h.lockedBits o.m o.reg &&& wr
    let h := if lk ≠ 0 then h.lockViol o.m o.addr o.size else h
    let ok := ok &&& ~~~lk
    let p := i.rw &&& ok
    if o.reg = 0x3004 ∧ p ≠ 0 then h.mpClock ((mergeOp o.view (h.act 0x3004) p o.w).getLsbD 0)
    else if o.reg = 0x78048 ∧ p ≠ 0 then
      (h.journalLoad ((mergeOp o.view (h.act 0x78048) p o.w).toNat % 16384) h.freeRead).drawn
    else
      let h := h.storeFields i o ok
      let h := if p ≠ 0 then h.rwEffect o.reg else h
      h.cmdBits o (o.w &&& i.sc &&& ok)

/-- A write that lies in one 32-bit register (R399, R415, R416). -/
def Hub.busWrite32 (h : Hub) (m : Master) (addr size : Nat) (v : Word) : Hub :=
  let view := addr / 0x100000
  let x := addr % 0x100000
  match regInfo (x - x % 4) with
  | none => h
  | some i =>
    if 4 < view then h
    else if addr % 2 ^ min size 2 ≠ 0 then h.accFault m addr size true
    else
      let o : RegOp := { m := m, addr := addr, view := view, reg := x - x % 4, mask := laneMask x size
                         w := v <<< (8 * (x % 4)), size := size }
      if 0x40000 ≤ x ∧ x < 0x48000 then
        let bankB := decide (0x44000 ≤ x)
        let k := x % 0x4000 / 4
        h.mapWrite m addr bankB k (mergeOp view (h.mapWord bankB k) o.mask o.w)
      else h.regPut i o

/-- A write through the register interconnect (R399-R417). -/
def Hub.busWrite (h : Hub) (m : Master) (addr size : Nat) (v : BitVec 64) : Hub :=
  if !h.mayAccess m then h
  else if size = 3 then
    if addr % 8 ≠ 0 then h.accFault m addr 3 true
    else (h.busWrite32 m addr 3 (v.setWidth 32)).busWrite32 m (addr + 4) 3 (v.extractLsb' 32 32)
  else h.busWrite32 m addr size (v.setWidth 32)

/-! #### Reads -/

/-- The command bits of a register that still wait to be taken (R109, R408): VCONN_SWAP during tSinkTx. -/
def Hub.cmdWaits (h : Hub) (x : Nat) : Word :=
  if hp : 0x10000 ≤ x ∧ x < 0x20000 then
    let e := h.pde ⟨(x - 0x10000) / 0x1000, by omega⟩
    if x % 0x1000 = 0x22C && e.cmdVconn && e.pendVconn && !e.vcTaken then 8 else 0
  else 0

/-- The word of a register as a view shows it, before guarding (R399, R406). A read-only bit beside writable ones holds its
reset value. -/
def Hub.viewWord (h : Hub) (i : RegInfo) (view x : Nat) : Word :=
  if 0x48400 ≤ x ∧ x < 0x4A400 then h.roWord x
  else
    let c := if view = 0 then h.act x else (h.shd x &&& i.rwb) ||| (h.act x &&& ~~~i.rwb)
    ((c &&& (i.rwb ||| i.rw)) ||| ((h.cmdWaits x ||| h.act x) &&& i.sc) ||| (h.evtWord x &&& i.rc) ||| ((h.roWord x ||| i.reset) &&& ~~~(i.rwb ||| i.rw ||| i.rc ||| i.sc)))
      &&& ~~~(h.mgrBits x)

/-- The side effects of an active-view read of some lanes (R406, R407). -/
def Hub.readEffect (h : Hub) (i : RegInfo) (x : Nat) (mask : Word) (whole : Bool) : Hub :=
  let h := if i.rc &&& mask = 0 then h else h.setEvts x (h.evtWord x &&& ~~~(i.rc &&& mask))
  if x = 0x4C008 then h.modTiming fun t => { t with hiLatch := h.tb.extractLsb' 32 32 }
  else if x = 0x1018 then (if whole then h.fifoPop.1 else h)
  else if hp : 0x10000 ≤ x ∧ x < 0x20000 then
    if x % 0x1000 = 0x808 ∧ whole then (h.capturePop ⟨(x - 0x10000) / 0x1000, by omega⟩).1 else h
  else h

/-- A read of one 32-bit register by the checks of R416; the word covers the lanes of `mask`. -/
def Hub.regGet (h : Hub) (i : RegInfo) (m : Master) (addr view x : Nat) (mask : Word) (whole : Bool) : Hub × Word :=
  let mp := h.secure m
  let deny := !mp && i.g &&& mask ≠ 0
  let h := if deny then h.denyAcc m addr false else h
  let ok := if mp then mask else mask &&& ~~~i.g
  if deny && (i.rwb ||| i.rw ||| i.sc ||| i.rc) &&& ok = 0 then (h, 0)
  else if h.domDark (domOf x) then (h.accOff (domOf x), 0)
  else (if view = 0 then h.readEffect i x ok whole else h, h.viewWord i view x &&& ok)

/-- A read of a map entry: guarded as a whole while SECURE (R207, R417). -/
def Hub.mapGet (h : Hub) (m : Master) (addr x : Nat) (mask : Word) : Hub × Word :=
  if !h.secure m && (h.roWord x).getLsbD 7 then (h.denyAcc m addr false, 0)
  else if h.domDark domPe then (h.accOff domPe, 0)
  else (h, h.roWord x &&& mask)

/-- A read that lies in one 32-bit register (R399, R414-R416): what it returns stands in the low lanes. -/
def Hub.busRead32 (h : Hub) (m : Master) (addr size : Nat) : Hub × Word :=
  let view := addr / 0x100000
  let x := addr % 0x100000
  match regInfo (x - x % 4) with
  | none => (h, 0)
  | some i =>
    if 4 < view then (h, 0)
    else if addr % 2 ^ min size 2 ≠ 0 then (h.accFault m addr size false, 0)
    else
      let mask := laneMask x size
      let r :=
        if 0x40000 ≤ x ∧ x < 0x48000 then h.mapGet m addr (x - x % 4) mask
        else h.regGet i m addr view (x - x % 4) mask (2 ≤ size)
      (r.1, r.2 >>> (8 * (x % 4)))

/-- The register offsets that a read covers. -/
def readRegs (addr size : Nat) : List Nat :=
  let x := addr % 0x100000 - addr % 4
  if size = 3 then [x, x + 4] else [x]

/-- The mismatches that a read finds in what it reads are decided before it returns (R311, R312, R418). -/
def Hub.readFinds (h : Hub) (m : Master) (addr size : Nat) (hits : List ParityHit) : Hub :=
  if !h.mayAccess m || addr % 2 ^ size ≠ 0 || 5 ≤ addr / 0x100000 then h
  else
    (hits.filter fun x => (readRegs addr size).contains x.off && !h.domDark (domOf x.off)).foldl (fun h x => h.parFault x) h

/-- The mismatches that the scanner finds on the edge of a read (R406, R427, R433): the read returns what stood before; where it would
clear CFG_PARITY_STAT, its bits stay set, and the capture is not armed anew. -/
def Hub.edgeFinds (h before : Hub) (hits : List ParityHit) : Hub :=
  let g := (hits.foldr hitInsert []).foldl (fun h x => h.parFault x) (h.setEvts 0x6C (before.evtWord 0x6C))
  if g.cnt (cntNvm 13) = h.cnt (cntNvm 13) then h else g

/-- A read whose word is put out. -/
def Hub.readOut (h : Hub) (m : Master) (addr size : Nat) : Hub :=
  let r := h.busRead32 m addr size
  r.1.emit (.read r.2)

/-- A read through the register interconnect (R399-R417): one word put out per 32-bit read. -/
def Hub.busRead (h : Hub) (m : Master) (addr size : Nat) : Hub :=
  if !h.mayAccess m then h
  else if size = 3 then
    if addr % 8 ≠ 0 then ((h.accFault m addr 3 false).emit (.read 0)).emit (.read 0)
    else (h.readOut m addr 3).readOut m (addr + 4) 3
  else h.readOut m addr size

/-! #### Accesses held while a domain is being entered (R334, R336) -/

/-- A domain holds the accesses addressed to it: it drains, or its clocks stop (R334, R336). -/
def Hub.domHolds (h : Hub) (n : DomIx) : Bool := (h.dom n).state == .draining || (h.dom n).state == .entering

/-- An access is held at its master: it is addressed to a register of a domain that is being entered. -/
def Hub.accHeld (h : Hub) (m : Master) (addr size : Nat) : Bool :=
  h.mayAccess m && addr % 2 ^ size == 0 && addr / 0x100000 ≤ 4 &&
    (readRegs addr size).any fun x => (regInfo x).isSome && h.domHolds (domOf x)

/-- An access is carried out. -/
def Hub.accNow (h : Hub) (a : BusAcc) : Hub :=
  match a.word with
  | some v => h.busWrite a.m a.addr a.size v
  | none => h.busRead a.m a.addr a.size

/-- An access waits at its master. -/
def Hub.accHold (h : Hub) (a : BusAcc) : Hub := h.modSeq fun q => { q with heldAcc := q.heldAcc ++ [a] }

/-- An access through the register interconnect: carried out, or held. -/
def Hub.busAccess (h : Hub) (a : BusAcc) : Hub := if h.accHeld a.m a.addr a.size then h.accHold a else h.accNow a

/-- The held accesses whose domain's entry is over are carried out, in order (R334): by a domain that is ON again, or by one that
answers none (R342). -/
def Hub.accRelease (h : Hub) : Hub :=
  let go := h.seq.heldAcc.filter fun a => !h.accHeld a.m a.addr a.size
  if go.isEmpty then h
  else go.foldl (fun h a => h.accNow a) (h.modSeq fun q => { q with heldAcc := q.heldAcc.filter fun a => h.accHeld a.m a.addr a.size })

/-- What hardware does of itself at each tick beside its clocks: the refusals of R335 are checked again, the held accesses are released,
an outlet acts on what it missed while OUT did not run (R134), rails go on being turned off. -/
def Hub.settle (h : Hub) : Hub :=
  let h := if h.entryBusy then h.domCheck.railsKick else h
  let h := if h.domOn domOut then (List.finRange 4).foldl (fun h o => h.outletCatch o) h else h
  h.accRelease

/-- One tick of 10 ns with no command waiting. -/
def State.idle (s : State) : State := if s.hub.held = .none then s.tick.put s.tick.hub.settle else s.tick

/-! #### Command bits that a row or a mailbox command writes (R314, R408) -/

/-- The write of a command bit ends the parity fault of its register (R314); with buffered fields beside it, it ends with their
commit. -/
def Hub.cmdWritten (h : Hub) (off : Nat) : Hub :=
  match regInfo off with
  | none => h
  | some i => if i.rwb = 0 then (h.unspoil off i.sc).parWritten off false else h.unspoil off i.sc

/-- A command bit written with 1 by a master: the write reaches the register, then the command acts (R314, R408, R416). -/
def Hub.command (h : Hub) (m : Master) (off : Nat) (guarded : Bool) (f : Hub → Hub) : Hub :=
  h.cmdBit m off guarded fun h => f (h.cmdWritten off)

/-- A command bit written by a master, held while the domain it is addressed to is being entered (R334, R336). -/
def Hub.masterCommand (h : Hub) (m : Master) (off bit : Nat) (guarded : Bool) (f : Hub → Hub) : Hub :=
  if h.accHeld m off 2 && (!guarded || h.secure m) then h.accHold { m := m, addr := off, size := 2, word := some (BitVec.twoPow 64 bit) }
  else h.command m off guarded f

/-- A read with the parity mismatches of its edge: those it finds itself first, then the scanner's (R311, R406, R418). A held read leaves
its register to the scanner. -/
def Hub.busReadChecked (h : Hub) (m : Master) (addr : Nat) (q : ReadReq) : Hub :=
  let a : BusAcc := { m := m, addr := addr, size := q.size.val, word := none }
  if h.accHeld m addr q.size.val then (h.accHold a).edgeFinds h q.hits
  else
    let h := h.readFinds m addr q.size.val q.hits
    (h.busRead m addr q.size.val).edgeFinds h (q.hits.filter fun x => !(readRegs addr q.size.val).contains x.off)

/-! #### The commands -/

/-- COMMIT written (R403). -/
def execCommit (m : Master) (mask : BitVec 16) (s : State) : Host.Outcome State Fault Refusal :=
  perform s fun h => h.busAccess { m := m, addr := 0x40, size := 2, word := some (mask.setWidth 64) }

/-- SNAPSHOT written (R419). -/
def execSnapshot (m : Master) (s : State) : Host.Outcome State Fault Refusal :=
  perform s fun h => h.busAccess { m := m, addr := 0x48, size := 2, word := some 1 }

/-- RC_READ (R406). -/
def execRcRead (m : Master) (addr : Nat) (q : ReadReq) (s : State) : Host.Outcome State Fault Refusal :=
  perform s fun h => h.busReadChecked m addr q

/-- MEAS_READ (R407). -/
def execMeasRead (m : Master) (addr : Nat) (size : Fin 4) (s : State) : Host.Outcome State Fault Refusal :=
  perform s fun h => h.busAccess { m := m, addr := addr, size := size.val, word := none }

/-- TIME_TB_LO_READ (R407). -/
def execTimeTbLoRead (m : Master) (s : State) : Host.Outcome State Fault Refusal :=
  perform s fun h => h.busAccess { m := m, addr := 0x4C008, size := 2, word := none }

/-- UTC_BASE_HI_WRITE (R285). -/
def execUtcBaseHiWrite (m : Master) (v : Word) (s : State) : Host.Outcome State Fault Refusal :=
  perform s fun h => h.busAccess { m := m, addr := 0x60028, size := 2, word := some (v.setWidth 64) }

/-- REGISTER_WRITE (R416). -/
def execRegisterWrite (m : Master) (addr : Nat) (size : Fin 4) (v : BitVec 64) (s : State) : Host.Outcome State Fault Refusal :=
  perform s fun h => h.busAccess { m := m, addr := addr, size := size.val, word := some v }

/-- REGISTER_READ (R416). -/
def execRegisterRead (m : Master) (addr : Nat) (q : ReadReq) (s : State) : Host.Outcome State Fault Refusal :=
  perform s fun h => h.busReadChecked m addr q

end Sys2Proof.Machine
end

