-- ==== Sys2Proof/Machine/MbxOps.lean ====
section
/-! DEFINITION. How an opcode is carried out: arguments, privilege, domains, the single-change rule, jobs; the families INFO,
REG, COMMIT and SNAPSHOT (R363, R368, R379, R380, R383, R386, R387). -/

namespace Sys2Proof.Machine

/-! #### The frame of a command -/

/-- A command as Umuri runs it: its ring, the master ID of its accesses (R380), opcode, tag, payload, the job number it would
take, and which record reads of JOURNAL.READ meet an uncorrectable error. -/
structure OpCtx where
  r      : RingIx
  m      : Master
  opcode : Nat
  tag    : BitVec 16
  p      : List Byte
  j      : Fin 8
  reads  : List EccRead
  deriving DecidableEq, Repr

/-- What follows once the response is stored: nothing, the activation of the idle bank, an MP restart (R390). -/
inductive After where
  | nothing | activate | restart
  deriving DecidableEq, Repr

/-- The hub after a command's effects, and its first response (R363, R382). -/
structure OpRes where
  h     : Hub
  o     : Outcome
  after : After := .nothing

/-- OK with result data. -/
def opOk (h : Hub) (data : List Byte) : OpRes := { h := h, o := { status := 0, data := data } }

/-- BAD_ARG. -/
def opBad (h : Hub) (detail : Nat) : OpRes := { h := h, o := { status := 2, detail := detail } }

/-- UNSUPPORTED. -/
def opUnsup (h : Hub) (detail : Nat) : OpRes := { h := h, o := { status := 3, detail := detail } }

/-- REJECTED_POLICY with a reason and a detail. -/
def opReject (h : Hub) (reason low : Nat) : OpRes := { h := h, o := { status := 5, detail := reason * 4096 + low } }

/-- REFUSED_DOMAIN for a domain that is not ON (R386). -/
def opDomain (h : Hub) (n : DomIx) : OpRes := { h := h, o := { status := 6, detail := n.val } }

/-- OK, or DENIED_PRIVILEGE with the index of the first denied word (R363, R387). -/
def opDenied (h : Hub) (first : Option Nat) : OpRes :=
  match first with
  | none => opOk h []
  | some i => { h := h, o := { status := 4, detail := 2 * 4096 + i % 4096 } }

/-- The bits of an argument list that are bad, lowest offset first: the wrong length before anything else, then arguments out
of range and reserved bytes that are not 0. A field is its offset, its width and whether its value is allowed (R386). -/
def argBad (p : List Byte) (len : Nat) (fields : List (Nat × Nat × Bool)) : Option Nat :=
  if p.length ≠ len then some 0xFFFF
  else
    (List.range len).find? fun i =>
      (fields.any fun f => f.1 == i && !f.2.2)
        || (byteAt p i ≠ 0 && !fields.any fun f => decide (f.1 ≤ i ∧ i < f.1 + f.2.1))

/-- The arguments are checked, then the command acts. -/
def opArgs (h : Hub) (p : List Byte) (len : Nat) (fields : List (Nat × Nat × Bool)) (f : Hub → OpRes) : OpRes :=
  match argBad p len fields with
  | some d => opBad h d
  | none => f h

/-- The command reads registers of a domain, which must be ON (R386). -/
def opOn (h : Hub) (n : DomIx) (f : Hub → OpRes) : OpRes := if h.domOn n then f h else opDomain h n

/-- A job starts, and the command answers PENDING (R368). -/
def opJob (h : Hub) (c : OpCtx) (f : Hub → Hub) : OpRes :=
  let h := h.modJob c.j fun _ => some { ring := c.r, opcode := c.opcode, tag := c.tag }
  { h := f h, o := { status := 1, detail := c.j.val } }

/-- A configuration or firmware page store with what goes with it: NO_ENERGY where it is refused (R320), DETAIL 1 where it is
deferred (R319, R386). -/
def opStore (h : Hub) (c : StoreClass) (f : Hub → Hub) : OpRes :=
  if h.pageRefused c then { h := (h.huEvt 2).bump (cntNvm 21), o := h.pageAnswer c [] }
  else { h := f h, o := h.pageAnswer c [] }

/-! #### Reads of status words and shadow writes -/

/-- A register as a peek through the set alias (R386, R400). -/
def Hub.peek (h : Hub) (x : Nat) : Word :=
  match regInfo x with
  | none => 0
  | some i => h.viewWord i 2 x

/-- Registers as peeks, in order. -/
def Hub.peeks (h : Hub) (xs : List Nat) : List Byte := xs.flatMap fun x => wordBytes (h.peek x)

/-- A field of a shadow is written by a master (R403). -/
def Hub.shadowWrite (h : Hub) (m : Master) (x : Nat) (mask v : Word) : Hub :=
  h.busWrite32 m x 2 ((h.peek x &&& ~~~mask) ||| (v &&& mask))

/-- The single-change rule (R386) in the block that holds register `x`: rejected where its group is pending; the fields are
written, the group committed. -/
def opCommit1 (h : Hub) (m : Master) (x : Nat) (ws : List (Nat × Word × Word)) (f : Hub → OpRes) : OpRes :=
  let g := h.groupOf x
  if h.glob.pending.getLsbD g then opReject h 1 g
  else f ((ws.foldl (fun h w => h.shadowWrite m w.1 w.2.1 w.2.2) h).commit (BitVec.twoPow 16 g))

/-! #### Privilege (R379) -/

/-- The class bit of an opcode: 0 R, 1 C, 2 F, 3 S; none for an unknown opcode. FORWARD takes its inner command's (R391). -/
def opClass (op : Nat) : Option Nat :=
  match op with
  | 0x0100 | 0x0101 | 0x0102 | 0x0103 | 0x0104 | 0x0105 => some 0
  | 0x0200 | 0x0203 | 0x0301 | 0x0400 | 0x0401 => some 0
  | 0x0201 | 0x0202 | 0x0300 => some 1
  | 0x0500 | 0x0501 | 0x0602 | 0x0700 => some 0
  | 0x0502 | 0x0503 | 0x0504 | 0x0505 | 0x0506 | 0x0507 | 0x0508 | 0x0509 => some 1
  | 0x0600 | 0x0601 | 0x0701 | 0x0702 => some 1
  | 0x0800 | 0x0803 | 0x0805 | 0x0903 => some 0
  | 0x0801 | 0x0802 | 0x0804 | 0x0806 | 0x0900 | 0x0901 | 0x0902 => some 1
  | 0x0A00 => some 0
  | 0x0A01 | 0x0A02 => some 1
  | 0x0A03 | 0x0A04 | 0x0A05 | 0x0A06 | 0x0A07 | 0x0A08 | 0x0A09 | 0x0A0A | 0x0A0B | 0x0A0C => some 3
  | 0x0B02 | 0x0C00 | 0x0C01 | 0x0D00 | 0x0E00 | 0x0E01 => some 0
  | 0x0B00 | 0x0B01 | 0x0C02 | 0x0E03 | 0x0E05 => some 1
  | 0x0D01 | 0x0D02 | 0x0D03 | 0x0D04 | 0x0D05 | 0x0E04 => some 2
  | 0x0E02 => some 0
  | _ => none

/-- The class of a command (R379, R391): an inner command of FORWARD that no class is known of counts as R. -/
def cmdClass (op : Nat) (p : List Byte) : Option Nat :=
  if op = 0x0E02 then some ((opClass (u16 p 4)).getD 0) else opClass op

/-- The classes permitted to a ring (R379, R394). -/
def Hub.classes (h : Hub) (r : RingIx) : Nat :=
  let w := (h.cfg 0x7C004).toNat
  if r.val ≤ 1 then w % 16 / 2 * 2 + 1
  else if r.val ≤ 3 then w / 16 % 16 / 2 * 2 + 1
  else if r.val = 4 then w / 256 % 16 / 2 * 2 + 1
  else 15

/-- A command whose class is not permitted (R379, R397). -/
def opPrivDenied (h : Hub) (c : OpCtx) (cls : Nat) : OpRes :=
  let h := ((h.mbxEvt 3).bump (cntMbx 3)).mbxRaise 0xA001 2 ([c.r.val, 0] ++ le16 c.opcode ++ le16 c.tag.toNat)
  { h := h, o := { status := 4, detail := 4096 + 2 ^ cls } }

/-- A command is carried out where its ring and its class allow it (R379, R383); with the boot ROM alone, other families and
every command of ring 4 are unsupported whatever they name. -/
def opGate (h : Hub) (c : OpCtx) (f : Hub → OpRes) : OpRes :=
  if h.mbx.bootRomOnly && (3 < c.r.val || (c.opcode / 256 ≠ 1 && c.opcode / 256 ≠ 0x0D)) then opUnsup h 2
  else
    match cmdClass c.opcode c.p with
    | none => opUnsup h 1
    | some cls => if (h.classes c.r).testBit cls then f h else opPrivDenied h c cls

/-! #### INFO (R387) -/

/-- GET_VERSION. -/
def opVersion (h : Hub) (c : OpCtx) : OpRes :=
  opArgs h c.p 0 [] fun h =>
    opOk h (wordBytes (h.peek 0x00) ++ wordBytes (h.peek 0x04) ++ wordBytes h.sec.runVersion ++ putLe 2 0x0302
      ++ [BitVec.ofNat 8 h.mbx.bootRomOnly.toNat, BitVec.ofNat 8 (bankNo h.sec.bootBank)] ++ putLe 8 Config.dieUid.toNat)

/-- GET_CAPS. -/
def opCaps (h : Hub) (c : OpCtx) : OpRes :=
  opArgs h c.p 0 [] fun h =>
    opOk h ([6, 8, 240, BitVec.ofNat 8 (h.classes c.r)] ++ putLe 2 (if h.mbx.bootRomOnly then 0x2002 else 0x7FFE))

/-- The status words of both rings of a transport, lower r first; of a transport with one ring, of that one. -/
def Hub.ringStats (h : Hub) (r : RingIx) : List Byte :=
  match ringPeer r with
  | none => wordBytes (h.stRing r)
  | some q => if q.val < r.val then wordBytes (h.stRing q) ++ wordBytes (h.stRing r) else wordBytes (h.stRing r) ++ wordBytes (h.stRing q)

/-- RING_STAT. -/
def opRingStat (h : Hub) (c : OpCtx) : OpRes := opArgs h c.p 0 [] fun h => opOk h (h.ringStats c.r)

/-- ECHO. -/
def opEcho (h : Hub) (c : OpCtx) : OpRes := if 236 < c.p.length then opBad h 0xFFFF else opOk h c.p

/-- JOB_STAT. -/
def opJobStat (h : Hub) (c : OpCtx) : OpRes :=
  opArgs h c.p 2 [(0, 2, true)] fun h =>
    let t := u16 c.p 0
    match (List.finRange 8).find? fun j =>
        match h.mbx.jobs[j] with
        | some x => x.ring == c.r && x.tag.toNat == t
        | none => false with
    | some j => opOk h (putLe 1 1 ++ putLe 1 j.val)
    | none =>
      match (h.ring c.r).resps.find? fun x => x.completion && x.tag.toNat == t with
      | some x => opOk h (putLe 1 2 ++ putLe 1 x.job)
      | none => opOk h [0, 0]

/-! #### REG, COMMIT, SNAPSHOT (R386, R387) -/

/-- An address REG does not take: not a multiple of 4, or past 0x4F_FFFF for `n` words. -/
def regAddrBad (a n : Nat) : Bool := a % 4 ≠ 0 || decide (0x4FFFFC < a + 4 * (n - 1))

/-- The first domain, of the registers at some addresses, that is not ON. -/
def Hub.offDomain (h : Hub) (as : List Nat) : Option DomIx :=
  ((as.filter fun a => (regInfo (a % 0x100000)).isSome).map fun a => domOf (a % 0x100000)).find? fun n => !h.domOn n

/-- Words read by a master from addresses, in order. -/
def Hub.readWords (h : Hub) (m : Master) : List Nat → Hub × List Byte
  | [] => (h, [])
  | a :: as =>
    let x := h.busRead32 m a 2
    let y := x.1.readWords m as
    (y.1, wordBytes x.2 ++ y.2)

/-- Reads at addresses: refused as a whole where one lies in a domain that is not ON. -/
def opRead (h : Hub) (c : OpCtx) (as : List Nat) : OpRes :=
  match h.offDomain as with
  | some n => opDomain h n
  | none =>
    let x := h.readWords c.m as
    opOk x.1 x.2

/-- REG.READ. -/
def opRegRead (h : Hub) (c : OpCtx) : OpRes :=
  let a := u32 c.p 0
  let n := byteAt c.p 4
  let nOk := decide (1 ≤ n ∧ n ≤ 59)
  opArgs h c.p 5 [(0, 4, !regAddrBad a (if nOk then n else 1)), (4, 1, nOk)] fun h =>
    opRead h c ((List.range n).map fun i => a + 4 * i)

/-- REG.READ_MULTI. -/
def opRegReadMulti (h : Hub) (c : OpCtx) : OpRes :=
  let n := byteAt c.p 0
  if c.p.isEmpty then opBad h 0xFFFF
  else if n = 0 ∨ 59 < n then opBad h 0
  else
    opArgs h c.p (4 + 4 * n)
      ((0, 1, true) :: (List.range n).map fun i => (4 + 4 * i, 4, !regAddrBad (u32 c.p (4 + 4 * i)) 1)) fun h =>
      opRead h c ((List.range n).map fun i => u32 c.p (4 + 4 * i))

/-- A write of PE's memories, which needs PE to be ON (R386). -/
def Hub.memWriteOff (h : Hub) (as : List Nat) : Bool := !h.domOn domPe && as.any fun a => inPeMem (a % 0x100000)

/-- Words written by a master to addresses; the index of the first denied one (R387, R417). -/
def Hub.writeWords (h : Hub) (m : Master) (i : Nat) (first : Option Nat) : List (Nat × Word) → Hub × Option Nat
  | [] => (h, first)
  | (a, w) :: ws =>
    let k := h.busWrite32 m a 2 w
    k.writeWords m (i + 1) (if first.isNone && k.cnt (cntDeny m.val) ≠ h.cnt (cntDeny m.val) then some i else first) ws

/-- REG.WRITE. -/
def opRegWrite (h : Hub) (c : OpCtx) : OpRes :=
  let a := u32 c.p 0
  let n := byteAt c.p 4
  if c.p.length < 5 then opBad h 0xFFFF
  else if n = 0 ∨ 58 < n then opBad h (if regAddrBad a 1 then 0 else 4)
  else
    opArgs h c.p (8 + 4 * n) [(0, 4, !regAddrBad a n), (4, 1, true), (8, 4 * n, true)] fun h =>
      let as := (List.range n).map fun i => a + 4 * i
      if h.memWriteOff as then opDomain h domPe
      else
        let x := h.writeWords c.m 0 none ((List.range n).map fun i => (a + 4 * i, BitVec.ofNat 32 (u32 c.p (8 + 4 * i))))
        opDenied x.1 x.2

/-- One triple of WRITE_MASKED: peek, merge, write; bits outside the mask that read to clear or clear themselves are written
as 0. -/
def Hub.maskedWrite (h : Hub) (m : Master) (a : Nat) (mask v : Word) : Hub :=
  let x := h.busRead32 m (0x200000 + a % 0x100000) 2
  let once := match regInfo (a % 0x100000) with
    | some i => i.rc ||| i.sc
    | none => 0
  x.1.busWrite32 m a 2 (((x.2 &&& ~~~mask) ||| (v &&& mask)) &&& ~~~(once &&& ~~~mask))

/-- Triples in order; the index of the first denied one. -/
def Hub.maskedWrites (h : Hub) (m : Master) (i : Nat) (first : Option Nat) : List (Nat × Word × Word) → Hub × Option Nat
  | [] => (h, first)
  | (a, mask, v) :: ws =>
    let k := h.maskedWrite m a mask v
    k.maskedWrites m (i + 1) (if first.isNone && k.cnt (cntDeny m.val) ≠ h.cnt (cntDeny m.val) then some i else first) ws

/-- REG.WRITE_MASKED. -/
def opRegWriteMasked (h : Hub) (c : OpCtx) : OpRes :=
  let n := byteAt c.p 0
  if c.p.isEmpty then opBad h 0xFFFF
  else if n = 0 ∨ 19 < n then opBad h 0
  else
    opArgs h c.p (4 + 12 * n)
      ((0, 1, true) :: (List.range n).flatMap fun i =>
        [(4 + 12 * i, 4, !regAddrBad (u32 c.p (4 + 12 * i)) 1), (8 + 12 * i, 8, true)]) fun h =>
      let as := (List.range n).map fun i => u32 c.p (4 + 12 * i)
      match h.offDomain as with
      | some d => opDomain h d
      | none =>
        let x := h.maskedWrites c.m 0 none ((List.range n).map fun i =>
          (u32 c.p (4 + 12 * i), BitVec.ofNat 32 (u32 c.p (8 + 12 * i)), BitVec.ofNat 32 (u32 c.p (12 + 12 * i))))
        opDenied x.1 x.2

/-- COMMIT.COMMIT. -/
def opMbxCommit (h : Hub) (c : OpCtx) : OpRes :=
  opArgs h c.p 2 [(0, 2, true)] fun h =>
    let mask := BitVec.ofNat 16 (u16 c.p 0)
    let h := h.busWrite32 c.m 0x40 2 (mask.setWidth 32)
    opOk h (putLe 2 (mask &&& h.glob.pending &&& h.glob.withheld).toNat)

/-- COMMIT.COMMIT_STAT. -/
def opCommitStat (h : Hub) (c : OpCtx) : OpRes := opArgs h c.p 0 [] fun h => opOk h (h.peeks [0x44])

/-- SNAPSHOT.TAKE. -/
def opSnapTake (h : Hub) (c : OpCtx) : OpRes :=
  opArgs h c.p 0 [] fun h =>
    let h := h.busWrite32 c.m 0x48 2 1
    opOk h (h.peeks [0x4C])

/-- SNAPSHOT.READ. -/
def opSnapRead (h : Hub) (c : OpCtx) : OpRes :=
  let o := u32 c.p 0
  let n := byteAt c.p 4
  let nOk := decide (1 ≤ n ∧ n ≤ 29)
  opArgs h c.p 5 [(0, 4, o % 8 == 0 && decide (o + 8 * (if nOk then n else 1) ≤ 0x20000)), (4, 1, nOk)] fun h =>
    opOk h (h.peeks [0x4C] ++ (List.range n).flatMap fun i => putLe 8 (smGet (fun _ => 0) h.holding (0x90000 + o + 8 * i)))

end Sys2Proof.Machine
end

