-- ==== Sys2Proof/Machine/MbxHub.lean ====
section
/-! DEFINITION. The opcode families PORT, PD, BUDGET, SCHED and GATE (R388, R389). A value that its field's table lets act as
another value is out of range as an argument (R386, R410). -/

namespace Sys2Proof.Machine

/-- A pod argument; the first pod where it is none. -/
def argPod (n : Nat) : PodIx := ⟨n % 16, Nat.mod_lt _ (by omega)⟩

/-- An outlet argument. -/
def argOut (n : Nat) : OutIx := ⟨n % 4, Nat.mod_lt _ (by omega)⟩

/-- A queue argument. -/
def argQueue (n : Nat) : QueueIx := ⟨n % 64, Nat.mod_lt _ (by omega)⟩

/-- A direction argument. -/
def argDir (n : Nat) : DirIx := ⟨n % 2, Nat.mod_lt _ (by omega)⟩

/-- A word of argument bytes. -/
def argWord (n : Nat) : Word := BitVec.ofNat 32 n

/-! #### PORT (R388) -/

/-- PORT.STATUS. -/
def opPortStatus (h : Hub) (c : OpCtx) : OpRes :=
  let p := argPod (byteAt c.p 0)
  opArgs h c.p 1 [(0, 1, byteAt c.p 0 < 16)] fun h => opOn h (podDom p) fun h =>
    opOk h (h.peeks ([0x08, 0x214, 0x218, 0x420, 0x424, 0x428, 0x604, 0xC04].map fun o => podBase p + o))

/-- PORT.OUTLET_STATUS. -/
def opOutletStatus (h : Hub) (c : OpCtx) : OpRes :=
  let o := argOut (byteAt c.p 0)
  opArgs h c.p 1 [(0, 1, byteAt c.p 0 < 4)] fun h => opOn h domOut fun h =>
    opOk h (h.peeks ([0x20, 0x24, 0x28, 0x48].map fun x => outBase o + x))

/-- PORT.ENABLE. -/
def opPortEnable (h : Hub) (c : OpCtx) : OpRes :=
  let p := argPod (byteAt c.p 0)
  opArgs h c.p 2 [(0, 1, byteAt c.p 0 < 16), (1, 1, byteAt c.p 1 < 2)] fun h =>
    opCommit1 h c.m (podBase p) [(podBase p, 1, argWord (byteAt c.p 1))] fun h => opOk h []

/-- A command bit of a pod is written (PORT.DETACH, LOCKOUT_CLEAR, REBASE). -/
def opPodBit (h : Hub) (c : OpCtx) (off : Nat) (f : PodIx → Hub → Hub) : OpRes :=
  let p := argPod (byteAt c.p 0)
  opArgs h c.p 1 [(0, 1, byteAt c.p 0 < 16)] fun h => opOk (h.command c.m (podBase p + off) false (f p)) []

/-- PORT.DETACH. -/
def opPortDetach (h : Hub) (c : OpCtx) : OpRes := opPodBit h c 0 fun p h => h.errorRecovery p

/-- PORT.LOCKOUT_CLEAR. -/
def opLockoutClear (h : Hub) (c : OpCtx) : OpRes := opPodBit h c 0 fun p h => h.endLockout p

/-- PORT.REBASE. -/
def opRebase (h : Hub) (c : OpCtx) : OpRes := opPodBit h c 0x10 fun p h => h.rebase p

/-- A command bit of a sequencer is written (PORT.LATCH_CLEAR, RETRY_CLEAR). -/
def opPathBit (h : Hub) (c : OpCtx) (f : PathIx → Hub → Hub) : OpRes :=
  let k := byteAt c.p 0
  let i := byteAt c.p 1
  let x : PathIx := if k = 0 then podPath (argPod i) else outPath (argOut i)
  opArgs h c.p 2 [(0, 1, k < 2), (1, 1, decide (i < if k = 0 then 16 else 4))] fun h =>
    opOk (h.command c.m (vbBase x + 0x1C) false (f x)) []

/-- PORT.LATCH_CLEAR. -/
def opLatchClear (h : Hub) (c : OpCtx) : OpRes := opPathBit h c fun x h => h.vbLatchClr x

/-- PORT.RETRY_CLEAR. -/
def opRetryClear (h : Hub) (c : OpCtx) : OpRes := opPathBit h c fun x h => h.vbRetryClr x

/-- PORT.OUTLET_SET. -/
def opOutletSet (h : Hub) (c : OpCtx) : OpRes :=
  let o := argOut (byteAt c.p 0)
  let b := byteAt c.p 1
  let v := u16 c.p 2
  let i := u16 c.p 4
  opArgs h c.p 6
    [(0, 1, byteAt c.p 0 < 4), (1, 1, b < 4), (2, 2, 500 ≤ v && v ≤ 2800), (4, 2, 10 ≤ i && i ≤ 500)] fun h =>
    opCommit1 h c.m (outBase o + 0x40)
      [(outBase o + 0x40, 0x9, argWord (b % 2 + b / 2 * 8)), (outBase o + 0x44, 0xFFFFFF, argWord (v + i * 4096))] fun h => opOk h []

/-- PORT.UPSTREAM_SWITCH. -/
def opUpstreamSwitch (h : Hub) (c : OpCtx) : OpRes :=
  opArgs h c.p 0 [] fun h => opOn h (podDom 0) fun h =>
    let ok := h.upSwitchOk
    let h := h.command c.m 0x107C4 false fun h => h.upSwitch
    if ok then opOk h (h.peeks [0x107C8]) else opReject h 2 0

/-! #### PD (R388) -/

/-- PD.ACTION. -/
def opPdAction (h : Hub) (c : OpCtx) : OpRes :=
  let p := argPod (byteAt c.p 0)
  let b := byteAt c.p 1
  opArgs h c.p 2 [(0, 1, byteAt c.p 0 < 16), (1, 1, [1, 2, 4, 8, 16, 32].contains b)] fun h => opOn h (podDom p) fun h =>
    let h := h.busWrite32 c.m (podBase p + 0x22C) 2 (argWord b)
    opOk h [BitVec.ofNat 8 ((h.peek (podBase p + 0x214)).toNat % 16)]

/-- PD.CAPTURE_CTRL. -/
def opCaptureCtrl (h : Hub) (c : OpCtx) : OpRes :=
  let p := argPod (byteAt c.p 0)
  opArgs h c.p 2 [(0, 1, byteAt c.p 0 < 16), (1, 1, byteAt c.p 1 < 32)] fun h =>
    opOk (h.busWrite32 c.m (podBase p + 0x800) 2 (argWord (byteAt c.p 1))) []

/-- Up to `n` words popped from a capture FIFO, ending before it is empty. -/
def Hub.capturePops (h : Hub) (p : PodIx) : Nat → Hub × List Word
  | 0 => (h, [])
  | n + 1 =>
    if (h.capture p).items.isEmpty then (h, [])
    else
      let x := h.capturePop p
      let y := x.1.capturePops p n
      (y.1, x.2 :: y.2)

/-- PD.CAPTURE_READ. -/
def opCaptureRead (h : Hub) (c : OpCtx) : OpRes :=
  let p := argPod (byteAt c.p 0)
  let n := byteAt c.p 1
  opArgs h c.p 2 [(0, 1, byteAt c.p 0 < 16), (1, 1, 1 ≤ n && n ≤ 59)] fun h => opOn h (podDom p) fun h =>
    let x := h.capturePops p n
    { h := x.1, o := { status := 0, detail := x.2.length, data := wordsBytes x.2 } }

/-! #### BUDGET (R388) -/

/-- BUDGET.STATUS. -/
def opBudgetStatus (h : Hub) (c : OpCtx) : OpRes :=
  opArgs h c.p 0 [] fun h => opOn h domBus fun h =>
    opOk h (h.peeks ([0x22030, 0x22034, 0x22010] ++ (List.range 20).map fun i => 0x22080 + 4 * i))

/-- BUDGET.SET. -/
def opBudgetSet (h : Hub) (c : OpCtx) : OpRes :=
  let k := byteAt c.p 0
  let fits := fun (i : Nat) => !k.testBit i || decide (u16 c.p (2 + 2 * i) ≤ 4800)
  let ws : List (Nat × Word × Word) :=
    (if k.testBit 0 then [(0x22000, 0x1FFF, argWord (u16 c.p 2))] else [])
      ++ (if k.testBit 1 then [(0x22004, 0x1FFF, argWord (u16 c.p 4))] else [])
      ++ (if k.testBit 2 then [(0x22010, 0x1FFF0000, argWord (u16 c.p 6 * 65536))] else [])
  opArgs h c.p 8 [(0, 1, k < 8), (2, 2, fits 0), (4, 2, fits 1), (6, 2, fits 2)] fun h =>
    opCommit1 h c.m 0x22000 ws fun h => opOk h []

/-- BUDGET.SET_CLASS. -/
def opSetClass (h : Hub) (c : OpCtx) : OpRes :=
  let i := byteAt c.p 0
  let v := byteAt c.p 1
  let k := i % 8
  opArgs h c.p 2 [(0, 1, i < 20), (1, 1, v < 8)] fun h =>
    opCommit1 h c.m 0x2201C [(0x2201C + 4 * (i / 8), argWord (7 * 16 ^ k), argWord (v * 16 ^ k))] fun h => opOk h []

/-! #### SCHED (R389) -/

/-- SCHED.QUEUE_STAT. -/
def opQueueStat (h : Hub) (c : OpCtx) : OpRes :=
  let n := byteAt c.p 0
  opArgs h c.p 1 [(0, 1, n < 64)] fun h => opOn h domPe fun h =>
    opOk h (h.peeks ([4, 8, 0x14, 0x18, 0x1C].map fun o => 0x31000 + 0x20 * n + o))

/-- SCHED.SHAPE. -/
def opShape (h : Hub) (c : OpCtx) : OpRes :=
  let n := byteAt c.p 0
  let burst := u16 c.p 2
  let rate := u32 c.p 4
  let b := 0x31000 + 0x20 * n
  opArgs h c.p 9 [(0, 1, 1 ≤ n && n < 64), (2, 2, burst ≠ 0), (4, 4, rate ≤ 2000000), (8, 1, true)] fun h =>
    opCommit1 h c.m (b + 0x0C)
      [(b + 0x0C, 0x1FFFFF, argWord rate), (b + 0x10, 0xFFFFFF, argWord (burst + byteAt c.p 8 * 65536))] fun h => opOk h []

/-- SCHED.POLICE. -/
def opPolice (h : Hub) (c : OpCtx) : OpRes :=
  let n := byteAt c.p 0
  let burst := u16 c.p 2
  let rate := u32 c.p 4
  let b := 0x32000 + 0x10 * n
  opArgs h c.p 8 [(0, 1, n < 128), (1, 1, byteAt c.p 1 < 3), (2, 2, burst ≠ 0), (4, 4, rate ≤ 2000000)] fun h =>
    opCommit1 h c.m b [(b, 0x1FFFFF, argWord rate), (b + 4, 0x3FFFF, argWord (burst + byteAt c.p 1 * 65536))] fun h => opOk h []

/-- SCHED.POLICER_STAT. -/
def opPolicerStat (h : Hub) (c : OpCtx) : OpRes :=
  let n := byteAt c.p 0
  opArgs h c.p 1 [(0, 1, n < 128)] fun h => opOn h domPe fun h => opOk h (h.peeks [0x32008 + 0x10 * n, 0x3200C + 0x10 * n])

/-- The bank an argument names: 0 A, 1 B, 2 the standby one, 3 the active one. -/
def Hub.argBank (h : Hub) (k : Nat) : Bool := if k = 2 then !h.sched.mapActB else if k = 3 then h.sched.mapActB else k == 1

/-- Entries written by a master; the index of the first denied one (R207, R389). -/
def Hub.mapWrites (h : Hub) (m : Master) (bankB : Bool) (i : Nat) (first : Option Nat) : List (Nat × Word) → Hub × Option Nat
  | [] => (h, first)
  | (x, w) :: ws =>
    let k := h.mapWrite m (mapOff bankB x) bankB x w
    k.mapWrites m bankB (i + 1) (if first.isNone && k.cnt (cntDeny m.val) ≠ h.cnt (cntDeny m.val) then some i else first) ws

/-- SCHED.MAP_WRITE. -/
def opMapWrite (h : Hub) (c : OpCtx) : OpRes :=
  let n := byteAt c.p 1
  if c.p.length < 2 then opBad h 0xFFFF
  else if n = 0 ∨ 29 < n then opBad h (if byteAt c.p 0 < 3 then 1 else 0)
  else
    opArgs h c.p (4 + 8 * n)
      ((0, 1, decide (byteAt c.p 0 < 3)) :: (1, 1, true) :: (List.range n).flatMap fun i =>
        [(4 + 8 * i, 2, decide (u16 c.p (4 + 8 * i) < 4064)), (8 + 8 * i, 4, true)]) fun h => opOn h domPe fun h =>
      let x := h.mapWrites c.m (h.argBank (byteAt c.p 0)) 0 none
        ((List.range n).map fun i => (u16 c.p (4 + 8 * i), argWord (u32 c.p (8 + 8 * i))))
      opDenied x.1 x.2

/-- SCHED.MAP_READ. -/
def opMapRead (h : Hub) (c : OpCtx) : OpRes :=
  let n := byteAt c.p 1
  let first := u16 c.p 2
  opArgs h c.p 4
    [(0, 1, byteAt c.p 0 < 4), (1, 1, 1 ≤ n && n ≤ 59), (2, 2, decide (first + n ≤ 4064))] fun h => opOn h domPe fun h =>
    let x := h.readWords c.m ((List.range n).map fun i => 0x200000 + mapOff (h.argBank (byteAt c.p 0)) (first + i))
    opOk x.1 x.2

/-- SCHED.MAP_FLIP. -/
def opMapFlip (h : Hub) (c : OpCtx) : OpRes :=
  opArgs h c.p 0 [] fun h => opOn h domPe fun h =>
    opCommit1 h c.m 0x30020 [(0x30020, 1, 1)] fun h => opOk h (h.peeks [0x30024])

/-! #### GATE (R389) -/

/-- GATE.LOAD. -/
def opGateLoad (h : Hub) (c : OpCtx) : OpRes :=
  let d := argDir (byteAt c.p 0)
  let first := byteAt c.p 1
  let n := byteAt c.p 2
  if c.p.length < 3 then opBad h 0xFFFF
  else if n = 0 ∨ 14 < n then opBad h (if 2 ≤ byteAt c.p 0 then 0 else if 128 ≤ first then 1 else 2)
  else
    opArgs h c.p (4 + 16 * n)
      ((0, 1, decide (byteAt c.p 0 < 2)) :: (1, 1, decide (first < 128)) :: (2, 1, decide (first + n ≤ 128)) ::
        (List.range n).map fun i => (4 + 16 * i, 11, true)) fun h => opOn h domPe fun h =>
      if (h.gate d).pending then opReject h 2 0
      else
        opOk ((List.range n).foldl
          (fun h i => (List.range 3).foldl
            (fun h w => h.busWrite32 c.m (0x48400 + 0x800 * d.val + 16 * (first + i) + 4 * w) 2 (argWord (u32 c.p (4 + 16 * i + 4 * w)))) h) h) []

/-- GATE.APPLY. -/
def opGateApply (h : Hub) (c : OpCtx) : OpRes :=
  let d := argDir (byteAt c.p 0)
  let len := byteAt c.p 1
  let cyc := byteAt c.p 2
  let b := 0x48000 + 0x40 * d.val
  opArgs h c.p 12
    [(0, 1, byteAt c.p 0 < 2), (1, 1, 1 ≤ len && len ≤ 128), (2, 1, 1 ≤ cyc && cyc ≤ 64), (3, 1, byteAt c.p 3 < 2), (4, 8, true)]
    fun h => opOn h domPe fun h =>
      if h.groupPending b then opReject h 1 (h.groupOf b)
      else if (h.gate d).pending then opReject h 2 0
      else
        let h := h.busWrite32 c.m (b + 4) 2 (argWord (len + cyc * 256))
        let h := h.busWrite32 c.m (b + 8) 2 (argWord (u32 c.p 4))
        let h := h.busWrite32 c.m (b + 12) 2 (argWord (u32 c.p 8))
        opCommit1 h c.m b [(b, 3, argWord (byteAt c.p 3 + 2))] fun h =>
          opOk h (putLe 8 (h.gate d).switchT.toNat ++ putLe 4 (h.gate d).adjK)

/-- GATE.CANCEL. -/
def opGateCancel (h : Hub) (c : OpCtx) : OpRes :=
  let d := argDir (byteAt c.p 0)
  opArgs h c.p 1 [(0, 1, byteAt c.p 0 < 2)] fun h => opOn h domPe fun h =>
    let was := (h.gate d).pending
    opOk (h.command c.m (0x48010 + 0x40 * d.val) false fun h => h.gateCancel d) [BitVec.ofNat 8 was.toNat]

/-- GATE.STATUS. -/
def opGateStatus (h : Hub) (c : OpCtx) : OpRes :=
  let b := 0x48000 + 0x40 * byteAt c.p 0
  opArgs h c.p 1 [(0, 1, byteAt c.p 0 < 2)] fun h => opOn h domPe fun h =>
    opOk h (h.peeks [b + 0x14, b + 0x18, b + 0x1C, b + 0x20, b + 0x24, 0x4C004, 0x4C008, 0x4C00C])

end Sys2Proof.Machine
end

