-- ==== Sys2Proof/Machine/MbxSec.lean ====
section
/-! DEFINITION. The opcode families SEC, DOM, JOURNAL, FW and CASCADE (R390, R391). SEC actions act as master ID 0 (R380). -/

namespace Sys2Proof.Machine

/-- A domain argument. -/
def argDom (n : Nat) : DomIx := ⟨n % 24, Nat.mod_lt _ (by omega)⟩

/-- A key slot argument. -/
def argSlot (n : Nat) : Fin 32 := ⟨n % 32, Nat.mod_lt _ (by omega)⟩

/-- A worker argument. -/
def argWorker (n : Nat) : HubId := ⟨n % 64, Nat.mod_lt _ (by omega)⟩

/-! #### SEC (R298, R300, R378, R390) -/

/-- SEC.ATTEST. -/
def opAttest (h : Hub) (c : OpCtx) : OpRes :=
  if c.p.isEmpty then opBad h 0xFFFF
  else if byteAt c.p 0 = 0 then
    opArgs h c.p 36 [(0, 1, true), (4, 32, true)] fun h => opOn h domSec fun h =>
      opJob h c fun h => h.modSec fun x => { x with engine := x.engine ++ [.attest c.j ((c.p.drop 4).take 32)] }
  else
    opArgs h c.p 1 [(0, 1, byteAt c.p 0 == 1 && h.sec.report.isSome)] fun h =>
      match h.sec.report with
      | none => opBad h 0
      | some rep => opOk h (rep.drop 128)

/-- SEC.POLICY_LOAD. -/
def opPolicyLoad (h : Hub) (c : OpCtx) : OpRes :=
  let off := u32 c.p 0
  let data := c.p.drop 4
  if c.p.length < 4 ∨ 228 < c.p.length then opBad h 0xFFFF
  else
    opArgs h c.p c.p.length [(0, 4, off % 4 == 0 && decide (off + data.length ≤ 49152)), (4, 224, true)] fun h =>
      opOk (h.modSec fun x => { x with staging := if off = 0 then data else overlay x.staging off data }) []

/-- A piece of engine work belongs to a policy image. -/
def sigPolicy : SigJob → Bool
  | .policy _ _ => true
  | _ => false

/-- SEC.POLICY_APPLY. -/
def opPolicyApply (h : Hub) (c : OpCtx) : OpRes :=
  let n := u32 c.p 0
  opArgs h c.p 4 [(0, 4, 128 ≤ n && n ≤ 49152)] fun h => opOn h domSec fun h =>
    if h.mbx.policy.isSome || h.sec.engine.any sigPolicy then opReject h 5 0
    else opJob h c fun h => h.modSec fun x => { x with engine := x.engine ++ [.policy c.j n] }

/-- A guarded command bit of a D pod's firewall is written (SEC.FWL_RELEASE, REAUTH). -/
def opFwlBit (h : Hub) (c : OpCtx) (f : PodIx → Hub → Hub) : OpRes :=
  let p := argPod (byteAt c.p 0)
  opArgs h c.p 1 [(0, 1, byteAt c.p 0 < 16)] fun h =>
    if isD p then opOk (h.command 0 (podBase p + 0xC0C) true (f p)) [] else opUnsup h 4

/-- SEC.FWL_RELEASE. -/
def opFwlRelease (h : Hub) (c : OpCtx) : OpRes := opFwlBit h c fun p h => h.fwlRelease p

/-- SEC.REAUTH. -/
def opReauth (h : Hub) (c : OpCtx) : OpRes := opFwlBit h c fun p h => h.fwlReauth p

/-- SEC.ROOT_SET: the words of the root go to their shadows, which act at the commit of SEC's group (R8, R290, R302), and to the
configuration store. The command is none of those that commit (R386; DEDUCED, log 83). -/
def opRootSet (h : Hub) (c : OpCtx) : OpRes :=
  let r : Fin 8 := ⟨byteAt c.p 0 % 8, Nat.mod_lt _ (by omega)⟩
  let v := byteAt c.p 1
  let ws := bytesWords ((c.p.drop 4).take 32)
  opArgs h c.p 36 [(0, 1, byteAt c.p 0 < 8), (1, 1, v < 2), (4, 32, true)] fun h =>
    opStore h .config fun h =>
      let h := (List.range 8).foldl
        (fun h i => h.shadowWrite 0 (0x60100 + 0x20 * r.val + 4 * i) (BitVec.allOnes 32) (ws.getD i 0)) h
      let bit := BitVec.twoPow 32 (8 + r.val)
      (h.shadowWrite 0 0x60000 bit (if v = 1 then bit else 0)).pageStore (.config (.root r ws (v == 1)))

/-- SEC.KEY_GENERATE. -/
def opKeyGenerate (h : Hub) (c : OpCtx) : OpRes :=
  let k := byteAt c.p 0
  let u := byteAt c.p 1
  opArgs h c.p 2 [(0, 1, 1 ≤ k && k < 32 && k ≠ 4), (1, 1, u == 0 || u == 2 || u == 3)] fun h => opOn h domSec fun h =>
    opJob h c fun h => h.modSec fun x => { x with engine := x.engine ++ [.keyGen c.j (argSlot k) u] }

/-- SEC.KEY_IMPORT: the spec does not say which 256 bits a slot holds of a 512-bit public key: they are a free value (log 103). -/
def opKeyImport (h : Hub) (c : OpCtx) : OpRes :=
  let k := byteAt c.p 0
  opArgs h c.p 68 [(0, 1, 4 ≤ k && k < 32), (4, 64, true)] fun h => opOn h domSec fun h =>
    opStore h .config fun h =>
      ((h.drawn.modSec fun x =>
        { x with keys := x.keys.set (argSlot k) (some { use := .verify, value := Config.keyValue h.freeCtr })
                 publics := (x.publics.filter fun y => y.1 ≠ k) ++ [(k, (c.p.drop 4).take 64)] }).pageStore
        (.config (.keyBlob (argSlot k)))).domCheck

/-- SEC.KEY_ERASE. -/
def opKeyErase (h : Hub) (c : OpCtx) : OpRes :=
  let k := byteAt c.p 0
  opArgs h c.p 1 [(0, 1, 1 ≤ k && k < 32)] fun h => opOn h domSec fun h =>
    opStore h .config fun h =>
      (h.modSec fun x =>
        { x with keys := x.keys.set (argSlot k) none, publics := x.publics.filter fun y => y.1 ≠ k }).pageStore
        (.config (.keyErase (argSlot k)))

/-- SEC.CERT_STORE. -/
def opCertStore (h : Hub) (c : OpCtx) : OpRes :=
  let k := byteAt c.p 0
  let off := u16 c.p 2
  let data := c.p.drop 4
  if c.p.length < 5 ∨ 228 < c.p.length then opBad h 0xFFFF
  else
    opArgs h c.p c.p.length
      [(0, 1, 1 ≤ k && k ≤ 3), (2, 2, decide (off + data.length ≤ 4096)), (4, 224, true)] fun h =>
      opStore h .config fun h => h.pageStore (.config (.cert k off data))

/-- SEC.SEC_VER_RAISE: the fuse floor never falls. -/
def opVerRaise (h : Hub) (c : OpCtx) : OpRes :=
  let v := u16 c.p 0
  opArgs h c.p 2 [(0, 2, true)] fun h =>
    if h.sec.secVerRun < v then opReject h 4 0
    else opOk (h.modSec fun x => { x with secVerMin := max x.secVerMin v }) []

/-- SEC.DEBUG_OPEN. -/
def opDebugOpen (h : Hub) (c : OpCtx) : OpRes :=
  opArgs h c.p 68 [(0, 1, true), (4, 64, true)] fun h => opOn h domSec fun h =>
    opJob h c fun h => (h.bump (cntSec 3)).modSec fun x => { x with engine := x.engine ++ [.token (some c.j) (byteAt c.p 0)] }

/-- SEC.UTC_SET: TB is read through its latching pair. -/
def opUtcSet (h : Hub) (c : OpCtx) : OpRes :=
  opArgs h c.p 8 [(0, 8, true)] fun h => opOn h domPe fun h =>
    let h := h.modTiming fun t => { t with hiLatch := h.tb.extractLsb' 32 32 }
    let b := (u64 c.p 0 + 2 ^ 64 - h.tb.toNat / ticksPerSecond) % 2 ^ 64
    let h := (h.busWrite32 0 0x60024 2 (argWord b)).busWrite32 0 0x60028 2 (argWord (b / 2 ^ 32))
    opOk h (putLe 8 b)

/-! #### DOM (R343, R390) -/

/-- DOM.REQUEST. -/
def opDomRequest (h : Hub) (c : OpCtx) : OpRes :=
  let n := argDom (byteAt c.p 0)
  let t := byteAt c.p 1
  let hold := byteAt c.p 2
  let x := 0x2100 + 0x10 * n.val
  let w := argWord (t + 4 * hold)
  opArgs h c.p 3 [(0, 1, byteAt c.p 0 < 24), (1, 1, t < 3), (2, 1, hold < 2)] fun h =>
    if hold = 1 ∨ n = domMp then
      let h := h.busWrite32 c.m x 2 w
      opOk h (wordBytes (h.stDom n))
    else
      opJob h c fun h =>
        let h := (h.modSeq fun q => { q with jobs := q.jobs ++ [{ job := c.j, dom := some n }] }).busWrite32 c.m x 2 w
        let want : DomState := if t = 0 then .on else if t = 1 then .ret else .off
        if (h.dom n).state = want ∧ (h.dom n).queued = .none then h.domJobsEnd n true else h

/-- A held plan names the MP domain. -/
def Hub.planNamesMp (h : Hub) : Bool := (h.dom domMp).hold && (h.dom domMp).pend != .none

/-- DOM.PLAN_GO. -/
def opDomPlanGo (h : Hub) (c : OpCtx) : OpRes :=
  opArgs h c.p 0 [] fun h =>
    if h.planNamesMp then opOk (h.command c.m 0x2000 false fun h => h.planGo) []
    else
      opJob h c fun h =>
        (h.modSeq fun q => { q with jobs := q.jobs ++ [{ job := c.j, dom := none }] }).command c.m 0x2000 false fun h => h.planGo

/-- DOM.STATUS. -/
def opDomStatus (h : Hub) (c : OpCtx) : OpRes :=
  opArgs h c.p 0 [] fun h => opOk h (h.peeks (0x2004 :: (List.range 24).map fun n => 0x2108 + 0x10 * n))

/-! #### JOURNAL (R317, R390) -/

/-- JOURNAL.INFO. -/
def opJournalInfo (h : Hub) (c : OpCtx) : OpRes :=
  opArgs h c.p 0 [] fun h => opOn h domNvm fun h => opOk h (h.peeks [0x78044, 0x78070])

/-- JOURNAL.READ. -/
def opJournalRead (h : Hub) (c : OpCtx) : OpRes :=
  let i := u16 c.p 0
  let n := byteAt c.p 2
  opArgs h c.p 3 [(0, 2, decide (i < 16384)), (2, 1, 1 ≤ n && n ≤ 7)] fun h => opOn h domNvm fun h =>
    let recs := (List.range n).flatMap fun k => recBytes (h.ringRec (i + k))
    let found := fun k => c.reads.getD k .clean
    { h := (List.range n).foldl (fun h k => h.recRead (i + k) (found k)) h
      o := { status := 0, detail := sumBy (fun k => if isUe (found k) then 2 ^ k else 0) (List.range n), data := recs } }

/-- JOURNAL.SET_MIN_SEV. -/
def opSetMinSev (h : Hub) (c : OpCtx) : OpRes :=
  let v := byteAt c.p 0
  opArgs h c.p 1 [(0, 1, v < 8)] fun h => opCommit1 h c.m 0x78040 [(0x78040, 7, argWord v)] fun h => opOk h []

/-! #### FW (R321, R322, R385, R390) -/

/-- The version of a bank as FW.STATUS gives it. -/
def bankVersion (b : BankInfo) : Word := if b.state = .empty ∨ b.state = .bad then 0 else b.version

/-- FW.STATUS. -/
def opFwStatus (h : Hub) (c : OpCtx) : OpRes :=
  opArgs h c.p 0 [] fun h => opOn h domNvm fun h =>
    opOk h (h.peeks [0x78080] ++ wordBytes (bankVersion h.nvm.bankA) ++ wordBytes (bankVersion h.nvm.bankB))

/-- A distribution runs: the manager's own, or one that loads this hub's idle bank (R269). -/
def Hub.distributing (h : Hub) : Bool := (1 ≤ h.csb.dist.phase && h.csb.dist.phase ≤ 3) || h.csb.load.offer.isSome

/-- FW.BEGIN. -/
def opFwBegin (h : Hub) (c : OpCtx) : OpRes :=
  opArgs h c.p 4 [(0, 4, decide (u32 c.p 0 ≤ 1572864))] fun h =>
    if h.distributing then opReject h 5 0
    else opOk ((h.modNvm fun n => n.modBank n.idle fun _ => { state := .writing }).modMbx fun m => { m with halves := [] }) []

/-- FW.WRITE: a half is held, by its offset, until the other half of its page comes; both make it a store. -/
def opFwWrite (h : Hub) (c : OpCtx) : OpRes :=
  let off := u32 c.p 0
  let bytes := (c.p.drop 4).take 128
  opArgs h c.p 132 [(0, 4, off % 128 == 0 && decide (off + 128 ≤ 1572864)), (4, 128, true)] fun h =>
    if (h.nvm.bank h.nvm.idle).state ≠ .writing then opReject h 4 0
    else
      let other := if off % 256 = 0 then off + 128 else off - 128
      let rest := h.mbx.halves.filter fun x => x.1 ≠ off
      match rest.find? fun x => x.1 == other with
      | some (_, bs) =>
        let page := if off % 256 = 0 then bytes ++ bs else bs ++ bytes
        opStore h .firmware fun h =>
          (h.modMbx fun m => { m with halves := rest.filter fun x => x.1 ≠ other }).pageStore
            (.firmware h.nvm.idle (off / 256) page c.m.val)
      | none => opOk (h.modMbx fun m => { m with halves := rest ++ [(off, bytes)] }) []

/-- FW.VERIFY. -/
def opFwVerify (h : Hub) (c : OpCtx) : OpRes :=
  opArgs h c.p 0 [] fun h => opOn h domSec fun h =>
    opJob h c fun h => h.modSec fun x => { x with engine := x.engine ++ [.firmware (some c.j)] }

/-- FW.ACTIVATE: the name is stored once OK is. -/
def opFwActivate (h : Hub) (c : OpCtx) : OpRes :=
  opArgs h c.p 0 [] fun h =>
    if (h.nvm.bank h.nvm.idle).state ≠ .verified then opReject h 4 0
    else if h.pageRefused .config then { h := (h.huEvt 2).bump (cntNvm 21), o := h.pageAnswer .config [] }
    else { h := h, o := h.pageAnswer .config [], after := .activate }

/-- FW.RESTART. -/
def opFwRestart (h : Hub) (c : OpCtx) : OpRes := opArgs h c.p 0 [] fun h => { h := h, o := { status := 0 }, after := .restart }

/-! #### CASCADE (R266, R269, R390, R391) -/

/-- A command of a manager only (R390). -/
def opManager (h : Hub) (f : Hub → OpRes) : OpRes := if h.csb.role = 2 then f h else opUnsup h 3

/-- CASCADE.STATUS. -/
def opCascadeStatus (h : Hub) (c : OpCtx) : OpRes :=
  opArgs h c.p 0 [] fun h => opOn h domCsb fun h => opOk h (h.peeks [0x7000C, 0x70028, 0x70030, 0x22010])

/-- CASCADE.WORKER_STAT. -/
def opWorkerStat (h : Hub) (c : OpCtx) : OpRes :=
  let i := byteAt c.p 0
  let n := byteAt c.p 1
  opManager h fun h =>
    opArgs h c.p 2 [(0, 1, 1 ≤ i && i < 64), (1, 1, 1 ≤ n && n ≤ 14 && decide (i + n ≤ 64))] fun h => opOn h domCsb fun h =>
      opOk h (h.peeks ((List.range n).flatMap fun k => [4, 8, 12, 0].map fun o => 0x70100 + 0x10 * (i + k) + o))

/-- CASCADE.FORWARD: the inner message goes out as an MBX frame; to a worker that is not joined it stays unanswered. -/
def opForward (h : Hub) (c : OpCtx) : OpRes :=
  let w := byteAt c.p 0
  let inner := c.p.drop 4
  opManager h fun h =>
    if c.p.length < 4 then opBad h 0xFFFF
    else
      opArgs h c.p c.p.length [(0, 1, 1 ≤ w && w < 64), (4, 236, msgWhole inner)] fun h => opOn h domCsb fun h =>
        opJob h c fun h =>
          let h := h.modJob c.j fun x => x.map fun x => { x with fwd := some { worker := w, tag := BitVec.ofNat 16 (u16 inner 2) } }
          if (h.worker (argWorker w)).state = 1 then h.csbDown { dst := w, src := 0, body := .mbx inner } else h.fwdFail c.j

/-- CASCADE.SET_LIMITS. -/
def opSetLimits (h : Hub) (c : OpCtx) : OpRes :=
  let w := byteAt c.p 0
  opManager h fun h =>
    opArgs h c.p 6 [(0, 1, 1 ≤ w && w < 64), (2, 2, true), (4, 2, decide (u16 c.p 4 ≤ 4800))] fun h =>
      opCommit1 h c.m 0x70100 [(0x70100 + 0x10 * w, BitVec.allOnes 32, argWord (u16 c.p 2 + u16 c.p 4 * 65536))] fun h => opOk h []

/-- CASCADE.FW_DISTRIBUTE. -/
def opFwDistribute (h : Hub) (c : OpCtx) : OpRes :=
  let b := byteAt c.p 0
  let k : Bank := if b = 0 then .a else .b
  opManager h fun h =>
    opArgs h c.p 16 [(0, 1, b < 2), (8, 8, byteAt c.p 8 % 2 == 0)] fun h => opOn h domCsb fun h =>
      if 1 ≤ h.csb.dist.phase ∧ h.csb.dist.phase ≤ 3 then opReject h 5 0
      else if (h.nvm.bank k).state = .verified ∨ (h.nvm.bank k).state = .active then opOk (h.fwStart k (u64 c.p 8)) []
      else opReject h 4 0

/-- CASCADE.FORGET: a lost worker leaves the manager's accounting; its entry of the ID table stays. -/
def opForget (h : Hub) (c : OpCtx) : OpRes :=
  let w := byteAt c.p 0
  opManager h fun h =>
    opArgs h c.p 1 [(0, 1, 1 ≤ w && w < 64)] fun h => opOn h domCsb fun h =>
      if (h.worker (argWorker w)).state = 1 then opReject h 4 0
      else opOk ((h.modWorker (argWorker w) fun x => { uid := x.uid }).csbRetarget) []

end Sys2Proof.Machine
end

