-- ==== Sys2Proof/Machine/MbxRun.lean ====
section
/-! DEFINITION. Which command Umuri starts, how it runs, and how its response and a job's completion are stored (R365, R368,
R378, R381, R383). -/

namespace Sys2Proof.Machine

/-- The meaning of an opcode (R387-R390); one that no table lists is UNSUPPORTED. -/
def opMeaning (h : Hub) (c : OpCtx) : OpRes :=
  match c.opcode with
  | 0x0100 => opVersion h c
  | 0x0101 => opCaps h c
  | 0x0103 => opRingStat h c
  | 0x0104 => opEcho h c
  | 0x0105 => opJobStat h c
  | 0x0200 => opRegRead h c
  | 0x0201 => opRegWrite h c
  | 0x0202 => opRegWriteMasked h c
  | 0x0203 => opRegReadMulti h c
  | 0x0300 => opMbxCommit h c
  | 0x0301 => opCommitStat h c
  | 0x0400 => opSnapTake h c
  | 0x0401 => opSnapRead h c
  | 0x0500 => opPortStatus h c
  | 0x0501 => opOutletStatus h c
  | 0x0502 => opPortEnable h c
  | 0x0503 => opPortDetach h c
  | 0x0504 => opLockoutClear h c
  | 0x0505 => opLatchClear h c
  | 0x0506 => opRetryClear h c
  | 0x0507 => opRebase h c
  | 0x0508 => opOutletSet h c
  | 0x0509 => opUpstreamSwitch h c
  | 0x0600 => opPdAction h c
  | 0x0601 => opCaptureCtrl h c
  | 0x0602 => opCaptureRead h c
  | 0x0700 => opBudgetStatus h c
  | 0x0701 => opBudgetSet h c
  | 0x0702 => opSetClass h c
  | 0x0800 => opQueueStat h c
  | 0x0801 => opShape h c
  | 0x0802 => opPolice h c
  | 0x0803 => opPolicerStat h c
  | 0x0804 => opMapWrite h c
  | 0x0805 => opMapRead h c
  | 0x0806 => opMapFlip h c
  | 0x0900 => opGateLoad h c
  | 0x0901 => opGateApply h c
  | 0x0902 => opGateCancel h c
  | 0x0903 => opGateStatus h c
  | 0x0A00 => opAttest h c
  | 0x0A01 => opPolicyLoad h c
  | 0x0A02 => opPolicyApply h c
  | 0x0A03 => opFwlRelease h c
  | 0x0A04 => opReauth h c
  | 0x0A05 => opRootSet h c
  | 0x0A06 => opKeyGenerate h c
  | 0x0A07 => opKeyImport h c
  | 0x0A08 => opKeyErase h c
  | 0x0A09 => opCertStore h c
  | 0x0A0A => opVerRaise h c
  | 0x0A0B => opDebugOpen h c
  | 0x0A0C => opUtcSet h c
  | 0x0B00 => opDomRequest h c
  | 0x0B01 => opDomPlanGo h c
  | 0x0B02 => opDomStatus h c
  | 0x0C00 => opJournalInfo h c
  | 0x0C01 => opJournalRead h c
  | 0x0C02 => opSetMinSev h c
  | 0x0D00 => opFwStatus h c
  | 0x0D01 => opFwBegin h c
  | 0x0D02 => opFwWrite h c
  | 0x0D03 => opFwVerify h c
  | 0x0D04 => opFwActivate h c
  | 0x0D05 => opFwRestart h c
  | 0x0E00 => opCascadeStatus h c
  | 0x0E01 => opWorkerStat h c
  | 0x0E02 => opForward h c
  | 0x0E03 => opSetLimits h c
  | 0x0E04 => opFwDistribute h c
  | 0x0E05 => opForget h c
  | _ => opUnsup h 1

/-- The command starts a job, so that it needs a job number (R368, R390). -/
def Hub.needsJob (h : Hub) (op : Nat) (p : List Byte) : Bool :=
  match op with
  | 0x0A00 => byteAt p 0 == 0
  | 0x0A02 | 0x0A06 | 0x0A0B | 0x0D03 | 0x0E02 => true
  | 0x0B00 => byteAt p 0 ≠ 20 && byteAt p 2 == 0
  | 0x0B01 => !h.planNamesMp
  | _ => false

/-- What follows a stored response (R390). -/
def Hub.afterOp (h : Hub) (a : After) : Hub :=
  match a with
  | .nothing => h
  | .activate => h.pageStore (.config (.activeBank h.nvm.idle 2))
  | .restart => h.mpRestart 1

/-- A command runs on its ring, and its first response is stored (R365, R382). A ring clear during it discards the response
(R369); an MP restart has answered it already. The answer is the status, where one was given. -/
def Hub.runCmd (h : Hub) (r : RingIx) (master : Master) (m : Msg) (reads : List EccRead) : Hub × Nat :=
  let h := h.modRing r fun g => { g with running := some m, dropRun := false }
  let h := h.modMbx fun x => { x with taken := x.taken + 1 }
  let h := h.modRing r fun g => { g with served := h.mbx.taken }
  let c : OpCtx :=
    { r := r, m := master, opcode := m.opcode, tag := m.tag, p := m.payload, j := h.freeJob.getD 0, reads := reads }
  let x := opGate h c fun h => opMeaning h c
  let g := x.h.ring r
  if g.running.isNone then (x.h, 9)
  else
    let h := x.h.modRing r fun g => { g with running := none, dropRun := false }
    let h := if g.dropRun then h.stallEval r else h.storeResp r m.opcode m.tag false x.o.status x.o.detail x.o.data
    (h.afterOp x.after, x.o.status)

/-- Umuri, or the boot ROM in its place, runs (R383). -/
def Hub.umuriRuns (h : Hub) : Bool := (h.mbx.umuriUp || h.mbx.bootRomOnly) && !h.mbx.restarting && h.domRuns domMp

/-- Commands are taken: the MP domain is ON (R10, R383). -/
def Hub.serving (h : Hub) : Bool := h.umuriRuns && h.domOn domMp

/-- A ring's next command can start (R365, R368). -/
def Hub.canStart (h : Hub) (r : RingIx) : Bool :=
  let g := h.ring r
  match g.cmds with
  | [] => false
  | m :: _ => g.running.isNone && h.respFree r && (h.freeJob.isSome || !h.needsJob m.opcode m.payload)

/-- The command at the head of a ring starts; its slot is freed, and the MF hears of it (R365, R370). -/
def Hub.startRing (h : Hub) (r : RingIx) (reads : List EccRead) : Hub :=
  match (h.ring r).cmds with
  | [] => h
  | m :: rest =>
    let h := h.freeSlots r fun h => h.modRing r fun g => { g with cmds := rest }
    ((h.runCmd r (if r.val = 5 then 1 else h.ringMaster r) m reads).1).stallEval r

/-- The ring, among some, that can start and was served least recently (R381). -/
def Hub.leastServed (h : Hub) (rs : List RingIx) : Option RingIx :=
  (rs.filter fun r => h.canStart r).foldl
    (fun b r => match b with
      | none => some r
      | some q => if (h.ring r).served < (h.ring q).served then some r else some q) none

/-- The next message of a policy image runs on ring 5 as master ID 0; the first response other than OK ends the run. A message
that fails a check of R362, in its order, is discarded; INFO.RESP_ACK, which the MBX hardware handles, runs nothing
(R366, R378; log 116). -/
def Hub.policyStep (h : Hub) (reads : List EccRead) : Hub :=
  match h.mbx.policy with
  | none => h
  | some x =>
    match x.rest with
    | [] => h.policyEnd x.job x.length x.run 0
    | bs :: rest =>
      let next := fun (h : Hub) (run : Nat) =>
        match h.mbx.policy with
        | none => h
        | some y =>
          if rest.isEmpty then h.policyEnd y.job y.length run 0
          else h.modMbx fun m => { m with policy := some { y with rest := rest, run := run } }
      if !msgWhole bs then next h.formatErr x.run
      else if !msgCrcOk bs then next h.mbxCrcErr x.run
      else if (u16 bs 6) % 2 = 1 then next h.formatErr x.run
      else if h.tagUsed 5 (msgOf bs).tag then next ((h.mbxEvt 2).bump (cntMbx 2)) x.run
      else if (msgOf bs).opcode = 0x0102 then next (h.respAck 5 (msgOf bs).payload) x.run
      else if h.needsJob (msgOf bs).opcode (msgOf bs).payload && h.freeJob.isNone then h
      else
        let y := (h.bump (cntRing 5 0)).runCmd 5 0 (msgOf bs) reads
        if y.1.mbx.policy.isNone then y.1
        else if y.2 = 0 then next y.1 (x.run + 1)
        else y.1.policyEnd x.job x.length x.run y.2

/-- The ring whose command is next: the lowest tier with one that can start (R364, R381). -/
def Hub.nextRing (h : Hub) : Option RingIx :=
  [[1, 3], [4], [0, 2], [5]].findSome? fun rs => h.leastServed rs

/-- COMMAND_START: the earliest startable command of the lowest tier (R381); the messages of a policy image are of the last. -/
def Hub.commandStart (h : Hub) (reads : List EccRead) : Hub :=
  if !h.serving then h
  else
    match h.nextRing with
    | some r => h.startRing r reads
    | none => h.policyStep reads

/-- The completion of a job, as Umuri stores it: DOM.REQUEST's shows the domain's state (R368, R390). -/
def Hub.completionData (h : Hub) (x : Job) (o : Outcome) : List Byte :=
  if x.opcode = 0x0B00 ∧ o.status = 0 then
    match o.data with
    | [b] => wordBytes (h.peek (0x2108 + 0x10 * (b.toNat % 24)))
    | d => d
  else o.data

/-- JOB_COMPLETION: the lowest job whose outcome is known and whose ring has a free slot; a dropped one leaves no response. -/
def Hub.jobComplete (h : Hub) : Hub :=
  let ready := (List.finRange 8).find? fun j =>
    match h.mbx.jobs[j] with
    | some x => x.done.isSome && (x.drop || h.respFree x.ring)
    | none => false
  match ready with
  | none => h
  | some j =>
    match h.mbx.jobs[j] with
    | none => h
    | some x =>
      match x.done with
      | none => h
      | some o =>
        let h := h.modJob j fun _ => none
        if x.drop then h
        else
          h.storeResp x.ring x.opcode x.tag true o.status o.detail (h.completionData x o) j.val

/-- A command of an opcode arrives on a ring, whole and with a right CRC, and starts at once where nothing is ahead of it on any
ring and Umuri can take it; it waits otherwise (R362, R365, R381). -/
def Hub.opRow (h : Hub) (r : RingIx) (opcode : Nat) (tag : BitVec 16) (arg : List Byte) (reads : List EccRead) : Hub :=
  if 240 < arg.length then h.formatErr
  else if h.tagUsed r tag then (h.mbxEvt 2).bump (cntMbx 2)
  else if h.cmdFull r then h
  else
    let alone := (h.ring r).cmds.isEmpty
    let h := h.cmdStore r { opcode := opcode, tag := tag, payload := arg }
    if alone && h.serving && h.nextRing == some r then h.startRing r reads else h

/-- An opcode's row acts while the MBX block works (R364). -/
def onRow (s : State) (r : RingIx) (opcode : Nat) (tag : BitVec 16) (arg : List Byte) (reads : List EccRead) : Host.Outcome State Fault Refusal :=
  perform s fun h => h.inDom domBus fun h => h.opRow r opcode tag arg reads

end Sys2Proof.Machine
end

