-- ==== Sys2Proof/Machine/Opcodes.lean ====
section
/-! DEFINITION. The rows of the opcode table that are mailbox opcodes: one command each, arriving on a ring with its tag and its
payload (R387-R391). -/

namespace Sys2Proof.Machine

/-- INFO_RESP_ACK (R366): handled by the MBX hardware as it arrives. -/
def execInfoRespAck (r : RingIx) (tag : BitVec 16) (arg : List (BitVec 8)) (s : State) : Host.Outcome State Fault Refusal :=
  perform s fun h => h.inDom domBus fun h => if h.tagUsed r tag then (h.mbxEvt 2).bump (cntMbx 2) else h.respAck r arg

/-- INFO_GET_VERSION (R387): opcode 0x0100. -/
def execInfoGetVersion (r : RingIx) (tag : BitVec 16) (arg : List (BitVec 8)) (s : State) : Host.Outcome State Fault Refusal :=
  onRow s r 0x0100 tag arg []

/-- INFO_GET_CAPS (R387): opcode 0x0101. -/
def execInfoGetCaps (r : RingIx) (tag : BitVec 16) (arg : List (BitVec 8)) (s : State) : Host.Outcome State Fault Refusal :=
  onRow s r 0x0101 tag arg []

/-- INFO_RING_STAT (R387): opcode 0x0103. -/
def execInfoRingStat (r : RingIx) (tag : BitVec 16) (arg : List (BitVec 8)) (s : State) : Host.Outcome State Fault Refusal :=
  onRow s r 0x0103 tag arg []

/-- INFO_ECHO (R387): opcode 0x0104. -/
def execInfoEcho (r : RingIx) (tag : BitVec 16) (arg : List (BitVec 8)) (s : State) : Host.Outcome State Fault Refusal :=
  onRow s r 0x0104 tag arg []

/-- INFO_JOB_STAT (R387): opcode 0x0105. -/
def execInfoJobStat (r : RingIx) (tag : BitVec 16) (arg : List (BitVec 8)) (s : State) : Host.Outcome State Fault Refusal :=
  onRow s r 0x0105 tag arg []

/-- REG_READ (R387): opcode 0x0200. -/
def execRegRead (r : RingIx) (tag : BitVec 16) (arg : List (BitVec 8)) (s : State) : Host.Outcome State Fault Refusal :=
  onRow s r 0x0200 tag arg []

/-- REG_WRITE (R387): opcode 0x0201. -/
def execRegWrite (r : RingIx) (tag : BitVec 16) (arg : List (BitVec 8)) (s : State) : Host.Outcome State Fault Refusal :=
  onRow s r 0x0201 tag arg []

/-- REG_WRITE_MASKED (R387): opcode 0x0202. -/
def execRegWriteMasked (r : RingIx) (tag : BitVec 16) (arg : List (BitVec 8)) (s : State) : Host.Outcome State Fault Refusal :=
  onRow s r 0x0202 tag arg []

/-- REG_READ_MULTI (R387): opcode 0x0203. -/
def execRegReadMulti (r : RingIx) (tag : BitVec 16) (arg : List (BitVec 8)) (s : State) : Host.Outcome State Fault Refusal :=
  onRow s r 0x0203 tag arg []

/-- MBX_COMMIT (R387): opcode 0x0300. -/
def execMbxCommit (r : RingIx) (tag : BitVec 16) (arg : List (BitVec 8)) (s : State) : Host.Outcome State Fault Refusal :=
  onRow s r 0x0300 tag arg []

/-- MBX_COMMIT_STAT (R387): opcode 0x0301. -/
def execMbxCommitStat (r : RingIx) (tag : BitVec 16) (arg : List (BitVec 8)) (s : State) : Host.Outcome State Fault Refusal :=
  onRow s r 0x0301 tag arg []

/-- SNAPSHOT_TAKE (R387): opcode 0x0400. -/
def execSnapshotTake (r : RingIx) (tag : BitVec 16) (arg : List (BitVec 8)) (s : State) : Host.Outcome State Fault Refusal :=
  onRow s r 0x0400 tag arg []

/-- SNAPSHOT_READ (R387): opcode 0x0401. -/
def execSnapshotRead (r : RingIx) (tag : BitVec 16) (arg : List (BitVec 8)) (s : State) : Host.Outcome State Fault Refusal :=
  onRow s r 0x0401 tag arg []

/-- PORT_STATUS (R388): opcode 0x0500. -/
def execPortStatus (r : RingIx) (tag : BitVec 16) (arg : List (BitVec 8)) (s : State) : Host.Outcome State Fault Refusal :=
  onRow s r 0x0500 tag arg []

/-- PORT_OUTLET_STATUS (R388): opcode 0x0501. -/
def execPortOutletStatus (r : RingIx) (tag : BitVec 16) (arg : List (BitVec 8)) (s : State) : Host.Outcome State Fault Refusal :=
  onRow s r 0x0501 tag arg []

/-- PORT_ENABLE (R388): opcode 0x0502. -/
def execPortEnable (r : RingIx) (tag : BitVec 16) (arg : List (BitVec 8)) (s : State) : Host.Outcome State Fault Refusal :=
  onRow s r 0x0502 tag arg []

/-- PORT_DETACH (R388): opcode 0x0503. -/
def execPortDetach (r : RingIx) (tag : BitVec 16) (arg : List (BitVec 8)) (s : State) : Host.Outcome State Fault Refusal :=
  onRow s r 0x0503 tag arg []

/-- PORT_LOCKOUT_CLEAR (R388): opcode 0x0504. -/
def execPortLockoutClear (r : RingIx) (tag : BitVec 16) (arg : List (BitVec 8)) (s : State) : Host.Outcome State Fault Refusal :=
  onRow s r 0x0504 tag arg []

/-- PORT_LATCH_CLEAR (R388): opcode 0x0505. -/
def execPortLatchClear (r : RingIx) (tag : BitVec 16) (arg : List (BitVec 8)) (s : State) : Host.Outcome State Fault Refusal :=
  onRow s r 0x0505 tag arg []

/-- PORT_RETRY_CLEAR (R388): opcode 0x0506. -/
def execPortRetryClear (r : RingIx) (tag : BitVec 16) (arg : List (BitVec 8)) (s : State) : Host.Outcome State Fault Refusal :=
  onRow s r 0x0506 tag arg []

/-- PORT_REBASE (R388): opcode 0x0507. -/
def execPortRebase (r : RingIx) (tag : BitVec 16) (arg : List (BitVec 8)) (s : State) : Host.Outcome State Fault Refusal :=
  onRow s r 0x0507 tag arg []

/-- PORT_OUTLET_SET (R388): opcode 0x0508. -/
def execPortOutletSet (r : RingIx) (tag : BitVec 16) (arg : List (BitVec 8)) (s : State) : Host.Outcome State Fault Refusal :=
  onRow s r 0x0508 tag arg []

/-- PORT_UPSTREAM_SWITCH (R388): opcode 0x0509. -/
def execPortUpstreamSwitch (r : RingIx) (tag : BitVec 16) (arg : List (BitVec 8)) (s : State) : Host.Outcome State Fault Refusal :=
  onRow s r 0x0509 tag arg []

/-- PD_ACTION (R388): opcode 0x0600. -/
def execPdAction (r : RingIx) (tag : BitVec 16) (arg : List (BitVec 8)) (s : State) : Host.Outcome State Fault Refusal :=
  onRow s r 0x0600 tag arg []

/-- PD_CAPTURE_CTRL (R388): opcode 0x0601. -/
def execPdCaptureCtrl (r : RingIx) (tag : BitVec 16) (arg : List (BitVec 8)) (s : State) : Host.Outcome State Fault Refusal :=
  onRow s r 0x0601 tag arg []

/-- PD_CAPTURE_READ (R388): opcode 0x0602. -/
def execPdCaptureRead (r : RingIx) (tag : BitVec 16) (arg : List (BitVec 8)) (s : State) : Host.Outcome State Fault Refusal :=
  onRow s r 0x0602 tag arg []

/-- BUDGET_STATUS (R388): opcode 0x0700. -/
def execBudgetStatus (r : RingIx) (tag : BitVec 16) (arg : List (BitVec 8)) (s : State) : Host.Outcome State Fault Refusal :=
  onRow s r 0x0700 tag arg []

/-- BUDGET_SET (R388): opcode 0x0701. -/
def execBudgetSet (r : RingIx) (tag : BitVec 16) (arg : List (BitVec 8)) (s : State) : Host.Outcome State Fault Refusal :=
  onRow s r 0x0701 tag arg []

/-- BUDGET_SET_CLASS (R388): opcode 0x0702. -/
def execBudgetSetClass (r : RingIx) (tag : BitVec 16) (arg : List (BitVec 8)) (s : State) : Host.Outcome State Fault Refusal :=
  onRow s r 0x0702 tag arg []

/-- SCHED_QUEUE_STAT (R389): opcode 0x0800. -/
def execSchedQueueStat (r : RingIx) (tag : BitVec 16) (arg : List (BitVec 8)) (s : State) : Host.Outcome State Fault Refusal :=
  onRow s r 0x0800 tag arg []

/-- SCHED_SHAPE (R389): opcode 0x0801. -/
def execSchedShape (r : RingIx) (tag : BitVec 16) (arg : List (BitVec 8)) (s : State) : Host.Outcome State Fault Refusal :=
  onRow s r 0x0801 tag arg []

/-- SCHED_POLICE (R389): opcode 0x0802. -/
def execSchedPolice (r : RingIx) (tag : BitVec 16) (arg : List (BitVec 8)) (s : State) : Host.Outcome State Fault Refusal :=
  onRow s r 0x0802 tag arg []

/-- SCHED_POLICER_STAT (R389): opcode 0x0803. -/
def execSchedPolicerStat (r : RingIx) (tag : BitVec 16) (arg : List (BitVec 8)) (s : State) : Host.Outcome State Fault Refusal :=
  onRow s r 0x0803 tag arg []

/-- SCHED_MAP_WRITE (R389): opcode 0x0804. -/
def execSchedMapWrite (r : RingIx) (tag : BitVec 16) (arg : List (BitVec 8)) (s : State) : Host.Outcome State Fault Refusal :=
  onRow s r 0x0804 tag arg []

/-- SCHED_MAP_READ (R389): opcode 0x0805. -/
def execSchedMapRead (r : RingIx) (tag : BitVec 16) (arg : List (BitVec 8)) (s : State) : Host.Outcome State Fault Refusal :=
  onRow s r 0x0805 tag arg []

/-- SCHED_MAP_FLIP (R389): opcode 0x0806. -/
def execSchedMapFlip (r : RingIx) (tag : BitVec 16) (arg : List (BitVec 8)) (s : State) : Host.Outcome State Fault Refusal :=
  onRow s r 0x0806 tag arg []

/-- GATE_LOAD (R389): opcode 0x0900. -/
def execGateLoad (r : RingIx) (tag : BitVec 16) (arg : List (BitVec 8)) (s : State) : Host.Outcome State Fault Refusal :=
  onRow s r 0x0900 tag arg []

/-- GATE_APPLY (R389): opcode 0x0901. -/
def execGateApply (r : RingIx) (tag : BitVec 16) (arg : List (BitVec 8)) (s : State) : Host.Outcome State Fault Refusal :=
  onRow s r 0x0901 tag arg []

/-- GATE_CANCEL (R389): opcode 0x0902. -/
def execGateCancel (r : RingIx) (tag : BitVec 16) (arg : List (BitVec 8)) (s : State) : Host.Outcome State Fault Refusal :=
  onRow s r 0x0902 tag arg []

/-- GATE_STATUS (R389): opcode 0x0903. -/
def execGateStatus (r : RingIx) (tag : BitVec 16) (arg : List (BitVec 8)) (s : State) : Host.Outcome State Fault Refusal :=
  onRow s r 0x0903 tag arg []

/-- SEC_ATTEST (R390): opcode 0x0A00. -/
def execSecAttest (r : RingIx) (tag : BitVec 16) (arg : List (BitVec 8)) (s : State) : Host.Outcome State Fault Refusal :=
  onRow s r 0x0A00 tag arg []

/-- SEC_POLICY_LOAD (R390): opcode 0x0A01. -/
def execSecPolicyLoad (r : RingIx) (tag : BitVec 16) (arg : List (BitVec 8)) (s : State) : Host.Outcome State Fault Refusal :=
  onRow s r 0x0A01 tag arg []

/-- SEC_POLICY_APPLY (R390): opcode 0x0A02. -/
def execSecPolicyApply (r : RingIx) (tag : BitVec 16) (arg : List (BitVec 8)) (s : State) : Host.Outcome State Fault Refusal :=
  onRow s r 0x0A02 tag arg []

/-- SEC_FWL_RELEASE (R390): opcode 0x0A03. -/
def execSecFwlRelease (r : RingIx) (tag : BitVec 16) (arg : List (BitVec 8)) (s : State) : Host.Outcome State Fault Refusal :=
  onRow s r 0x0A03 tag arg []

/-- SEC_REAUTH (R390): opcode 0x0A04. -/
def execSecReauth (r : RingIx) (tag : BitVec 16) (arg : List (BitVec 8)) (s : State) : Host.Outcome State Fault Refusal :=
  onRow s r 0x0A04 tag arg []

/-- SEC_ROOT_SET (R390): opcode 0x0A05. -/
def execSecRootSet (r : RingIx) (tag : BitVec 16) (arg : List (BitVec 8)) (s : State) : Host.Outcome State Fault Refusal :=
  onRow s r 0x0A05 tag arg []

/-- SEC_KEY_GENERATE (R390): opcode 0x0A06. -/
def execSecKeyGenerate (r : RingIx) (tag : BitVec 16) (arg : List (BitVec 8)) (s : State) : Host.Outcome State Fault Refusal :=
  onRow s r 0x0A06 tag arg []

/-- SEC_KEY_IMPORT (R390): opcode 0x0A07. -/
def execSecKeyImport (r : RingIx) (tag : BitVec 16) (arg : List (BitVec 8)) (s : State) : Host.Outcome State Fault Refusal :=
  onRow s r 0x0A07 tag arg []

/-- SEC_KEY_ERASE (R390): opcode 0x0A08. -/
def execSecKeyErase (r : RingIx) (tag : BitVec 16) (arg : List (BitVec 8)) (s : State) : Host.Outcome State Fault Refusal :=
  onRow s r 0x0A08 tag arg []

/-- SEC_CERT_STORE (R390): opcode 0x0A09. -/
def execSecCertStore (r : RingIx) (tag : BitVec 16) (arg : List (BitVec 8)) (s : State) : Host.Outcome State Fault Refusal :=
  onRow s r 0x0A09 tag arg []

/-- SEC_VER_RAISE (R390): opcode 0x0A0A. -/
def execSecVerRaise (r : RingIx) (tag : BitVec 16) (arg : List (BitVec 8)) (s : State) : Host.Outcome State Fault Refusal :=
  onRow s r 0x0A0A tag arg []

/-- SEC_DEBUG_OPEN (R390): opcode 0x0A0B. -/
def execSecDebugOpen (r : RingIx) (tag : BitVec 16) (arg : List (BitVec 8)) (s : State) : Host.Outcome State Fault Refusal :=
  onRow s r 0x0A0B tag arg []

/-- SEC_UTC_SET (R390): opcode 0x0A0C. -/
def execSecUtcSet (r : RingIx) (tag : BitVec 16) (arg : List (BitVec 8)) (s : State) : Host.Outcome State Fault Refusal :=
  onRow s r 0x0A0C tag arg []

/-- DOM_REQUEST (R390): opcode 0x0B00. -/
def execDomRequest (r : RingIx) (tag : BitVec 16) (arg : List (BitVec 8)) (s : State) : Host.Outcome State Fault Refusal :=
  onRow s r 0x0B00 tag arg []

/-- DOM_PLAN_GO (R390): opcode 0x0B01. -/
def execDomPlanGo (r : RingIx) (tag : BitVec 16) (arg : List (BitVec 8)) (s : State) : Host.Outcome State Fault Refusal :=
  onRow s r 0x0B01 tag arg []

/-- DOM_STATUS (R390): opcode 0x0B02. -/
def execDomStatus (r : RingIx) (tag : BitVec 16) (arg : List (BitVec 8)) (s : State) : Host.Outcome State Fault Refusal :=
  onRow s r 0x0B02 tag arg []

/-- JOURNAL_INFO (R390): opcode 0x0C00. -/
def execJournalInfo (r : RingIx) (tag : BitVec 16) (arg : List (BitVec 8)) (s : State) : Host.Outcome State Fault Refusal :=
  onRow s r 0x0C00 tag arg []

/-- JOURNAL_READ (R390): opcode 0x0C01. -/
def execJournalRead (r : RingIx) (tag : BitVec 16) (arg : List (BitVec 8)) (reads : List EccRead) (s : State) : Host.Outcome State Fault Refusal :=
  onRow s r 0x0C01 tag arg reads

/-- JOURNAL_SET_MIN_SEV (R390): opcode 0x0C02. -/
def execJournalSetMinSev (r : RingIx) (tag : BitVec 16) (arg : List (BitVec 8)) (s : State) : Host.Outcome State Fault Refusal :=
  onRow s r 0x0C02 tag arg []

/-- FW_STATUS (R390): opcode 0x0D00. -/
def execFwStatus (r : RingIx) (tag : BitVec 16) (arg : List (BitVec 8)) (s : State) : Host.Outcome State Fault Refusal :=
  onRow s r 0x0D00 tag arg []

/-- FW_BEGIN (R390): opcode 0x0D01. -/
def execFwBegin (r : RingIx) (tag : BitVec 16) (arg : List (BitVec 8)) (s : State) : Host.Outcome State Fault Refusal :=
  onRow s r 0x0D01 tag arg []

/-- FW_WRITE (R390): opcode 0x0D02. -/
def execFwWrite (r : RingIx) (tag : BitVec 16) (arg : List (BitVec 8)) (s : State) : Host.Outcome State Fault Refusal :=
  onRow s r 0x0D02 tag arg []

/-- FW_VERIFY (R390): opcode 0x0D03. -/
def execFwVerify (r : RingIx) (tag : BitVec 16) (arg : List (BitVec 8)) (s : State) : Host.Outcome State Fault Refusal :=
  onRow s r 0x0D03 tag arg []

/-- FW_ACTIVATE (R390): opcode 0x0D04. -/
def execFwActivate (r : RingIx) (tag : BitVec 16) (arg : List (BitVec 8)) (s : State) : Host.Outcome State Fault Refusal :=
  onRow s r 0x0D04 tag arg []

/-- FW_RESTART (R390): opcode 0x0D05. -/
def execFwRestart (r : RingIx) (tag : BitVec 16) (arg : List (BitVec 8)) (s : State) : Host.Outcome State Fault Refusal :=
  onRow s r 0x0D05 tag arg []

/-- CASCADE_STATUS (R390): opcode 0x0E00. -/
def execCascadeStatus (r : RingIx) (tag : BitVec 16) (arg : List (BitVec 8)) (s : State) : Host.Outcome State Fault Refusal :=
  onRow s r 0x0E00 tag arg []

/-- CASCADE_WORKER_STAT (R390): opcode 0x0E01. -/
def execCascadeWorkerStat (r : RingIx) (tag : BitVec 16) (arg : List (BitVec 8)) (s : State) : Host.Outcome State Fault Refusal :=
  onRow s r 0x0E01 tag arg []

/-- CASCADE_FORWARD (R391): opcode 0x0E02. -/
def execCascadeForward (r : RingIx) (tag : BitVec 16) (arg : List (BitVec 8)) (s : State) : Host.Outcome State Fault Refusal :=
  onRow s r 0x0E02 tag arg []

/-- CASCADE_SET_LIMITS (R390): opcode 0x0E03. -/
def execCascadeSetLimits (r : RingIx) (tag : BitVec 16) (arg : List (BitVec 8)) (s : State) : Host.Outcome State Fault Refusal :=
  onRow s r 0x0E03 tag arg []

/-- CASCADE_FW_DISTRIBUTE (R390): opcode 0x0E04. -/
def execCascadeFwDistribute (r : RingIx) (tag : BitVec 16) (arg : List (BitVec 8)) (s : State) : Host.Outcome State Fault Refusal :=
  onRow s r 0x0E04 tag arg []

/-- CASCADE_FORGET (R390): opcode 0x0E05. -/
def execCascadeForget (r : RingIx) (tag : BitVec 16) (arg : List (BitVec 8)) (s : State) : Host.Outcome State Fault Refusal :=
  onRow s r 0x0E05 tag arg []

end Sys2Proof.Machine
end

