-- ==== Sys2Proof/Machine/Mailbox.lean ====
section
/-! DEFINITION. The transports of the mailbox and the commands of the MBX block (R365-R376, R381, R391, R396). -/

namespace Sys2Proof.Machine

/-- The ring of the MF: EP1 normal, EP2 urgent (R364). -/
def mfRing (urgent : Bool) : RingIx := if urgent then 1 else 0

/-- The ring of SMBus. -/
def smbRing (urgent : Bool) : RingIx := if urgent then 3 else 2

/-- The MBX block works in the BUS domain. -/
def onMbx (s : State) (f : Hub → Hub) : Host.Outcome State Fault Refusal := perform s fun h => h.inDom domBus f

/-! #### The Management Function (R370-R372) -/

/-- A transfer from the host to the MF: counted on the upstream pod; not taken while a credit is held (R178, R204). -/
def Hub.mfTakes (h : Hub) (bytes : Nat) (f : Hub → Hub) : Hub := if h.takesHeaders then f (h.countHostRx bytes) else h

/-- MF_COMMAND (R370): one message; NRDY or NAK while the command slots are full. -/
def Hub.mfCommand (h : Hub) (r : RingIx) (bs : List Byte) : Hub :=
  h.mfTakes bs.length fun h => if h.cmdFull r then h.mfSay r (.mbxBusy r.val) else h.commandCheck r bs

/-- MF_RESPONSE_IN (R371): the response at the delivery pointer, which moves on, goes up on UQ_0 (R18); NRDY or NAK where none
stands, or UQ_0 has no room for it. -/
def Hub.mfResponse (h : Hub) (r : RingIx) : Hub :=
  h.mfTakes 0 fun h =>
    match (h.ring r).resps.find? fun x => !x.delivered with
    | none => h.mfSay r (.mbxBusy r.val)
    | some x =>
      let bs := x.bytes r
      let sent := h.modRing r fun g =>
        { g with resps := g.resps.map fun y => if y.seq = x.seq then { y with delivered := true } else y }
      if h.upsel.active.isNone then sent.emit (.mbx r.val bs)
      else if h.uq0Room (answerCells (mfPacket h.upstreamSs) bs.length) then
        sent.uq0Put { src := 16, ep := r.val + 1, rank := if r.val = 1 then 0 else 4, bytes := bs.length
                      say := [.mbx r.val bs], respSeq := some x.seq }
      else h.mfSay r (.mbxBusy r.val)

/-- A vendor request on MF EP0 (R372): wIndex 0 or 1 names the ring; any other is answered with STALL. -/
def Hub.ep0 (h : Hub) (wIndex : Nat) (f : RingIx → Hub → Hub) : Hub :=
  h.mfTakes 0 fun h =>
    if wIndex = 0 then f 0 h else if wIndex = 1 then f 1 h
    else h.answer 16 0 2 (ep0Packet h.upstreamSs) 0 (.mbxBusy 6)

/-! #### SMBus (R373-R376) -/

/-- A transaction of the SMBus target: after T_STRETCH ran out its first data byte is not acknowledged (R346). -/
def Hub.smb (h : Hub) (r : RingIx) (f : Hub → Hub) : Hub :=
  if h.seq.stretchNak then (h.modSeq fun q => { q with stretchNak := false }).emit (.mbxBusy r.val) else f h

/-- The assembly is looked at after bytes were appended (R374): a LEN above 240 discards it at once, and the next byte starts a
new message. `fuel` is the number of bytes. -/
def Hub.asmEval (h : Hub) (r : RingIx) (fuel : Nat) : Hub :=
  let bs := (h.ring r).asm
  if bs.length < 6 then h
  else
    let n := 16 + u16 bs 4
    if 240 < u16 bs 4 then
      let h := ((h.asmDrop r).modRing r fun g => { g with asm := bs.drop 6, asmOpen := decide (6 < bs.length) }).formatErr
      match fuel with
      | 0 => h
      | k + 1 => h.asmEval r k
    else if bs.length < n then h
    else
      let h := (h.asmDrop r).commandCheck r (bs.take n)
      if n < bs.length then h.formatErr else h

/-- SMB_BLOCK_WRITE (R374): a code that is not acknowledged takes no bytes, so that no PEC is looked at. -/
def Hub.smbWrite (h : Hub) (r : RingIx) (bs : List Byte) (pecOk : Bool) : Hub :=
  if h.cmdFull r && !(h.ring r).asmOpen then h.emit (.mbxBusy r.val)
  else if h.smbPecReq && !pecOk then (h.asmDrop r).bump (cntMbx 0)
  else if bs.isEmpty then h
  else (h.modRing r fun g => { g with asm := g.asm ++ bs, asmOpen := true }).asmEval r bs.length

/-- The item of a head response: the word of its tag and length, then the message, zero-filled (R375). -/
def respItem (x : Resp) (r : RingIx) : List Word :=
  let ws := bytesWords (x.bytes r)
  BitVec.ofNat 32 (0x60000000 + x.tag.toNat % 256 * 65536 + (1 + ws.length)) :: ws

/-- SMB_BLOCK_READ (R375): up to 63 words of the head response's item from the read cursor, or Pip. -/
def Hub.smbRead (h : Hub) (r : RingIx) (words : Nat) : Hub :=
  match (h.ring r).resps with
  | [] => h.emit (.mbx r.val (wordsBytes [pip]))
  | x :: rest =>
    let item := respItem x r
    let cur := (h.ring r).cursor
    let ws := (item.drop cur).take words
    let past := cur + ws.length
    (h.modRing r fun g =>
      if item.length ≤ past then { g with cursor := 0, resps := { x with delivered := true } :: rest } else { g with cursor := past }).emit
      (.mbx r.val (wordsBytes ws))

/-- SMB_RING_STATUS (R373). -/
def Hub.smbStatus (h : Hub) : Nat :=
  let free := fun (r : RingIx) => 8 - (h.ring r).cmds.length
  free 2 + (h.ring 2).resps.length * 16 + free 3 * 256 + (h.ring 3).resps.length * 4096

/-! #### The commands -/

/-- MF_COMMAND. -/
def execMfCommand (urgent : Bool) (bytes : List (BitVec 8)) (s : State) : Host.Outcome State Fault Refusal :=
  onMbx s fun h => h.mfCommand (mfRing urgent) bytes

/-- MF_RESPONSE_IN. -/
def execMfResponseIn (urgent : Bool) (s : State) : Host.Outcome State Fault Refusal := onMbx s fun h => h.mfResponse (mfRing urgent)

/-- MF_EP0_REWIND. -/
def execMfEp0Rewind (wIndex : Nat) (s : State) : Host.Outcome State Fault Refusal :=
  onMbx s fun h => h.ep0 wIndex fun r h => (h.ringRewind r).mfEp0 []

/-- MF_EP0_CLEAR. -/
def execMfEp0Clear (wIndex : Nat) (s : State) : Host.Outcome State Fault Refusal :=
  onMbx s fun h => h.ep0 wIndex fun r h => (h.ringClear r 1).mfEp0 []

/-- MF_EP0_RING_STAT. -/
def execMfEp0RingStat (wIndex : Nat) (s : State) : Host.Outcome State Fault Refusal :=
  onMbx s fun h => h.ep0 wIndex fun _ h => h.mfEp0 (wordBytes (h.stRing 0) ++ wordBytes (h.stRing 1))

/-- SMB_BLOCK_WRITE. -/
def execSmbBlockWrite (urgent : Bool) (bytes : List (BitVec 8)) (pecOk : Bool) (s : State) : Host.Outcome State Fault Refusal :=
  onMbx s fun h => h.smb (smbRing urgent) fun h => h.smbWrite (smbRing urgent) bytes pecOk

/-- SMB_DISCARD_ASSEMBLY (R373). -/
def execSmbDiscardAssembly (s : State) : Host.Outcome State Fault Refusal :=
  onMbx s fun h => h.smb 2 fun h => (h.asmDrop 2).asmDrop 3

/-- SMB_BLOCK_READ. -/
def execSmbBlockRead (urgent : Bool) (words : Fin 64) (s : State) : Host.Outcome State Fault Refusal :=
  onMbx s fun h => h.smb (smbRing urgent) fun h => h.smbRead (smbRing urgent) words.val

/-- SMB_CURSOR_RESET (R375). -/
def execSmbCursorReset (s : State) : Host.Outcome State Fault Refusal :=
  onMbx s fun h => h.smb 2 fun h => (h.ringRewind 2).ringRewind 3

/-- SMB_ACK_TAG (R373). -/
def execSmbAckTag (urgent : Bool) (tag : BitVec 16) (s : State) : Host.Outcome State Fault Refusal :=
  onMbx s fun h => h.smb (smbRing urgent) fun h => h.respFreeIf (smbRing urgent) fun x => x.tag == tag

/-- SMB_ACK_HEAD (R373). -/
def execSmbAckHead (urgent : Bool) (s : State) : Host.Outcome State Fault Refusal :=
  onMbx s fun h => h.smb (smbRing urgent) fun h =>
    match (h.ring (smbRing urgent)).resps with
    | [] => h
    | x :: _ => h.respFreeIf (smbRing urgent) fun y => y.seq == x.seq

/-- SMB_RING_STATUS. -/
def execSmbRingStatus (s : State) : Host.Outcome State Fault Refusal :=
  onMbx s fun h => h.smb 2 fun h => h.emit (.mbx 2 (putLe 2 h.smbStatus))

/-- SMB_ASSEMBLY_TIMEOUT (R374). -/
def execSmbAssemblyTimeout (urgent : Bool) (s : State) : Host.Outcome State Fault Refusal :=
  onMbx s fun h =>
    if (h.ring (smbRing urgent)).asmOpen then ((h.asmDrop (smbRing urgent)).mbxEvt 5).bump (cntMbx 6) else h

/-- COMMAND_START (R381). -/
def execCommandStart (reads : List EccRead) (s : State) : Host.Outcome State Fault Refusal := onMbx s fun h => h.commandStart reads

/-- JOB_COMPLETION (R368). -/
def execJobCompletion (s : State) : Host.Outcome State Fault Refusal := onMbx s fun h => if h.umuriRuns then h.jobComplete else h

/-- FORWARD_TIMEOUT (R391). -/
def execForwardTimeout (job : Fin 8) (s : State) : Host.Outcome State Fault Refusal :=
  onMbx s fun h =>
    match h.mbx.jobs[job] with
    | some x => if x.fwd.isSome && x.done.isNone then h.fwdFail job else h
    | none => h

end Sys2Proof.Machine
end

