-- ==== Sys2Proof/Machine/Commands.lean ====
section
/-! DEFINITION. The commands that a master gives by writing a self-clearing bit (R408). -/

namespace Sys2Proof.Machine

/-- SWITCH (R28): a write of UPSEL_CMD. -/
def execSwitch (m : Master) (s : State) : Host.Outcome State Fault Refusal :=
  perform s fun h => h.masterCommand m 0x107C4 0 false fun h => h.upSwitch

/-- LOCKOUT_CLR written (R38, R59). -/
def execLockoutClr (m : Master) (p : PodIx) (s : State) : Host.Outcome State Fault Refusal :=
  perform s fun h => h.masterCommand m (podBase p) 6 false fun h => h.endLockout p

/-- FORCE_DETACH written (R59). -/
def execForceDetach (m : Master) (p : PodIx) (s : State) : Host.Outcome State Fault Refusal :=
  perform s fun h => h.masterCommand m (podBase p) 5 false fun h => h.errorRecovery p

/-- REBASE written (R49, R63). -/
def execRebase (m : Master) (p : PodIx) (s : State) : Host.Outcome State Fault Refusal :=
  perform s fun h => h.masterCommand m (podBase p + 0x10) 28 false fun h => h.rebase p

/-- LATCH_CLR written (R132, R148). -/
def execLatchClr (m : Master) (x : PathIx) (s : State) : Host.Outcome State Fault Refusal :=
  perform s fun h => h.masterCommand m (vbBase x + 0x1C) 0 false fun h => h.vbLatchClr x

/-- RETRY_CLR written (R130, R148). -/
def execRetryClr (m : Master) (x : PathIx) (s : State) : Host.Outcome State Fault Refusal :=
  perform s fun h => h.masterCommand m (vbBase x + 0x1C) 1 false fun h => h.vbRetryClr x

/-- SEND_CAPS written (R109). -/
def execSendCaps (m : Master) (p : PodIx) (s : State) : Host.Outcome State Fault Refusal :=
  perform s fun h => h.masterCommand m (podBase p + 0x22C) 0 false fun h => h.cmdSendCaps p

/-- SOFT_RST written (R109). -/
def execSoftRst (m : Master) (p : PodIx) (s : State) : Host.Outcome State Fault Refusal :=
  perform s fun h => h.masterCommand m (podBase p + 0x22C) 1 false fun h => if h.pdActive p then h.pdSoftReset p else h

/-- HARD_RST written (R109). -/
def execHardRst (m : Master) (p : PodIx) (s : State) : Host.Outcome State Fault Refusal :=
  perform s fun h => h.masterCommand m (podBase p + 0x22C) 2 false fun h => if h.pdActive p then h.pdHardReset p 0x10 2 true else h

/-- VCONN_SWAP written (R109). -/
def execVconnSwap (m : Master) (p : PodIx) (s : State) : Host.Outcome State Fault Refusal :=
  perform s fun h => h.masterCommand m (podBase p + 0x22C) 3 false fun h => h.cmdVconnSwap p

/-- CAS_EXIT written (R109). -/
def execCasExit (m : Master) (p : PodIx) (s : State) : Host.Outcome State Fault Refusal :=
  perform s fun h => h.masterCommand m (podBase p + 0x22C) 4 false fun h => h.pdCasExit p 1

/-- EPR_EXIT written (R109). -/
def execEprExit (m : Master) (p : PodIx) (s : State) : Host.Outcome State Fault Refusal :=
  perform s fun h => h.masterCommand m (podBase p + 0x22C) 5 false fun h => h.cmdEprExit p

/-- CAP_FLUSH written (R99). -/
def execCapFlush (m : Master) (p : PodIx) (rest : Nat) (s : State) : Host.Outcome State Fault Refusal :=
  perform s fun h => h.masterCommand m (podBase p + 0x800) 4 false fun h => h.captureFlush p rest

/-- CANCEL (R241). -/
def execCancel (m : Master) (d : DirIx) (s : State) : Host.Outcome State Fault Refusal :=
  perform s fun h => h.masterCommand m (0x48010 + 0x40 * d.val) 0 false fun h => h.gateCancel d

/-- RELEASE (R303). -/
def execRelease (m : Master) (p : PodIx) (s : State) : Host.Outcome State Fault Refusal :=
  perform s fun h => h.masterCommand m (podBase p + 0xC0C) 0 true fun h => h.fwlRelease p

/-- REAUTH (R303). -/
def execReauth (m : Master) (p : PodIx) (s : State) : Host.Outcome State Fault Refusal :=
  perform s fun h => h.masterCommand m (podBase p + 0xC0C) 1 true fun h => h.fwlReauth p

/-- RESTART (R322, R328). -/
def execRestart (m : Master) (s : State) : Host.Outcome State Fault Refusal :=
  perform s fun h => h.masterCommand m 0x78088 0 true fun h => h.mpRestart 1

/-- PLAN_GO written (R343). -/
def execPlanGo (m : Master) (s : State) : Host.Outcome State Fault Refusal :=
  perform s fun h => h.masterCommand m 0x2000 0 false fun h => h.planGo

/-- FIFO_FLUSH written (R347). -/
def execFifoFlush (m : Master) (rest : Nat) (s : State) : Host.Outcome State Fault Refusal :=
  perform s fun h => h.masterCommand m 0x1020 0 false fun h => h.fifoFlush rest

/-- CLEAR (R369, R396). -/
def execClear (m : Master) (r : RingIx) (s : State) : Host.Outcome State Fault Refusal :=
  perform s fun h => h.masterCommand m (0x7C014 + 8 * r.val) 0 false fun h => h.ringClear r 2

/-- REWIND (R396). -/
def execRewind (m : Master) (r : RingIx) (s : State) : Host.Outcome State Fault Refusal :=
  perform s fun h => h.masterCommand m (0x7C014 + 8 * r.val) 1 false fun h => h.ringRewind r

/-- CAP_DATA_READ (R99). -/
def execCapDataRead (m : Master) (p : PodIx) (s : State) : Host.Outcome State Fault Refusal :=
  perform s fun h =>
    if h.accHeld m (podBase p + 0x808) 2 then h.accHold { m := m, addr := podBase p + 0x808, size := 2, word := none }
    else h.readAcc m (podBase p + 0x808) fun h => (h.capturePop p).1.emit (.read (h.capturePop p).2)

/-- RD_IDX (R317). -/
def execRdIdx (m : Master) (idx : Nat) (r : EccRead) (s : State) : Host.Outcome State Fault Refusal :=
  perform s fun h =>
    if h.accHeld m 0x78048 2 then h.accHold { m := m, addr := 0x78048, size := 2, word := some (BitVec.ofNat 64 (idx % 16384)) }
    else h.cmdBit m 0x78048 false fun h => h.journalLoad idx r

/-- MAP_ENTRY_WRITE (R207). -/
def execMapEntryWrite (m : Master) (bankB : Bool) (idx : Fin 4064) (w : Word) (s : State) : Host.Outcome State Fault Refusal :=
  perform s fun h =>
    let addr := mapOff bankB idx.val
    if h.accHeld m addr 2 then h.accHold { m := m, addr := addr, size := 2, word := some (w.setWidth 64) }
    else h.mapWrite m addr bankB idx.val w

end Sys2Proof.Machine
end

