-- ==== Sys2Proof/Machine/Reset.lean ====
section
/-! DEFINITION. Start-up, reset and the boot of the MP (R294, R322, R460-R465). -/

namespace Sys2Proof.Machine

/-! #### Reset (R463-R465) -/

/-- The store that runs completes before the reset takes hold (R465). -/
def Hub.storesFinish (h : Hub) : Hub :=
  match h.nvm.inStore with
  | [] => h
  | d :: _ => (h.modNvm fun n => { n with inStore := [] }).storeDone d.store

/-- What MRAM keeps (R463): the configuration store, the Seedbank, the retired cells and the firmware banks. -/
def Nvm.mram (n : Nvm) : Nvm :=
  { stored := n.stored, ring := n.ring, head := n.head, ringFull := n.ringFull, wraps := n.wraps, retired := n.retiredMram, retiredMram := n.retiredMram
    active := n.active, bankA := n.bankA, bankB := n.bankB }

/-- What MRAM and the fuses keep of the security unit (R292, R299): the sealed blobs, the chains, the erase marker, DBG_OPENED and
SEC_VER_MIN. The nonce is drawn anew. -/
def Sec.mram (c : Sec) : Sec :=
  { dbgOpened := c.dbgOpened, erasePending := c.erasePending, secVerMin := c.secVerMin, blobs := c.blobs, chains := c.chains
    publics := c.publics.filter fun x => (c.blobs.toList.getD x.1 none).isSome, nonceNo := c.nonceNo + 1 }

/-- What MRAM keeps of the cascade unit (R260, R268), with the straps of the last sample. -/
def Csb.mram (c : Csb) : Csb :=
  { strap := c.strap, role := c.strap, tree := if c.strap = 2 then Config.dieUid else 0
    workers := c.workers.map fun w => { uid := w.uid }, jcolPos := c.jcolPos }

/-- A configuration word that is in place before step 1 of R294 (R424, R461): the root store and the hold-up settings. -/
def loadedEarly (off : Nat) : Bool :=
  off == 0x60000 || (0x60100 ≤ off && off < 0x60200) || (0x5000 ≤ off && off < 0x5010)

/-- The words of the configuration store that start-up loads into active copy and shadow. -/
def Hub.loadStored (h : Hub) : Hub :=
  (h.nvm.stored.filter fun x => loadedEarly x.1).foldl (fun h x => (h.setAct x.1 x.2).setShd x.1 x.2) h

/-- The block at its reset values, with what is not volatile (R424, R463); HUSK_TIME counts on (R233). -/
def Hub.resetCore (h : Hub) : Hub :=
  Hub.loadStored
    { Hub.reset with
      nvm := h.nvm.mram, sec := h.sec.mram, csb := h.csb.mram, seq := { fallback := h.seq.fallback }, held := h.held
      out := h.out, freeCtr := h.freeCtr, clkBase := h.clkBase + h.clk }

/-- The block held in reset (R463): every gate off, VCONN and SBU open, CC floating, the discharge driven until VBUS falls below
0.8 V. -/
def Hub.resetHold (h : Hub) : Hub :=
  let g := h.storesFinish
  { g.resetCore with
    tcs := Vector.replicate 16 { state := .disabled }
    vbs := h.vbs.map fun e => { dsch := !e.low, low := e.low } }

/-- A condition that holds the device in reset appears; a reset already in force goes on. -/
def Hub.holdReset (h : Hub) (f : Held → Held) : Hub :=
  let k := f h.held
  { (if h.held = .none then h.resetHold else h) with held := k }

/-! #### Start-up (R461) -/

/-- Step 1: every domain ON, the pods unattached; without REFCLK the fallback clocks are used from the start (R465). -/
def Hub.startUp (h : Hub) : Hub :=
  let h := h.resetCore
  { (if h.seq.fallback then h.holdoverOn else h).bootStart with held := .none }

/-- A condition that held the device in reset ends: start-up follows once nothing holds it. -/
def Hub.release (h : Hub) (f : Held → Held) : Hub :=
  let was := h.held
  let h := { h with held := f h.held }
  if was ≠ .none ∧ h.held = .none then h.startUp else h

/-- STRAP (R251): CAS_ROLE_1 and CAS_ROLE_0. -/
def strapOf (r1 r0 : Bool) : Nat := if r1 = r0 then 0 else if r1 then 2 else 1

/-- RST_N rises (R251, R461, R465). -/
def Hub.rstRise (h : Hub) (r1 r0 ref : Bool) : Hub :=
  if h.held.rstLow then
    let h := (h.modCsb fun c => { c with strap := strapOf r1 r0 }).modSeq fun q => { q with fallback := !ref }
    h.release fun k => { k with rstLow := false }
  else h

/-- A core, PHY or I/O supply stays low (R464): 0 VDD_CORE, 1 VDD_IO18, 2 VDD_PHY, 4 VDD_IO33, while a domain of the rail is ON and
the rail has not been requested off. -/
def Hub.railMatters (h : Hub) (r : Fin 10) : Bool :=
  (r == 0 || r == 1 || r == 2 || r == 4) && ((List.finRange 24).any fun n => (h.railMask r).testBit n.val && h.domOn n)
    && h.seq.railOn.getLsbD r.val && !h.seq.railsOff.contains r

/-- SUPPLY_UNDERVOLTAGE: the reset, and at once the start-up, since nothing holds it. -/
def Hub.railReset (h : Hub) (r : Fin 10) : Hub := if h.railMatters r then h.resetHold.startUp else h

/-! #### Boot (R294, R322) -/

/-- The record of a boot (R306): 0 the first bank passed, 1 fallback, 2 both failed. -/
def Hub.bootRecord (h : Hub) (how : Nat) : Hub :=
  h.raise srcSec 0x6004 2 ([bankNo h.sec.bootBank, how] ++ le16 h.sec.secVerRun)

/-- A blob does not open (R291, R292): it fails authentication, or it was sealed under another value of DBG_OPENED. -/
def Sec.shut (c : Sec) (bad : List (Fin 32)) (i : Fin 32) : Bool :=
  c.blobs[i].any fun b => bad.contains i || b.opened != c.dbgOpened

/-- The slots after step 4 (R291, R292, R322): a blob fills its slot, one that does not open leaves it empty, key RAM without a blob is
kept. -/
def Sec.unsealed (c : Sec) (bad : List (Fin 32)) : Vector (Option Key) 32 :=
  Vector.ofFn fun i => if c.blobs[i].isSome then (if c.shut bad i then none else c.blobs[i].map Blob.key) else c.keys[i]

/-- Step 4 (R292). -/
def Hub.unseal (h : Hub) (bad : List (Fin 32)) : Hub :=
  if h.domRuns domSec then
    let failed := (List.finRange 32).filter fun i => h.sec.shut bad i
    let h := h.modSec fun c => { c with keys := c.unsealed bad, sealFail := c.sealFail || !failed.isEmpty }
    failed.foldl (fun h i => h.raise srcSec 0x6007 3 [i.val]) h
  else h

/-- A bank has passed steps 2 and 3: steps 4 and 5. -/
def Hub.bootRun (h : Hub) (k : Bank) (fell : Bool) (r : BootResult) : Hub :=
  let h := h.modNvm fun n => n.modBank k fun b => { b with version := r.version, secVer := r.secVer }
  let h := (h.unseal r.badSlots).modSec fun c =>
    { c with bootOk := true, bootBank := k, boot := .start, secVerRun := r.secVer, runVersion := r.version }
  let h := if fell then (h.secEvt 3).bump (cntSec 2) else h
  h.bootRecord (if fell then 1 else 0)

/-- Both banks failed: the MP stays in the boot ROM. -/
def Hub.bootStuck (h : Hub) : Hub :=
  let h := (h.modSec fun c => { c with boot := .done }).modMbx fun m => { m with bootRomOnly := true, restarting := false }
  (h.modNvm fun n => { n with inRestart := false }).bootRecord 2

/-- The crystal runs and the main PLL is locked by the time the first bank is verified (R340, R461). -/
def Hub.pllStart (h : Hub) : Hub :=
  if h.sec.coldBoot && h.sec.boot == .verify && !h.seq.fallback && h.domRuns domBus then
    h.modSeq fun q => { q with pllLock := true, refOk := true, mpOnPll := h.flag 0x3004 0 }
  else h

/-- BOOT_VERIFY_DONE: a bank has been verified, the active one first, then the other one. -/
def Hub.bootVerified (h : Hub) (r : BootResult) : Hub :=
  if h.sec.eraseAtBoot && h.sec.eraseStep != 0 then h
  else
    let h := h.pllStart
    let h := if h.sec.boot == .verify || h.sec.boot == .second then h.mramRead r.mram else h
    let ok := r.ok && !isUe r.mram.read && decide (h.sec.secVerMin ≤ r.secVer)
    match h.sec.boot with
    | .verify => if ok then h.bootRun h.nvm.active false r else h.modSec fun c => { c with boot := .second }
    | .second => if ok then h.bootRun h.nvm.idle true r else h.bootStuck
    | .start | .done => h

/-- STORED_CONFIG_APPLY (R461): the words not yet in place go to their shadows, and every group is committed. -/
def Hub.applyStored (h : Hub) : Hub :=
  let late := h.nvm.stored.filter fun x => !loadedEarly x.1 && hasShadow x.1
  let h := late.foldl
    (fun h x => (h.setShd x.1 x.2).modGlob fun g => { g with pending := g.pending ||| BitVec.twoPow 16 (h.groupOf x.1) }) h
  h.commit (BitVec.allOnes 16)

/-- A worker that activated an image reports it running, after its rejoin where the manager is lost (R269, R272). -/
def Hub.reportRunning (h : Hub) : Hub :=
  if h.csb.load.activating then
    let h := h.modCsb fun c => { c with load := { report := true } }
    if h.csb.mgrLost then h else h.csbReport
  else h

/-- UMURI_IN_SERVICE (R294, R322, R461). -/
def Hub.umuriStart (h : Hub) : Hub :=
  if h.sec.boot = .start then
    let cold := h.sec.coldBoot
    let h := (h.modSec fun c => { c with boot := .done, coldBoot := false }).modMbx fun m =>
      { m with umuriUp := true, restarting := false }
    let h := h.modNvm fun n => { n with inRestart := false }
    (if cold then h.applyStored else h).reportRunning
  else h

/-! #### The commands -/

/-- POWER_ON_RESET (R233, R460): VDD_HUSK is up, HUSK_TIME counts from 0, and RST_N, which the board holds low, keeps the device in
reset. -/
def execPowerOnReset (s : State) : Host.Outcome State Fault Refusal :=
  performAlways s fun h =>
    { (h.holdReset fun k => { k with rstLow := true }) with
      held := { h.held with powerOn := false, rstLow := true }, clk := 0, clkBase := 0 }

/-- RST_N_RISE (R251, R461, R465). -/
def execRstNRise (casRole1 casRole0 refPresent : Bool) (s : State) : Host.Outcome State Fault Refusal :=
  performAlways s fun h => h.rstRise casRole1 casRole0 refPresent

/-- RST_N_FALL (R463, R465). -/
def execRstNFall (s : State) : Host.Outcome State Fault Refusal :=
  performAlways s fun h => h.holdReset fun k => { k with rstLow := true }

/-- SUPPLY_UNDERVOLTAGE (R464). -/
def execSupplyUndervoltage (rail : Fin 10) (s : State) : Host.Outcome State Fault Refusal :=
  perform s fun h => h.railReset rail

/-- DIE_OVERTEMPERATURE (R464). -/
def execDieOvertemperature (s : State) : Host.Outcome State Fault Refusal :=
  performAlways s fun h => h.holdReset fun k => { k with overTemp := true }

/-- BOOT_VERIFY_DONE (R294, R322). -/
def execBootVerifyDone (r : BootResult) (s : State) : Host.Outcome State Fault Refusal :=
  perform s fun h => h.inDom domMp fun h => h.bootVerified r

/-- UMURI_IN_SERVICE (R322, R461). -/
def execUmuriInService (s : State) : Host.Outcome State Fault Refusal :=
  perform s fun h => h.inDom domMp fun h => h.umuriStart

/-- VDD_HUSK_LOSS (R464). -/
def execVddHuskLoss (s : State) : Host.Outcome State Fault Refusal :=
  performAlways s fun h => h.holdReset fun k => { k with powerOn := true }

/-- OVERTEMPERATURE_RELEASE (R464). -/
def execOvertemperatureRelease (s : State) : Host.Outcome State Fault Refusal :=
  performAlways s fun h => if h.held.overTemp then h.release fun k => { k with overTemp := false } else h

end Sys2Proof.Machine
end

