-- ==== Sys2Proof/Machine/Dispatch.lean ====
section
/-! DEFINITION. The dispatch: one arm per command of the table, each one direct call of its meaning. -/

namespace Sys2Proof.Machine

def exec (i : Instr) (s : State) : Host.Outcome State Fault Refusal :=
  match i with
  | .powerOnReset => Sys2Proof.Machine.execPowerOnReset s
  | .rstNRise casRole1 casRole0 refPresent => Sys2Proof.Machine.execRstNRise casRole1 casRole0 refPresent s
  | .rstNFall => Sys2Proof.Machine.execRstNFall s
  | .supplyUndervoltage rail => Sys2Proof.Machine.execSupplyUndervoltage rail s
  | .dieOvertemperature => Sys2Proof.Machine.execDieOvertemperature s
  | .bootVerifyDone r => Sys2Proof.Machine.execBootVerifyDone r s
  | .umuriInService => Sys2Proof.Machine.execUmuriInService s
  | .tcTerminationSeen p cc1 cc2 => Sys2Proof.Machine.execTcTerminationSeen p cc1 cc2 s
  | .chatterQuietExpiry p => Sys2Proof.Machine.execChatterQuietExpiry p s
  | .drpToggle p => Sys2Proof.Machine.execDrpToggle p s
  | .tCcDebounceExpiry p vbusMv => Sys2Proof.Machine.execTCcDebounceExpiry p vbusMv s
  | .moistureCheckDone p r0 r1 r2 r3 vbusMv => Sys2Proof.Machine.execMoistureCheckDone p r0 r1 r2 r3 vbusMv s
  | .tPdDebounceExpiry p vbusMv => Sys2Proof.Machine.execTPdDebounceExpiry p vbusMv s
  | .tDrpTryExpiry p => Sys2Proof.Machine.execTDrpTryExpiry p s
  | .tDrpTryWaitExpiry p => Sys2Proof.Machine.execTDrpTryWaitExpiry p s
  | .partnerVbusPresent p => Sys2Proof.Machine.execPartnerVbusPresent p s
  | .sinkVbusDisconnect v => Sys2Proof.Machine.execSinkVbusDisconnect v s
  | .vbusBelow0v8 x => Sys2Proof.Machine.execVbusBelow0v8 x s
  | .vbusPresentTimeout p => Sys2Proof.Machine.execVbusPresentTimeout p s
  | .tErrorRecoveryExpiry p => Sys2Proof.Machine.execTErrorRecoveryExpiry p s
  | .wetRecheck p => Sys2Proof.Machine.execWetRecheck p s
  | .liveSbuCheck p r2 r3 => Sys2Proof.Machine.execLiveSbuCheck p r2 r3 s
  | .liveSbuConfirm p r lockout => Sys2Proof.Machine.execLiveSbuConfirm p r lockout s
  | .lockoutExpiry p => Sys2Proof.Machine.execLockoutExpiry p s
  | .lockoutClr m p => Sys2Proof.Machine.execLockoutClr m p s
  | .forceDetach m p => Sys2Proof.Machine.execForceDetach m p s
  | .rebase m p => Sys2Proof.Machine.execRebase m p s
  | .vconnOcTrip p => Sys2Proof.Machine.execVconnOcTrip p s
  | .huskAttachSense p cc1 cc2 => Sys2Proof.Machine.execHuskAttachSense p cc1 cc2 s
  | .linkUp p speed => Sys2Proof.Machine.execLinkUp p speed s
  | .dataLinkLoss p => Sys2Proof.Machine.execDataLinkLoss p s
  | .bounceHoldRecover p speed => Sys2Proof.Machine.execBounceHoldRecover p speed s
  | .bounceHoldExpiry p => Sys2Proof.Machine.execBounceHoldExpiry p s
  | .drSwapResponseTimeout p => Sys2Proof.Machine.execDrSwapResponseTimeout p s
  | .drSwapWaitRetry p => Sys2Proof.Machine.execDrSwapWaitRetry p s
  | .upstreamFsRelease u => Sys2Proof.Machine.execUpstreamFsRelease u s
  | .upstreamLinkLoss u => Sys2Proof.Machine.execUpstreamLinkLoss u s
  | .upstreamRecovered u speed => Sys2Proof.Machine.execUpstreamRecovered u speed s
  | .tFailExpiry => Sys2Proof.Machine.execTFailExpiry s
  | .switch m => Sys2Proof.Machine.execSwitch m s
  | .reconnectConnect => Sys2Proof.Machine.execReconnectConnect s
  | .portPowerRequest port on => Sys2Proof.Machine.execPortPowerRequest port on s
  | .portResetRequest p r => Sys2Proof.Machine.execPortResetRequest p r s
  | .getPortStatus port => Sys2Proof.Machine.execGetPortStatus port s
  | .pdRequestReceived p f r => Sys2Proof.Machine.execPdRequestReceived p f r s
  | .srcTransitionExpiry p => Sys2Proof.Machine.execSrcTransitionExpiry p s
  | .regulatorConfirmTimeout p => Sys2Proof.Machine.execRegulatorConfirmTimeout p s
  | .reofferTimer p => Sys2Proof.Machine.execReofferTimer p s
  | .sinkTxExpiry p => Sys2Proof.Machine.execSinkTxExpiry p s
  | .ppsTimeout p => Sys2Proof.Machine.execPpsTimeout p s
  | .eprModeReceived p f a => Sys2Proof.Machine.execEprModeReceived p f a s
  | .eprKeepaliveReceived p f => Sys2Proof.Machine.execEprKeepaliveReceived p f s
  | .eprKeepaliveTimeout p => Sys2Proof.Machine.execEprKeepaliveTimeout p s
  | .sourceCapabilitiesReceived p f objs => Sys2Proof.Machine.execSourceCapabilitiesReceived p f objs s
  | .cableDiscoveryStart p => Sys2Proof.Machine.execCableDiscoveryStart p s
  | .cableIdentityResponse p f a => Sys2Proof.Machine.execCableIdentityResponse p f a s
  | .cableDiscoveryTimeout p => Sys2Proof.Machine.execCableDiscoveryTimeout p s
  | .cableDiscoveryRetry p => Sys2Proof.Machine.execCableDiscoveryRetry p s
  | .vconnSwapReceived p f => Sys2Proof.Machine.execVconnSwapReceived p f s
  | .vconnSwapTimeout p => Sys2Proof.Machine.execVconnSwapTimeout p s
  | .vconnSwapSend p => Sys2Proof.Machine.execVconnSwapSend p s
  | .vconnSwapWaitRetry p => Sys2Proof.Machine.execVconnSwapWaitRetry p s
  | .vconnCollisionRetry p => Sys2Proof.Machine.execVconnCollisionRetry p s
  | .hardResetReceived p => Sys2Proof.Machine.execHardResetReceived p s
  | .psHardResetExpiry p => Sys2Proof.Machine.execPsHardResetExpiry p s
  | .srcRecoverExpiry p => Sys2Proof.Machine.execSrcRecoverExpiry p s
  | .sinkVbusReturnTimeout p => Sys2Proof.Machine.execSinkVbusReturnTimeout p s
  | .softResetReceived p f => Sys2Proof.Machine.execSoftResetReceived p f s
  | .softResetAcceptTimeout p => Sys2Proof.Machine.execSoftResetAcceptTimeout p s
  | .sendSourceCapTimer p => Sys2Proof.Machine.execSendSourceCapTimer p s
  | .noRequestTimeout p => Sys2Proof.Machine.execNoRequestTimeout p s
  | .transmitFailure p header => Sys2Proof.Machine.execTransmitFailure p header s
  | .violQuietExpiry p => Sys2Proof.Machine.execViolQuietExpiry p s
  | .pdCrcError p f => Sys2Proof.Machine.execPdCrcError p f s
  | .malformedMessage p f => Sys2Proof.Machine.execMalformedMessage p f s
  | .unexpectedMessage p f => Sys2Proof.Machine.execUnexpectedMessage p f s
  | .unsupportedMessageReceived p f => Sys2Proof.Machine.execUnsupportedMessageReceived p f s
  | .acceptReceived p f => Sys2Proof.Machine.execAcceptReceived p f s
  | .rejectReceived p f => Sys2Proof.Machine.execRejectReceived p f s
  | .waitReceived p f => Sys2Proof.Machine.execWaitReceived p f s
  | .pingReceived p f => Sys2Proof.Machine.execPingReceived p f s
  | .psRdyReceived p f => Sys2Proof.Machine.execPsRdyReceived p f s
  | .getSourceCapReceived p f => Sys2Proof.Machine.execGetSourceCapReceived p f s
  | .getSinkCapReceived p f => Sys2Proof.Machine.execGetSinkCapReceived p f s
  | .drSwapReceived p f => Sys2Proof.Machine.execDrSwapReceived p f s
  | .prSwapReceived p f => Sys2Proof.Machine.execPrSwapReceived p f s
  | .notSupportedReceived p f => Sys2Proof.Machine.execNotSupportedReceived p f s
  | .getSourceCapExtendedReceived p f => Sys2Proof.Machine.execGetSourceCapExtendedReceived p f s
  | .getStatusReceived p f => Sys2Proof.Machine.execGetStatusReceived p f s
  | .getPpsStatusReceived p f => Sys2Proof.Machine.execGetPpsStatusReceived p f s
  | .getSinkCapExtendedReceived p f => Sys2Proof.Machine.execGetSinkCapExtendedReceived p f s
  | .getSourceInfoReceived p f => Sys2Proof.Machine.execGetSourceInfoReceived p f s
  | .getRevisionReceived p f => Sys2Proof.Machine.execGetRevisionReceived p f s
  | .getManufacturerInfoReceived p f => Sys2Proof.Machine.execGetManufacturerInfoReceived p f s
  | .bistReceived p f mode => Sys2Proof.Machine.execBistReceived p f mode s
  | .sinkCapabilitiesReceived p f => Sys2Proof.Machine.execSinkCapabilitiesReceived p f s
  | .alertReceived p f => Sys2Proof.Machine.execAlertReceived p f s
  | .replyMessageReceived p r => Sys2Proof.Machine.execReplyMessageReceived p r s
  | .eprGetSourceCapReceived p f => Sys2Proof.Machine.execEprGetSourceCapReceived p f s
  | .securityRequestReceived p f q => Sys2Proof.Machine.execSecurityRequestReceived p f q s
  | .securityResponseReceived p f a => Sys2Proof.Machine.execSecurityResponseReceived p f a s
  | .cableResetReceived p => Sys2Proof.Machine.execCableResetReceived p s
  | .vdmDiscoverIdentityReceived p f => Sys2Proof.Machine.execVdmDiscoverIdentityReceived p f s
  | .vdmDiscoverSvidsReceived p f => Sys2Proof.Machine.execVdmDiscoverSvidsReceived p f s
  | .vdmDiscoverModesReceived p f svid => Sys2Proof.Machine.execVdmDiscoverModesReceived p f svid s
  | .vdmEnterModeReceived p f svid mode => Sys2Proof.Machine.execVdmEnterModeReceived p f svid mode s
  | .enterModeAckGoodcrc p => Sys2Proof.Machine.execEnterModeAckGoodcrc p s
  | .vdmExitModeReceived p f => Sys2Proof.Machine.execVdmExitModeReceived p f s
  | .vdmAttentionReceived p f => Sys2Proof.Machine.execVdmAttentionReceived p f s
  | .vdmSvidCommandReceived p f => Sys2Proof.Machine.execVdmSvidCommandReceived p f s
  | .vdmResponseReceived p f a => Sys2Proof.Machine.execVdmResponseReceived p f a s
  | .vdmBusyRetry p => Sys2Proof.Machine.execVdmBusyRetry p s
  | .vdmResponseTimeout p => Sys2Proof.Machine.execVdmResponseTimeout p s
  | .sendCaps m p => Sys2Proof.Machine.execSendCaps m p s
  | .softRst m p => Sys2Proof.Machine.execSoftRst m p s
  | .hardRst m p => Sys2Proof.Machine.execHardRst m p s
  | .vconnSwap m p => Sys2Proof.Machine.execVconnSwap m p s
  | .casExit m p => Sys2Proof.Machine.execCasExit m p s
  | .eprExit m p => Sys2Proof.Machine.execEprExit m p s
  | .capDataRead m p => Sys2Proof.Machine.execCapDataRead m p s
  | .capFlush m p rest => Sys2Proof.Machine.execCapFlush m p rest s
  | .t0vExpiry x => Sys2Proof.Machine.execT0vExpiry x s
  | .windowQualified x => Sys2Proof.Machine.execWindowQualified x s
  | .tWinExpiry x => Sys2Proof.Machine.execTWinExpiry x s
  | .tInsExpiry x => Sys2Proof.Machine.execTInsExpiry x s
  | .prechargeReached x => Sys2Proof.Machine.execPrechargeReached x s
  | .tPreExpiry x => Sys2Proof.Machine.execTPreExpiry x s
  | .rampComplete x => Sys2Proof.Machine.execRampComplete x s
  | .tRampExpiry x => Sys2Proof.Machine.execTRampExpiry x s
  | .fastTrip x => Sys2Proof.Machine.execFastTrip x s
  | .overcurrentTrip x => Sys2Proof.Machine.execOvercurrentTrip x s
  | .thermalModelUpdate x uv vbus vsrc b => Sys2Proof.Machine.execThermalModelUpdate x uv vbus vsrc b s
  | .ovTrip x => Sys2Proof.Machine.execOvTrip x s
  | .uvTrip x => Sys2Proof.Machine.execUvTrip x s
  | .reverseTrip x => Sys2Proof.Machine.execReverseTrip x s
  | .gatesOffConfirmed x => Sys2Proof.Machine.execGatesOffConfirmed x s
  | .backoffExpiry x => Sys2Proof.Machine.execBackoffExpiry x s
  | .coolDownEnd x => Sys2Proof.Machine.execCoolDownEnd x s
  | .tStableExpiry x => Sys2Proof.Machine.execTStableExpiry x s
  | .latchClr m x => Sys2Proof.Machine.execLatchClr m x s
  | .retryClr m x => Sys2Proof.Machine.execRetryClr m x s
  | .dischargeTimeout x => Sys2Proof.Machine.execDischargeTimeout x s
  | .voltageTransitionEnd x => Sys2Proof.Machine.execVoltageTransitionEnd x s
  | .outletPresenceChange o pin => Sys2Proof.Machine.execOutletPresenceChange o pin s
  | .budgetRecompute => Sys2Proof.Machine.execBudgetRecompute s
  | .rpChargeLower p => Sys2Proof.Machine.execRpChargeLower p s
  | .vinWarningAssert vin => Sys2Proof.Machine.execVinWarningAssert vin s
  | .vinFailAssert vin => Sys2Proof.Machine.execVinFailAssert vin s
  | .failShed => Sys2Proof.Machine.execFailShed s
  | .ewShed => Sys2Proof.Machine.execEwShed s
  | .boResolve => Sys2Proof.Machine.execBoResolve s
  | .vinWarningClear vin => Sys2Proof.Machine.execVinWarningClear vin s
  | .restoreClass c => Sys2Proof.Machine.execRestoreClass c s
  | .rlinkRequestStart acks mode rev => Sys2Proof.Machine.execRlinkRequestStart acks mode rev s
  | .rlinkStatusPoll slot r pg => Sys2Proof.Machine.execRlinkStatusPoll slot r pg s
  | .rlinkRequestDone slot pg => Sys2Proof.Machine.execRlinkRequestDone slot pg s
  | .rlinkRequestTimeout slot pg => Sys2Proof.Machine.execRlinkRequestTimeout slot pg s
  | .rlinkAlert addr r => Sys2Proof.Machine.execRlinkAlert addr r s
  | .rlinkMonitorRead r pg => Sys2Proof.Machine.execRlinkMonitorRead r pg s
  | .hostInRequest p addr ep numP => Sys2Proof.Machine.execHostInRequest p addr ep numP s
  | .deviceDataPacket p addr ep bytes last how tt => Sys2Proof.Machine.execDeviceDataPacket p addr ep bytes last how tt s
  | .deviceTransactionPacket p addr ep dirIn k => Sys2Proof.Machine.execDeviceTransactionPacket p addr ep dirIn k s
  | .reservationIdleTimeout p addr ep => Sys2Proof.Machine.execReservationIdleTimeout p addr ep s
  | .hostOutData p addr ep bytes how => Sys2Proof.Machine.execHostOutData p addr ep bytes how s
  | .creditHoldExpiry => Sys2Proof.Machine.execCreditHoldExpiry s
  | .hostHeaderPacket p addr ep dirIn => Sys2Proof.Machine.execHostHeaderPacket p addr ep dirIn s
  | .itpReceived delayed sinceNs => Sys2Proof.Machine.execItpReceived delayed sinceNs s
  | .startOpportunity payload desc => Sys2Proof.Machine.execStartOpportunity payload desc s
  | .packetTxComplete p payload desc => Sys2Proof.Machine.execPacketTxComplete p payload desc s
  | .ttStartSplit p addr ep dirIn periodic d => Sys2Proof.Machine.execTtStartSplit p addr ep dirIn periodic d s
  | .ttCompleteSplit p addr ep dirIn payload => Sys2Proof.Machine.execTtCompleteSplit p addr ep dirIn payload s
  | .clearTtBuffer p addr ep dirIn => Sys2Proof.Machine.execClearTtBuffer p addr ep dirIn s
  | .resetTt p => Sys2Proof.Machine.execResetTt p s
  | .getTtState p => Sys2Proof.Machine.execGetTtState p s
  | .stopTt p => Sys2Proof.Machine.execStopTt p s
  | .linkIdleTimeout p t => Sys2Proof.Machine.execLinkIdleTimeout p t s
  | .lgoReceived p toU2 enabled => Sys2Proof.Machine.execLgoReceived p toU2 enabled s
  | .portLinkStateU3 p => Sys2Proof.Machine.execPortLinkStateU3 p s
  | .upstreamU3Entry => Sys2Proof.Machine.execUpstreamU3Entry s
  | .upstreamU3Exit => Sys2Proof.Machine.execUpstreamU3Exit s
  | .usb2IdleSuspend => Sys2Proof.Machine.execUsb2IdleSuspend s
  | .portSuspend p => Sys2Proof.Machine.execPortSuspend p s
  | .deviceRemoteWake p k permitted => Sys2Proof.Machine.execDeviceRemoteWake p k permitted s
  | .snoopTransferComplete p addr direct highSpeed snooped x => Sys2Proof.Machine.execSnoopTransferComplete p addr direct highSpeed snooped x s
  | .babble p v addr => Sys2Proof.Machine.execBabble p v addr s
  | .mapEntryWrite m bankB idx w => Sys2Proof.Machine.execMapEntryWrite m bankB idx w s
  | .paceRelease n => Sys2Proof.Machine.execPaceRelease n s
  | .paceDeferExpiry n addr ep => Sys2Proof.Machine.execPaceDeferExpiry n addr ep s
  | .pacePassExpiry addr ep => Sys2Proof.Machine.execPacePassExpiry addr ep s
  | .tbHoldoverTimeout => Sys2Proof.Machine.execTbHoldoverTimeout s
  | .gateSwitch d => Sys2Proof.Machine.execGateSwitch d s
  | .gateEntryAdvance d => Sys2Proof.Machine.execGateEntryAdvance d s
  | .cancel m d => Sys2Proof.Machine.execCancel m d s
  | .autoWaitExpiry => Sys2Proof.Machine.execAutoWaitExpiry s
  | .csbBadFrame p => Sys2Proof.Machine.execCsbBadFrame p s
  | .csbNull p hd => Sys2Proof.Machine.execCsbNull p hd s
  | .csbPoll p hd => Sys2Proof.Machine.execCsbPoll p hd s
  | .csbHello p hd x => Sys2Proof.Machine.execCsbHello p hd x s
  | .csbAssign p hd a => Sys2Proof.Machine.execCsbAssign p hd a s
  | .csbLink p hd k => Sys2Proof.Machine.execCsbLink p hd k s
  | .csbSync p hd t1 => Sys2Proof.Machine.execCsbSync p hd t1 s
  | .csbDelayReq p hd => Sys2Proof.Machine.execCsbDelayReq p hd s
  | .csbDelayResp p hd t4 => Sys2Proof.Machine.execCsbDelayResp p hd t4 s
  | .csbGrant p hd w => Sys2Proof.Machine.execCsbGrant p hd w s
  | .csbDemand p hd d => Sys2Proof.Machine.execCsbDemand p hd d s
  | .csbGrantAck p hd charges => Sys2Proof.Machine.execCsbGrantAck p hd charges s
  | .csbMbx p hd bytes => Sys2Proof.Machine.execCsbMbx p hd bytes s
  | .csbJournal p hd first recs => Sys2Proof.Machine.execCsbJournal p hd first recs s
  | .csbJournalAck p hd last => Sys2Proof.Machine.execCsbJournalAck p hd last s
  | .csbFwOffer p hd o => Sys2Proof.Machine.execCsbFwOffer p hd o s
  | .csbFwBlock p hd tag block data => Sys2Proof.Machine.execCsbFwBlock p hd tag block data s
  | .csbFwStatus p hd k => Sys2Proof.Machine.execCsbFwStatus p hd k s
  | .csbFwActivate p hd => Sys2Proof.Machine.execCsbFwActivate p hd s
  | .csbRepeatTimeout p => Sys2Proof.Machine.execCsbRepeatTimeout p s
  | .csbTurnGrant p => Sys2Proof.Machine.execCsbTurnGrant p s
  | .csbTurnLapse p => Sys2Proof.Machine.execCsbTurnLapse p s
  | .helloRetry => Sys2Proof.Machine.execHelloRetry s
  | .syncInterval p => Sys2Proof.Machine.execSyncInterval p s
  | .demandInterval => Sys2Proof.Machine.execDemandInterval s
  | .grantRefresh => Sys2Proof.Machine.execGrantRefresh s
  | .grantAckTimeout w => Sys2Proof.Machine.execGrantAckTimeout w s
  | .journalForward => Sys2Proof.Machine.execJournalForward s
  | .journalRepeat => Sys2Proof.Machine.execJournalRepeat s
  | .fwActivateTimeout w => Sys2Proof.Machine.execFwActivateTimeout w s
  | .linkSilence p => Sys2Proof.Machine.execLinkSilence p s
  | .managerLoss => Sys2Proof.Machine.execManagerLoss s
  | .grantHoldExpiry => Sys2Proof.Machine.execGrantHoldExpiry s
  | .workerSilence w => Sys2Proof.Machine.execWorkerSilence w s
  | .workerHoldExpiry w => Sys2Proof.Machine.execWorkerHoldExpiry w s
  | .signatureDone r => Sys2Proof.Machine.execSignatureDone r s
  | .authTimeout p => Sys2Proof.Machine.execAuthTimeout p s
  | .release m p => Sys2Proof.Machine.execRelease m p s
  | .reauth m p => Sys2Proof.Machine.execReauth m p s
  | .utcBaseHiWrite m v => Sys2Proof.Machine.execUtcBaseHiWrite m v s
  | .mfAuthRequest q => Sys2Proof.Machine.execMfAuthRequest q s
  | .dbgReq scope token => Sys2Proof.Machine.execDbgReq scope token s
  | .extest => Sys2Proof.Machine.execExtest s
  | .shellScrub word r => Sys2Proof.Machine.execShellScrub word r s
  | .mpScrub r => Sys2Proof.Machine.execMpScrub r s
  | .parityScan hits => Sys2Proof.Machine.execParityScan hits s
  | .journalRecord => Sys2Proof.Machine.execJournalRecord s
  | .mramStoreComplete => Sys2Proof.Machine.execMramStoreComplete s
  | .holdupMeasurement pinMv => Sys2Proof.Machine.execHoldupMeasurement pinMv s
  | .rdIdx m idx r => Sys2Proof.Machine.execRdIdx m idx r s
  | .mpWatchdogExpiry => Sys2Proof.Machine.execMpWatchdogExpiry s
  | .mpException => Sys2Proof.Machine.execMpException s
  | .mpEccError x => Sys2Proof.Machine.execMpEccError x s
  | .restart m => Sys2Proof.Machine.execRestart m s
  | .tgt m n tgt hold => Sys2Proof.Machine.execTgt m n tgt hold s
  | .planGo m => Sys2Proof.Machine.execPlanGo m s
  | .domainDrained n => Sys2Proof.Machine.execDomainDrained n s
  | .tDrainExpiry n => Sys2Proof.Machine.execTDrainExpiry n s
  | .domainCommitPoint n => Sys2Proof.Machine.execDomainCommitPoint n s
  | .domainEntryComplete n => Sys2Proof.Machine.execDomainEntryComplete n s
  | .wake src => Sys2Proof.Machine.execWake src s
  | .domainExitComplete n lrcCycles => Sys2Proof.Machine.execDomainExitComplete n lrcCycles s
  | .exitRailRetry n => Sys2Proof.Machine.execExitRailRetry n s
  | .smbusWakeMatch => Sys2Proof.Machine.execSmbusWakeMatch s
  | .tStretchExpiry => Sys2Proof.Machine.execTStretchExpiry s
  | .huskTimer => Sys2Proof.Machine.execHuskTimer s
  | .huskFifoDataRead m => Sys2Proof.Machine.execHuskFifoDataRead m s
  | .fifoFlush m rest => Sys2Proof.Machine.execFifoFlush m rest s
  | .mpClk m pll => Sys2Proof.Machine.execMpClk m pll s
  | .clockMeasurement frcKhz lrcHz => Sys2Proof.Machine.execClockMeasurement frcKhz lrcHz s
  | .refclkLost => Sys2Proof.Machine.execRefclkLost s
  | .refclkBack => Sys2Proof.Machine.execRefclkBack s
  | .mfCommand urgent bytes => Sys2Proof.Machine.execMfCommand urgent bytes s
  | .mfResponseIn urgent => Sys2Proof.Machine.execMfResponseIn urgent s
  | .mfEp0Rewind wIndex => Sys2Proof.Machine.execMfEp0Rewind wIndex s
  | .mfEp0Clear wIndex => Sys2Proof.Machine.execMfEp0Clear wIndex s
  | .mfEp0RingStat wIndex => Sys2Proof.Machine.execMfEp0RingStat wIndex s
  | .smbBlockWrite urgent bytes pecOk => Sys2Proof.Machine.execSmbBlockWrite urgent bytes pecOk s
  | .smbDiscardAssembly => Sys2Proof.Machine.execSmbDiscardAssembly s
  | .smbBlockRead urgent words => Sys2Proof.Machine.execSmbBlockRead urgent words s
  | .smbCursorReset => Sys2Proof.Machine.execSmbCursorReset s
  | .smbAckTag urgent tag => Sys2Proof.Machine.execSmbAckTag urgent tag s
  | .smbAckHead urgent => Sys2Proof.Machine.execSmbAckHead urgent s
  | .smbRingStatus => Sys2Proof.Machine.execSmbRingStatus s
  | .smbAssemblyTimeout urgent => Sys2Proof.Machine.execSmbAssemblyTimeout urgent s
  | .commandStart reads => Sys2Proof.Machine.execCommandStart reads s
  | .jobCompletion => Sys2Proof.Machine.execJobCompletion s
  | .forwardTimeout job => Sys2Proof.Machine.execForwardTimeout job s
  | .clear m r => Sys2Proof.Machine.execClear m r s
  | .rewind m r => Sys2Proof.Machine.execRewind m r s
  | .infoGetVersion r tag arg => Sys2Proof.Machine.execInfoGetVersion r tag arg s
  | .infoGetCaps r tag arg => Sys2Proof.Machine.execInfoGetCaps r tag arg s
  | .infoRespAck r tag arg => Sys2Proof.Machine.execInfoRespAck r tag arg s
  | .infoRingStat r tag arg => Sys2Proof.Machine.execInfoRingStat r tag arg s
  | .infoEcho r tag arg => Sys2Proof.Machine.execInfoEcho r tag arg s
  | .infoJobStat r tag arg => Sys2Proof.Machine.execInfoJobStat r tag arg s
  | .regRead r tag arg => Sys2Proof.Machine.execRegRead r tag arg s
  | .regWrite r tag arg => Sys2Proof.Machine.execRegWrite r tag arg s
  | .regWriteMasked r tag arg => Sys2Proof.Machine.execRegWriteMasked r tag arg s
  | .regReadMulti r tag arg => Sys2Proof.Machine.execRegReadMulti r tag arg s
  | .mbxCommit r tag arg => Sys2Proof.Machine.execMbxCommit r tag arg s
  | .mbxCommitStat r tag arg => Sys2Proof.Machine.execMbxCommitStat r tag arg s
  | .snapshotTake r tag arg => Sys2Proof.Machine.execSnapshotTake r tag arg s
  | .snapshotRead r tag arg => Sys2Proof.Machine.execSnapshotRead r tag arg s
  | .portStatus r tag arg => Sys2Proof.Machine.execPortStatus r tag arg s
  | .portOutletStatus r tag arg => Sys2Proof.Machine.execPortOutletStatus r tag arg s
  | .portEnable r tag arg => Sys2Proof.Machine.execPortEnable r tag arg s
  | .portDetach r tag arg => Sys2Proof.Machine.execPortDetach r tag arg s
  | .portLockoutClear r tag arg => Sys2Proof.Machine.execPortLockoutClear r tag arg s
  | .portLatchClear r tag arg => Sys2Proof.Machine.execPortLatchClear r tag arg s
  | .portRetryClear r tag arg => Sys2Proof.Machine.execPortRetryClear r tag arg s
  | .portRebase r tag arg => Sys2Proof.Machine.execPortRebase r tag arg s
  | .portOutletSet r tag arg => Sys2Proof.Machine.execPortOutletSet r tag arg s
  | .portUpstreamSwitch r tag arg => Sys2Proof.Machine.execPortUpstreamSwitch r tag arg s
  | .pdAction r tag arg => Sys2Proof.Machine.execPdAction r tag arg s
  | .pdCaptureCtrl r tag arg => Sys2Proof.Machine.execPdCaptureCtrl r tag arg s
  | .pdCaptureRead r tag arg => Sys2Proof.Machine.execPdCaptureRead r tag arg s
  | .budgetStatus r tag arg => Sys2Proof.Machine.execBudgetStatus r tag arg s
  | .budgetSet r tag arg => Sys2Proof.Machine.execBudgetSet r tag arg s
  | .budgetSetClass r tag arg => Sys2Proof.Machine.execBudgetSetClass r tag arg s
  | .schedQueueStat r tag arg => Sys2Proof.Machine.execSchedQueueStat r tag arg s
  | .schedShape r tag arg => Sys2Proof.Machine.execSchedShape r tag arg s
  | .schedPolice r tag arg => Sys2Proof.Machine.execSchedPolice r tag arg s
  | .schedPolicerStat r tag arg => Sys2Proof.Machine.execSchedPolicerStat r tag arg s
  | .schedMapWrite r tag arg => Sys2Proof.Machine.execSchedMapWrite r tag arg s
  | .schedMapRead r tag arg => Sys2Proof.Machine.execSchedMapRead r tag arg s
  | .schedMapFlip r tag arg => Sys2Proof.Machine.execSchedMapFlip r tag arg s
  | .gateLoad r tag arg => Sys2Proof.Machine.execGateLoad r tag arg s
  | .gateApply r tag arg => Sys2Proof.Machine.execGateApply r tag arg s
  | .gateCancel r tag arg => Sys2Proof.Machine.execGateCancel r tag arg s
  | .gateStatus r tag arg => Sys2Proof.Machine.execGateStatus r tag arg s
  | .secAttest r tag arg => Sys2Proof.Machine.execSecAttest r tag arg s
  | .secPolicyLoad r tag arg => Sys2Proof.Machine.execSecPolicyLoad r tag arg s
  | .secPolicyApply r tag arg => Sys2Proof.Machine.execSecPolicyApply r tag arg s
  | .secFwlRelease r tag arg => Sys2Proof.Machine.execSecFwlRelease r tag arg s
  | .secReauth r tag arg => Sys2Proof.Machine.execSecReauth r tag arg s
  | .secRootSet r tag arg => Sys2Proof.Machine.execSecRootSet r tag arg s
  | .secKeyGenerate r tag arg => Sys2Proof.Machine.execSecKeyGenerate r tag arg s
  | .secKeyImport r tag arg => Sys2Proof.Machine.execSecKeyImport r tag arg s
  | .secKeyErase r tag arg => Sys2Proof.Machine.execSecKeyErase r tag arg s
  | .secCertStore r tag arg => Sys2Proof.Machine.execSecCertStore r tag arg s
  | .secVerRaise r tag arg => Sys2Proof.Machine.execSecVerRaise r tag arg s
  | .secDebugOpen r tag arg => Sys2Proof.Machine.execSecDebugOpen r tag arg s
  | .secUtcSet r tag arg => Sys2Proof.Machine.execSecUtcSet r tag arg s
  | .domRequest r tag arg => Sys2Proof.Machine.execDomRequest r tag arg s
  | .domPlanGo r tag arg => Sys2Proof.Machine.execDomPlanGo r tag arg s
  | .domStatus r tag arg => Sys2Proof.Machine.execDomStatus r tag arg s
  | .journalInfo r tag arg => Sys2Proof.Machine.execJournalInfo r tag arg s
  | .journalRead r tag arg reads => Sys2Proof.Machine.execJournalRead r tag arg reads s
  | .journalSetMinSev r tag arg => Sys2Proof.Machine.execJournalSetMinSev r tag arg s
  | .fwStatus r tag arg => Sys2Proof.Machine.execFwStatus r tag arg s
  | .fwBegin r tag arg => Sys2Proof.Machine.execFwBegin r tag arg s
  | .fwWrite r tag arg => Sys2Proof.Machine.execFwWrite r tag arg s
  | .fwVerify r tag arg => Sys2Proof.Machine.execFwVerify r tag arg s
  | .fwActivate r tag arg => Sys2Proof.Machine.execFwActivate r tag arg s
  | .fwRestart r tag arg => Sys2Proof.Machine.execFwRestart r tag arg s
  | .cascadeStatus r tag arg => Sys2Proof.Machine.execCascadeStatus r tag arg s
  | .cascadeWorkerStat r tag arg => Sys2Proof.Machine.execCascadeWorkerStat r tag arg s
  | .cascadeForward r tag arg => Sys2Proof.Machine.execCascadeForward r tag arg s
  | .cascadeSetLimits r tag arg => Sys2Proof.Machine.execCascadeSetLimits r tag arg s
  | .cascadeFwDistribute r tag arg => Sys2Proof.Machine.execCascadeFwDistribute r tag arg s
  | .cascadeForget r tag arg => Sys2Proof.Machine.execCascadeForget r tag arg s
  | .commit m mask => Sys2Proof.Machine.execCommit m mask s
  | .snapshot m => Sys2Proof.Machine.execSnapshot m s
  | .rcRead m addr q => Sys2Proof.Machine.execRcRead m addr q s
  | .measRead m addr size => Sys2Proof.Machine.execMeasRead m addr size s
  | .timeTbLoRead m => Sys2Proof.Machine.execTimeTbLoRead m s
  | .registerWrite m addr size v => Sys2Proof.Machine.execRegisterWrite m addr size v s
  | .ccTerminationLost p cc1 cc2 => Sys2Proof.Machine.execCcTerminationLost p cc1 cc2 s
  | .currentAboveILim x above => Sys2Proof.Machine.execCurrentAboveILim x above s
  | .vbusOutsideWindow x below below95 => Sys2Proof.Machine.execVbusOutsideWindow x below below95 s
  | .tokenAccrual => Sys2Proof.Machine.execTokenAccrual s
  | .registerRead m addr q => Sys2Proof.Machine.execRegisterRead m addr q s
  | .pllUnlock => Sys2Proof.Machine.execPllUnlock s
  | .vddHuskLoss => Sys2Proof.Machine.execVddHuskLoss s
  | .overtemperatureRelease => Sys2Proof.Machine.execOvertemperatureRelease s
  | .deviceConnect p superSpeed => Sys2Proof.Machine.execDeviceConnect p superSpeed s

end Sys2Proof.Machine
end

