-- ==== Sys2Proof/Safety.lean ====
section
/-! DEFINITION. The conditions under which a command acts, what a safe state is, and the canonical form of what the block holds by
address. -/

namespace Sys2Proof.Machine

/-! #### Where a command acts -/

/-- The device is out of reset and the domain works: ON or DRAINING (R333, R460). -/
def State.works (s : State) (n : DomIx) : Prop := s.hub.held = .none ∧ s.hub.domRuns n = true

/-- The pod's domain works and its PD engine acts on messages: attached, started, and in no Hard Reset (R89, R97). -/
def State.hears (s : State) (p : PodIx) : Prop := s.works (podDom p) ∧ s.hub.pdActive p = true

/-- A frame arrives on a cascade link that is up (R255, R257). -/
def State.frameAt (s : State) (p : PodIx) : Prop := s.works domCsb ∧ (s.hub.clink p).up = true

/-- Such a frame comes down to this joined worker, which it names, and the turn is not passed with it (R256, R257, R262). -/
def State.toWorker (s : State) (p : PodIx) (hd : CsbHdr) : Prop :=
  s.frameAt p ∧ hd.turn = false ∧ (s.hub.clink p).isParent = false ∧ s.hub.csb.joined = true ∧ hd.dst = s.hub.csb.myId ∧ hd.dst ≠ 0x7F

/-- Such a frame comes up to this hub as the manager, without the turn (R256, R262). -/
def State.toManager (s : State) (p : PodIx) (hd : CsbHdr) : Prop :=
  s.frameAt p ∧ hd.turn = false ∧ (s.hub.clink p).isParent = true ∧ s.hub.csb.role = 2 ∧ hd.dst = 0

/-- The device is out of reset and CLK_PE runs: the data path forwards (R352). -/
def State.forwards (s : State) : Prop := s.hub.held = .none ∧ s.hub.peRuns = true

/-- The device is out of reset and the register's block answers the master's write at once: JTAG needs an open debug port, a guarded
register needs master 0 with a verified image, and the domain is neither RET, OFF or EXITING nor being entered (R296, R297, R334,
R342, R417). -/
def State.takes (s : State) (m : Master) (off : Nat) (guarded : Bool) : Prop :=
  s.hub.held = .none ∧ s.hub.mayAccess m = true ∧ (guarded = true → s.hub.secure m = true) ∧ s.hub.domDark (domOf off) = false ∧
    s.hub.accHeld m off 2 = false

/-- The hub as a command bit of a register acts: the write was noted for its register, whose parity fault it ends (R314, R408). -/
def Hub.written (h : Hub) (off : Nat) : Hub := (h.laneReached off).cmdWritten off

/-- A command of an opcode that arrives on a ring starts at once (R362, R365, R368, R379, R381, R383): the MBX block works and Umuri
serves, its tag is unused, nothing waits or runs on the ring, a response slot and where it is needed a job number are free, its
class is permitted, and no other ring's command can start. -/
def State.startsOn (s : State) (r : RingIx) (op : Nat) (tag : BitVec 16) (arg : List Byte) : Prop :=
  s.works domBus ∧ arg.length ≤ 240 ∧ s.hub.tagUsed r tag = false ∧ (s.hub.ring r).cmds = [] ∧ (s.hub.ring r).running = none ∧
    (s.hub.ring r).stalled = false ∧ (s.hub.ring r).resps.length < 8 ∧ s.hub.serving = true ∧ s.hub.mbx.bootRomOnly = false ∧
    (s.hub.needsJob op arg = true → s.hub.freeJob.isSome = true) ∧
    (∃ cls, cmdClass op arg = some cls ∧ (s.hub.classes r).testBit cls = true) ∧ ∀ q, q ≠ r → s.hub.canStart q = false

/-! #### A mailbox command from start to response -/

/-- The hub as a command that just arrived runs: it is counted, it runs on its ring, its ring was served last (R365, R381). -/
def Hub.running (h : Hub) (r : RingIx) (m : Msg) : Hub :=
  (((h.bump (cntRing r 0)).modRing r fun g => { g with cmds := [], running := some m, dropRun := false }).modMbx fun x =>
    { x with taken := x.taken + 1 }).modRing r fun g => { g with served := h.mbx.taken + 1 }

/-- A command with meaning `f` arrives on a ring and runs at once; then its response is stored, and what it still brings about
happens (R363, R365, R382, R390). -/
def Hub.ran (h : Hub) (r : RingIx) (op : Nat) (tag : BitVec 16) (arg : List Byte) (reads : List EccRead)
    (f : Hub → OpCtx → OpRes) : Hub :=
  let x := f (h.running r { opcode := op, tag := tag, payload := arg })
    { r := r, m := if r.val = 5 then 1 else h.ringMaster r, opcode := op, tag := tag, p := arg, j := h.freeJob.getD 0, reads := reads }
  (if (x.h.ring r).running.isNone then x.h
   else
     let k := x.h.modRing r fun g => { g with running := none, dropRun := false }
     (if (x.h.ring r).dropRun then k.stallEval r else k.storeResp r op tag false x.o.status x.o.detail x.o.data).afterOp
       x.after).stallEval r

/-! #### Held in reset (R463) -/

/-- No power and no terminations: every gate is off, every VCONN and SBU switch is open, no CC pin presents a termination. -/
def Hub.shut (h : Hub) : Prop :=
  (∀ x : PathIx, (h.vb x).gpre = false ∧ (h.vb x).gmain = false ∧ (h.vb x).state = .off) ∧
  (∀ p : PodIx, (h.tc p).state = .disabled ∧ (h.tc p).vconnOn = false ∧ (h.tc p).sbuCsb = false ∧ (h.pde p).state = .disabled) ∧
  h.mbx.umuriUp = false

/-- A device held in reset is shut. -/
def State.resetSafe (s : State) : Prop := s.hub.held ≠ .none → s.hub.shut

/-- The commands that act on a device held in reset: what brings a reset, what ends one, and the fall of VBUS (R460 to R465). -/
def actsInReset : Instr → Bool
  | .powerOnReset | .rstNRise _ _ _ | .rstNFall | .dieOvertemperature | .vddHuskLoss | .overtemperatureRelease
  | .vbusBelow0v8 _ => true
  | _ => false

/-! #### What is held by address -/

/-- The register words, event bits, counters and the Seedbank are in canonical form: keys strictly rising, no entry equal to what
an unlisted key reads as. -/
def Hub.canonical (h : Hub) : Bool :=
  smWf regReset 0 h.active && smWf regReset 0 h.shadow && smWf (fun _ => (0 : Word)) 0 h.evts
    && smWf (fun _ => (0 : Nat)) 0 h.counters && smWf (fun _ => ({} : Rec)) 0 h.nvm.ring
    && smWf (fun _ => (0 : Word)) 0 h.sched.mapA && smWf (fun _ => (0 : Word)) 0 h.sched.mapB

end Sys2Proof.Machine
end

