-- ==== Sys2Proof/Certificates/Slice0/Obligations.lean ====
section
/-! DEFINITION. The statements about the block, for the provers. -/

open Sys2Proof Sys2Proof.Machine

/-- R22, R23, R28, R472: loss, recovery, release and commanded switch of the ACTIVE upstream connection. -/
def Obligations.UpstreamEvents : Prop :=
  (∀ (s : State) (u : UpIx) (sp : Speed) (m : Master),
    (s.works (podDom (upPod u)) → s.hub.upsel.active = some u → s.hub.upsel.lostAt = none →
      exec (.upstreamLinkLoss u) s = .next (s.put ((s.hub.quiet.upOff u).modUpsel fun x =>
        { x with timing := true, detached := false, lostAt := some s.hub.clk
                 failEnd := s.hub.clk + s.hub.tFail * 10 * ticksPerMs }))) ∧
    (s.works (podDom (upPod u)) → s.hub.upsel.active = some u → s.hub.upsel.lostAt ≠ none → s.hub.upUfp u = true →
      speedOk (upPod u) sp = true → s.hub.upsel.timing = true →
      exec (.upstreamRecovered u sp) s = .next (s.put
        (((s.hub.quiet.upEvt 1).upStart (some u) u 5 false).linkUpAt (upPod u) sp))) ∧
    (s.works (podDom (upPod u)) → s.hub.upsel.active = some u → s.hub.upsel.seq = none →
      exec (.upstreamFsRelease u) s = .next (s.put
        ((((s.hub.quiet.upOff u).modUpsel fun x =>
          { x with active := none, timing := false, lostAt := none, detached := false, lastCause := 6
                   released := x.released.set u true }).upRecord u.val 0xFF 6 0 0).upSelect))) ∧
    (s.hub.held = .none → s.hub.upsel.active = some u → s.hub.upsel.timing = true → s.hub.upReady (upOther u) = true →
      s.hub.failEn = true → s.hub.upsel.detached = true →
      exec .tFailExpiry s = .next (s.put (s.hub.quiet.upStart (some u) (upOther u) 1 true))) ∧
    (s.hub.held = .none → s.hub.upsel.active = some u → s.hub.upsel.timing = true → s.hub.upReady (upOther u) = false →
      s.hub.failEn = false → s.hub.upsel.detached = false →
      exec .tFailExpiry s = .next (s.put ((s.hub.quiet.upEvt 3).modUpsel fun x => { x with timing := false }))) ∧
    (s.takes m 0x107C4 false → (s.hub.quiet.written 0x107C4).upsel.active = some u →
        (s.hub.quiet.written 0x107C4).upSwitchOk = true →
      exec (.switch m) s = .next (s.put
        ((s.hub.quiet.written 0x107C4).upStart (some u) (upOther u) 3 false))) ∧
    (∀ q, s.hub.held = .none → s.hub.upsel.seq = some q → s.hub.upStillReady q.new = true → q.failover = true →
      exec .reconnectConnect s = .next (s.put
        (((((s.hub.quiet.modUpsel fun x => { x with active := some q.new, seq := none, lastCause := q.cause, mfChange := true }).modLink
          (upPod q.new) fun l => { l with ltssm := if l.ltssm = .ssDisabled then .rxDetect else l.ltssm }).upRecord
          (upNo q.old) q.new.val q.cause q.lossUs q.discard).upEvt 0).bump (cntUpsel 0))))) ∧
  (∀ (s : State),
    (∀ (u : UpIx), s.works (podDom (upPod u)) →
      exec (.upstreamLinkLoss u) s = .next (s.put (s.hub.quiet.upLinkLoss u)) ∧
      (∀ (speed : Speed), exec (.upstreamRecovered u speed) s = .next (s.put (s.hub.quiet.upRecovered u speed))) ∧
      exec (.upstreamFsRelease u) s = .next (s.put (s.hub.quiet.upFsRelease u))) ∧
    (s.hub.held = .none →
      exec .tFailExpiry s = .next (s.put (s.hub.quiet.upFail)) ∧
      exec .reconnectConnect s = .next (s.put (s.hub.quiet.upConnect))) ∧
    (∀ (m : Master), s.takes m 0x107C4 false →
      exec (.switch m) s = .next (s.put ((s.hub.quiet.written 0x107C4).upSwitch))))

/-- R36, R39, R40, R49, R50, R59: the timers and the command bits of the connection machine. Each expiry changes the pod's machine as
its state's row says. -/
def Obligations.ConnectionTimersAndCommands : Prop :=
  (∀ (s : State) (m : Master) (p : PodIx),
    (s.works (podDom p) →
      exec (.chatterQuietExpiry p) s = .next (s.put (s.hub.quiet.modTc p fun t => { t with chatterExt := false })) ∧
      ((s.hub.tc p).drp = true → (s.hub.tc p).state = .unattachedSrc →
        exec (.drpToggle p) s = .next (s.put (s.hub.quiet.modTc p fun t =>
          { t with state := .unattachedSnk, cc1 := .open, cc2 := .open }))) ∧
      ((s.hub.tc p).drp = true → (s.hub.tc p).state = .unattachedSnk →
        exec (.drpToggle p) s = .next (s.put (s.hub.quiet.modTc p fun t =>
          { t with state := .unattachedSrc, cc1 := .open, cc2 := .open }))) ∧
      ((s.hub.tc p).state = .trySrc →
        exec (.tDrpTryExpiry p) s = .next (s.put (s.hub.quiet.modTc p fun t =>
          { t with state := .tryWaitSnk, debounced := false, lost := false, rpLevel := 0, cc1 := .open, cc2 := .open }))) ∧
      ((s.hub.tc p).state = .tryWaitSnk →
        exec (.tDrpTryWaitExpiry p) s = .next (s.put (s.hub.quiet.enterUnattached p))) ∧
      ((s.hub.tc p).state = .errorRecovery →
        exec (.tErrorRecoveryExpiry p) s = .next (s.put (s.hub.quiet.enterUnattached p))) ∧
      ((s.hub.tc p).state = .lockout →
        exec (.lockoutExpiry p) s = .next (s.put (s.hub.quiet.enterUnattached p))) ∧
      ((s.hub.tc p).state = .wet → (s.hub.tc p).checking = false → s.hub.moistEn p = true →
        exec (.wetRecheck p) s = .next (s.put (s.hub.quiet.modTc p fun t => { t with checking := true }))) ∧
      ((s.hub.tc p).state = .attachWaitSrc → (s.hub.tc p).debounced = true → (s.hub.tc p).vbusCounted = false →
        exec (.vbusPresentTimeout p) s = .next (s.put
          (((s.hub.quiet.modTc p fun t => { t with vbusCounted := true }).tcEvt p 10).bump (cntTc p 9))))) ∧
    (s.takes m (podBase p) false → (s.hub.tc p).state = .lockout →
      exec (.lockoutClr m p) s = .next (s.put ((s.hub.quiet.written (podBase p)).enterUnattached p))) ∧
    (s.takes m (podBase p) false → (s.hub.tc p).ccOpen = false → (s.hub.tc p).attached = false →
      exec (.forceDetach m p) s = .next (s.put ((s.hub.quiet.written (podBase p)).modTc p fun t =>
        { t with state := .errorRecovery, checking := false, debounced := false, lost := false, cc1 := .open, cc2 := .open }))) ∧
    (s.takes m (podBase p + 0x10) false →
      exec (.rebase m p) s = .next (s.put ((s.hub.quiet.written (podBase p + 0x10)).modTc p fun t =>
        { t with pins := t.pins.map fun q => { q with base := 0, baseValid := false, baseCnt := 0 } })))) ∧
  (∀ (s : State),
    (∀ (p : PodIx), s.works (podDom p) →
      exec (.drpToggle p) s = .next (s.put (s.hub.quiet.drpToggle p)) ∧
      exec (.tDrpTryExpiry p) s = .next (s.put (s.hub.quiet.drpTryEnd p)) ∧
      exec (.tDrpTryWaitExpiry p) s = .next (s.put (s.hub.quiet.drpTryWaitEnd p)) ∧
      exec (.tErrorRecoveryExpiry p) s = .next (s.put (s.hub.quiet.errorRecoveryEnd p)) ∧
      exec (.lockoutExpiry p) s = .next (s.put (s.hub.quiet.endLockout p)) ∧
      exec (.wetRecheck p) s = .next (s.put (s.hub.quiet.wetRecheck p)) ∧
      exec (.vbusPresentTimeout p) s = .next (s.put (s.hub.quiet.vbusPresentTimeout p))) ∧
    (∀ (m : Master) (p : PodIx), s.takes m (podBase p) false →
      exec (.lockoutClr m p) s = .next (s.put ((s.hub.quiet.written (podBase p)).endLockout p)) ∧
      exec (.forceDetach m p) s = .next (s.put ((s.hub.quiet.written (podBase p)).errorRecovery p))))

/-- R36, R41, R45-R51, R57, R61, R471: terminations, debounce ends and moisture checks of an attaching or attached pod. R36, R41, R61: the entry to an
unattached state takes the role in effect, opens VCONN and SBU and ends every debounce; nothing but the pod's machine changes. The
multiplexers of an attached pod follow its orientation. -/
def Obligations.AttachEvents : Prop :=
  (∀ (s : State) (p : PodIx) (c1 c2 : Term) (mv r0 r1 r2 r3 : Nat), s.works (podDom p) →
    ((s.hub.tc p).state = .unattachedSrc → s.hub.domOn (podDom p) = true → accessoryPair true c1 c2 = false →
      wanted true c1 c2 = true →
      exec (.tcTerminationSeen p c1 c2) s = .next (s.put ((s.hub.quiet.modTc p fun t =>
        { t with cc1 := c1, cc2 := c2, state := .attachWaitSrc, rpLevel := 0, debounced := false, lost := false
                 vbusCounted := false, checking := false }).chatterTransition p))) ∧
    ((s.hub.tc p).ccOpen = false → s.hub.domOn (podDom p) = true → (s.hub.tc p).unattached = true →
      exec (.tcTerminationSeen p c1 c2) s = .next (s.put ((s.hub.quiet.modTc p fun t =>
        { t with cc1 := c1, cc2 := c2, rpLevel := (s.hub.tc p).rpSeen c1 c2 }).evalUnattached p))) ∧
    ((s.hub.tc p).state = .attachedSrc → s.hub.domOn (podDom p) = true → (s.hub.tc p).rdStays c1 c2 = false →
      exec (.ccTerminationLost p c1 c2) s = .next (s.put (s.hub.quiet.modTc p fun t =>
        { t with cc1 := c1, cc2 := c2, lost := true }))) ∧
    ((s.hub.tc p).state = .attachedSnk → s.hub.domOn (podDom p) = true →
      exec (.tcTerminationSeen p c1 c2) s = .next (s.put (s.hub.quiet.modTc p fun t =>
        { t with cc1 := c1, cc2 := c2, rpLevel := t.rpSeen c1 c2 }))) ∧
    (((s.hub.tc p).state = .attachWaitSrc ∨ (s.hub.tc p).state = .attachWaitSnk) → (s.hub.tc p).lost = false →
      (s.hub.tc p).checking = false → (s.hub.tc p).debounced = false →
      wanted (s.hub.tc p).actsSrc (s.hub.tc p).cc1 (s.hub.tc p).cc2 = true →
      exec (.tCcDebounceExpiry p mv) s = .next (s.put
        (if s.hub.moistEn p then s.hub.quiet.modTc p fun t => { t with checking := true, vconnOn := false }
          else s.hub.quiet.afterDry p mv))) ∧
    ((s.hub.tc p).checking = true →
      exec (.moistureCheckDone p r0 r1 r2 r3 mv) s = .next (s.put
        ((s.hub.quiet.measurePins p [(0, r0), (1, r1), (2, r2), (3, r3)]).checkEnd p mv))) ∧
    ((s.hub.tc p).srcAttached = true → (s.hub.tc p).lost = true →
      exec (.tPdDebounceExpiry p mv) s = .next (s.put
        ((if (s.hub.tc p).cc1 == .open && (s.hub.tc p).cc2 == .open then s.hub.quiet.modTc p fun t => { t with accCounted := false }
          else s.hub.quiet).typecDetach p 3 0 none))) ∧
    (((s.hub.tc p).state = .attachWaitSrc ∨ (s.hub.tc p).state = .attachWaitSnk) → (s.hub.tc p).lost = true →
      (s.hub.tc p).cc1 ≠ .open →
      exec (.tPdDebounceExpiry p mv) s = .next (s.put ((s.hub.quiet.enterUnattached p).chatterTransition p))) ∧
    ((s.hub.tc p).state = .attachWaitSnk → (s.hub.tc p).debounced = true → (s.hub.tc p).lost = false →
      wanted false (s.hub.tc p).cc1 (s.hub.tc p).cc2 = true →
      exec (.partnerVbusPresent p) s = .next (s.put (s.hub.quiet.attachSnk p))) ∧
    ((s.hub.tc p).state = .attachedSnk → s.hub.pdHardResetRecovery p = false → mv < (s.hub.pde p).sinkThreshold →
      exec (.sinkVbusDisconnect ⟨p, mv⟩) s = .next (s.put (s.hub.quiet.typecDetach p 0 0 none))) ∧
    ((s.hub.tc p).attached = true → s.hub.sbuLive p = true → (s.hub.tc p).sbuCsb = false →
      exec (.liveSbuCheck p r2 r3) s = .next (s.put
        (if (s.hub.quiet.measurePins p [(2, r2), (3, r3)]).sbuWet p
          then (s.hub.quiet.measurePins p [(2, r2), (3, r3)]).modTc p fun t => { t with liveWet := true }
          else (s.hub.quiet.measurePins p [(2, r2), (3, r3)]).liveCheckDry p)) ∧
      ((s.hub.tc p).liveWet = true →
        exec (.liveSbuConfirm p ⟨r2, r3⟩ false) s = .next (s.put
          (if (s.hub.quiet.measurePins p [(2, r2), (3, r3)]).sbuWet p
            then ((s.hub.quiet.measurePins p [(2, r2), (3, r3)]).enterWet p).leaveAs p
              ((s.hub.quiet.measurePins p [(2, r2), (3, r3)]).tc p).srcAttached 4 2
            else (((s.hub.quiet.measurePins p [(2, r2), (3, r3)]).modTc p fun t => { t with liveWet := false }).bump
              (cntTc p 2)).liveCheckDry p)))) ∧
    ((s.hub.tc p).vconnOn = true →
      exec (.vconnOcTrip p) s = .next (s.put
        (((((s.hub.quiet.modTc p fun t => { t with vconnOn := false, vconnOc := true }).tcEvt p 9).bump (cntTc p 8)).raise
          (srcTc p) 0x1033 3 [s.hub.vconnIlim p]).pdVconnLost p))) ∧
    (s.hub.enterUnattached p = s.hub.modTc p fun t =>
      { t with role := s.hub.tcRole p, trySrc := s.hub.tcTrySrc p
               state := if s.hub.tcRole p = 1 then .unattachedSrc else .unattachedSnk
               orient := false, vconnOn := false, rpLevel := 0, sbuCsb := false, dryCnt := 0, vconnOc := false
               checking := false, debounced := false, lost := false, vbusCounted := false, liveWet := false }) ∧
    ((s.hub.tc p).attached = true →
      (s.hub.tc p).ssLane = some (if (s.hub.tc p).orient then 2 else 1) ∧
      ((s.hub.tc p).vconnOn = true → (s.hub.tc p).vconnPin = some (if (s.hub.tc p).orient then 1 else 2)) ∧
      ((s.hub.tc p).sbuCsb = true → (s.hub.tc p).csbPins = some (if (s.hub.tc p).orient then (2, 1) else (1, 2))))) ∧
  (∀ (s : State),
    (∀ (p : PodIx), s.works (podDom p) →
      (∀ (cc1 : Term) (cc2 : Term), exec (.tcTerminationSeen p cc1 cc2) s = .next (s.put (s.hub.quiet.ccChange p cc1 cc2))) ∧
      (∀ (cc1 : Term) (cc2 : Term), exec (.ccTerminationLost p cc1 cc2) s = .next (s.put (s.hub.quiet.ccChange p cc1 cc2))) ∧
      (∀ (vbusMv : Nat), exec (.tCcDebounceExpiry p vbusMv) s = .next (s.put (s.hub.quiet.ccDebounce p vbusMv))) ∧
      (∀ (r0 : Nat) (r1 : Nat) (r2 : Nat) (r3 : Nat) (vbusMv : Nat), exec (.moistureCheckDone p r0 r1 r2 r3 vbusMv) s =
        .next (s.put (s.hub.quiet.moistureDone p r0 r1 r2 r3 vbusMv))) ∧
      (∀ (vbusMv : Nat), exec (.tPdDebounceExpiry p vbusMv) s = .next (s.put (s.hub.quiet.pdDebounce p vbusMv))) ∧
      exec (.partnerVbusPresent p) s = .next (s.put (s.hub.quiet.partnerVbus p)) ∧
      (∀ (vbusMv : Nat), exec (.sinkVbusDisconnect ⟨p, vbusMv⟩) s = .next (s.put (s.hub.quiet.sinkDisconnect p vbusMv))) ∧
      (∀ (r2 : Nat) (r3 : Nat), exec (.liveSbuCheck p r2 r3) s = .next (s.put (s.hub.quiet.liveCheck p r2 r3))) ∧
      (∀ (r2 : Nat) (r3 : Nat) (lockout : Bool), exec (.liveSbuConfirm p ⟨r2, r3⟩ lockout) s =
        .next (s.put (s.hub.quiet.liveConfirm p r2 r3 lockout))) ∧
      exec (.vconnOcTrip p) s = .next (s.put (s.hub.quiet.vconnTrip p))))

/-- R53-R56, R117, R133: loss of the data link, bounce hold, VBUS below 0.8 V; R52: attach sensing in standby. -/
def Obligations.HoldAndSense : Prop :=
  (∀ (s : State) (p : PodIx) (x : PathIx) (sp : Speed) (c1 c2 : Term),
    (s.works (podDom p) → isD p = true → (s.hub.link p).speed ≠ .none → (s.hub.tc p).state = .attachedSrc → s.hub.bhWin p ≠ 0 →
      (s.hub.tc p).hold = none → (s.hub.tc p).bhAvail = true → (s.hub.tc p).lost = false → s.hub.vbOn (podPath p) = true →
        (s.hub.link p).losable = true →
      exec (.dataLinkLoss p) s = .next (s.put ((s.hub.quiet.modTc p fun t =>
        { t with state := .bounceHold, hold := some { lossTb := s.hub.tb, since := s.hub.clk, speed := (s.hub.link p).speed }
                 lastUsb2 := (s.hub.link p).speed.usb2 }).linkHoldStart p))) ∧
    (s.works (podDom p) → isD p = true → (s.hub.link p).speed ≠ .none → (s.hub.tc p).state ≠ .attachedSrc →
      (s.hub.tc p).hold = none →
        ((s.hub.link p).speed.ss = true → (s.hub.link p).ltssm ≠ .ssDisabled) →
      exec (.dataLinkLoss p) s = .next (s.put (s.hub.quiet.portDisconnect p))) ∧
    (∀ hd : Hold, s.works (podDom p) → (s.hub.tc p).hold = some hd →
      exec (.bounceHoldRecover p hd.speed) s = .next (s.put ((s.hub.quiet.endHold p 0).linkHoldRecovered p hd.speed)) ∧
      (sp ≠ hd.speed → speedOk p sp = true → exec (.bounceHoldRecover p sp) s =
        .next (s.put (((s.hub.quiet.endHold p 7).linkUpAt p sp).modTc p fun t => { t with bhAvail := true })))) ∧
    (s.works (podDom p) → exec (.bounceHoldExpiry p) s = .next (s.put (s.hub.quiet.endHold p 1))) ∧
    (s.works (pathDom x) → (s.hub.vb x).state = .off → pathPod x = none →
      exec (.vbusBelow0v8 x) s = .next (s.put (s.hub.quiet.modVb x fun e => { e with low := true, dsch := false }))) ∧
    (s.hub.held = .none → (s.hub.dom (podDom p)).state = .ret → s.hub.stbySense p = true → s.hub.tcRole p = 1 → c1 = .rd →
      exec (.huskAttachSense p c1 c2) s = .next (s.put (s.hub.quiet.wakeSource p.val)))) ∧
  (∀ (s : State),
    (∀ (x : PathIx), s.works (pathDom x) → exec (.vbusBelow0v8 x) s = .next (s.put (s.hub.quiet.below0v8 x))) ∧
    (∀ (x : PathIx), s.hub.held ≠ .none →
      exec (.vbusBelow0v8 x) s = .next (s.put (s.hub.quiet.modVb x fun e => { e with low := true, dsch := false }))) ∧
    (∀ (p : PodIx), s.works (podDom p) →
      exec (.dataLinkLoss p) s = .next (s.put (s.hub.quiet.dataLinkLoss p)) ∧
      (∀ (speed : Speed), exec (.bounceHoldRecover p speed) s = .next (s.put (s.hub.quiet.holdRecover p speed))) ∧
      exec (.bounceHoldExpiry p) s = .next (s.put (s.hub.quiet.holdExpire p))) ∧
    (s.hub.held = .none →
      (∀ (p : PodIx) (cc1 : Term) (cc2 : Term), exec (.huskAttachSense p cc1 cc2) s =
        .next (s.put (s.hub.quiet.huskSense p cc1 cc2)))))

/-- R72, R74: what a capability list offers and what a Request may take. A list starts with the 5 V object; every offer keeps the power the
pod may offer and the cable's current, and every offer but 5 V carries at least 1.00 A. A Request that is granted is charged for
its voltage and current, with 4.5 W at least, and never takes more current than was offered. -/
def Obligations.OffersAndContracts : Prop :=
  (∀ (h : Hub) (p : PodIx), ∃ i rest, h.pdList p = .fixed 500 i :: rest) ∧
  (∀ (h : Hub) (p : PodIx) (v i : Nat), .fixed v i ∈ h.pdList p →
    i ≤ 500 ∧ i ≤ h.cableAmps p ∧ v * i ≤ 2500 * h.pdPower p ∧ (v ≠ 500 → 100 ≤ i ∧ v ≤ h.cableVolts p)) ∧
  (∀ (h : Hub) (p : PodIx) (v i : Nat), .pps v i ∈ h.pdList p →
    i ≤ 500 ∧ i ≤ h.cableAmps p ∧ v * i ≤ 2500 * h.pdPower p ∧ 100 ≤ i ∧ v ≤ h.cableVolts p) ∧
  (∀ (offers : List PdObject) (r : PdRdo) (k : Contract) (c : Nat), requestOf offers r = (some k, c) →
    k.charge = c ∧ 18 ≤ c ∧ k.v * k.i ≤ 2500 * c ∧ k.pos = r.pos ∧ 1 ≤ r.pos ∧
    (∀ v i, offers.getD (r.pos - 1) .none = .fixed v i → k.v = v ∧ k.i ≤ i) ∧
    (∀ v i, offers.getD (r.pos - 1) .none = .pps v i → k.v = r.ppsV ∧ 330 ≤ k.v ∧ k.v ≤ v ∧ k.i ≤ i))

/-- R69, R78, R90, R91, R92: messages whose answer does not depend on the state of the engine. Each is counted and captured
first. -/
def Obligations.PlainMessages : Prop :=
  ∀ (s : State) (p : PodIx) (f : PdFrame) (svid : BitVec 16), s.hears p →
    let g := s.hub.quiet.pdRx p f false
    exec (.pingReceived p f) s = .next (s.put g) ∧
    exec (.sinkCapabilitiesReceived p f) s = .next (s.put g) ∧
    exec (.replyMessageReceived p ⟨f, true⟩) s = .next (s.put g) ∧
    exec (.replyMessageReceived p ⟨f, false⟩) s = .next (s.put (g.pdViolSoft p 2 f.header.toNat)) ∧
    exec (.vdmAttentionReceived p f) s = .next (s.put g) ∧
    exec (.cableResetReceived p) s = .next (s.put s.hub.quiet) ∧
    exec (.drSwapReceived p f) s = .next (s.put (g.pdCtl p .reject)) ∧
    exec (.prSwapReceived p f) s = .next (s.put (g.pdCtl p .reject)) ∧
    exec (.unsupportedMessageReceived p f) s = .next (s.put (g.pdCtl p (if (g.pde p).r3 then .notSupported else .reject))) ∧
    exec (.malformedMessage p f) s = .next (s.put (g.pdViolSoft p 1 f.header.toNat)) ∧
    exec (.unexpectedMessage p f) s = .next (s.put (g.pdViolSoft p 2 f.header.toNat)) ∧
    ((g.pde p).r3 = true →
      exec (.getStatusReceived p f) s = .next (s.put (g.pdSendExt p .status statusBlock)) ∧
      exec (.getManufacturerInfoReceived p f) s = .next (s.put (g.pdSendExt p .manufacturerInfo manufacturerBlock))) ∧
    ((g.pde p).r3 = false →
      exec (.getStatusReceived p f) s = .next (s.put (g.pdCtl p .reject)) ∧
      exec (.getManufacturerInfoReceived p f) s = .next (s.put (g.pdCtl p .reject))) ∧
    exec (.getRevisionReceived p f) s = .next (s.put (g.pdSend p .revision false [0x32000000])) ∧
    exec (.alertReceived p f) s =
      .next (s.put (g.raise (srcPd p) (Config.alertRecord 0) (Config.alertRecord 1 % 8) [])) ∧
    exec (.softResetReceived p f) s = .next (s.put (g.softReceived p)) ∧
    exec (.vdmDiscoverIdentityReceived p f) s = .next (s.put (g.vdmSend p 0xFF00 0 1 1 (g.identityVdos p))) ∧
    ((s.hub.pde p).dfp = true →
      exec (.vdmDiscoverSvidsReceived p f) s = .next (s.put (g.vdmSend p 0xFF00 0 2 2 [])) ∧
      exec (.vdmDiscoverModesReceived p f svid) s = .next (s.put (g.vdmSend p svid.toNat 0 2 3 [])) ∧
      exec (.vdmExitModeReceived p f) s = .next (s.put (g.vdmSend p 0x2F7A 1 2 5 []))) ∧
    ((s.hub.pde p).dfp = false →
      exec (.vdmDiscoverModesReceived p f 0x2F7A) s = .next (s.put (g.vdmSend p 0x2F7A 0 1 3 [g.modeVdo p])) ∧
      exec (.vdmExitModeReceived p f) s = .next (s.put ((g.vdmSend p 0x2F7A 1 1 5 []).pdCasLeave p 1))) ∧
    ((s.hub.pde p).dfp = false → s.hub.casEn p = true →
      exec (.vdmDiscoverSvidsReceived p f) s = .next (s.put (g.vdmSend p 0xFF00 0 1 2 [0x2F7A0000]))) ∧
    exec (.vdmSvidCommandReceived p f) s = .next (s.put
      (g.vdmSend p ((f.words.getD 0 0).toNat / 65536) ((f.words.getD 0 0).toNat / 256 % 8) 2 ((f.words.getD 0 0).toNat % 32) []))

/-- R78, R81 to R83, R91: what the partner may ask of a source pod, of a D pod, and of a sink pod. That
requests are answered outside PDE.READY too is the model's reading (log entry 69). -/
def Obligations.PartnerQuestions : Prop :=
  (∀ (s : State) (p : PodIx) (f : PdFrame), s.hears p →
    let g := s.hub.quiet.pdRx p f false
    ((s.hub.pde p).roleSrc = true →
      exec (.getSourceCapReceived p f) s = .next (s.put (g.pdSendCaps p)) ∧
      ((g.pde p).r3 = true →
        exec (.getSourceCapExtendedReceived p f) s = .next (s.put (g.pdSendExt p .sourceCapsExt (g.srcCapExt p)))) ∧
      exec (.getSourceInfoReceived p f) s = .next (s.put (g.pdSend p .sourceInfo false [g.sourceInfo p]))) ∧
    ((s.hub.pde p).roleSrc = false →
      exec (.getSourceCapExtendedReceived p f) s = .next (s.put (g.pdNotSup p)) ∧
      exec (.getSourceInfoReceived p f) s = .next (s.put (g.pdNotSup p))) ∧
    ((s.hub.pde p).contract.ctype = 2 → (g.pde p).r3 = true →
      exec (.getPpsStatusReceived p f) s = .next (s.put (g.pdSendExt p .ppsStatus (g.ppsBlock p)))) ∧
    ((s.hub.pde p).contract.ctype ≠ 2 →
      exec (.getPpsStatusReceived p f) s = .next (s.put (g.pdNotSup p))) ∧
    (isD p = true →
      exec (.getSinkCapReceived p f) s = .next (s.put (g.pdNotSup p)) ∧
      exec (.getSinkCapExtendedReceived p f) s = .next (s.put (g.pdNotSup p)) ∧
      ((g.pde p).r3 = true → exec (.eprGetSourceCapReceived p f) s = .next (s.put (g.pdSendList p true)))) ∧
    (isD p = false →
      exec (.getSinkCapReceived p f) s = .next (s.put (g.pdSend p .sinkCaps false (g.sinkCaps p))) ∧
      ((g.pde p).r3 = true →
        exec (.getSinkCapExtendedReceived p f) s = .next (s.put (g.pdSendExt p .sinkCapsExt (block 12 21 [])))) ∧
      exec (.eprGetSourceCapReceived p f) s = .next (s.put (g.pdNotSup p)) ∧
      exec (.eprModeReceived p f .enter) s = .next (s.put (g.pdNotSup p))) ∧
    ((s.hub.pde p).eprMode = true →
      exec (.eprKeepaliveReceived p f) s = .next (s.put (g.pdSendExt p .eprKeepAliveAck (putLe 2 4))) ∧
      (isD p = true → (g.pde p).r3 = true → exec (.eprModeReceived p f .exit) s = .next (s.put ((g.pdEprEnd p).pdSendCaps p)))) ∧
    (isD p = true → (g.pde p).r3 = true → (g.pde p).sprAsked = true → (s.hub.pde p).state = .ready →
      exec (.eprModeReceived p f .enter) s = .next (s.put (g.eprEnter p))) ∧
    (isD p = true → (g.pde p).r3 = true → (g.pde p).sprAsked = false →
      exec (.eprModeReceived p f .enter) s = .next (s.put (g.eprFail p 1))) ∧
    (∀ mode : BistMode, mode ≠ .sharedTest → s.hub.bistEn p = true → (s.hub.pde p).roleSrc = false → (s.hub.pde p).contract.ctype = 0 →
      exec (.bistReceived p f mode) s = .next (s.put (g.emit (.bist p.val mode)))) ∧
    (exec (.bistReceived p f .sharedTest) s = .next (s.put g))) ∧
  (∀ (s : State),
    (∀ (p : PodIx), s.hears p →
      (∀ (f : PdFrame), exec (.getSourceCapReceived p f) s = .next (s.put ((s.hub.quiet.pdRx p f false).getSourceCap p))) ∧
      (∀ (f : PdFrame) (a : EprAction), exec (.eprModeReceived p f a) s =
        .next (s.put ((s.hub.quiet.pdRx p f false).eprReceived p f a))) ∧
      (∀ (f : PdFrame) (mode : BistMode), exec (.bistReceived p f mode) s =
        .next (s.put ((s.hub.quiet.pdRx p f false).bistReceived p mode))) ∧
      (∀ (f : PdFrame), exec (.getSourceCapExtendedReceived p f) s =
        .next (s.put ((s.hub.quiet.pdRx p f false).pdAnswerExt p ((s.hub.quiet.pdRx p f false).pde p).roleSrc .sourceCapsExt
        ((s.hub.quiet.pdRx p f false).srcCapExt p)))) ∧
      (∀ (f : PdFrame), exec (.getPpsStatusReceived p f) s =
        .next (s.put ((s.hub.quiet.pdRx p f false).pdAnswerExt p (((s.hub.quiet.pdRx p f false).pde p).contract.ctype = 2)
        .ppsStatus ((s.hub.quiet.pdRx p f false).ppsBlock p)))) ∧
      (∀ (f : PdFrame), exec (.getSinkCapExtendedReceived p f) s =
        .next (s.put ((s.hub.quiet.pdRx p f false).pdAnswerExt p (!isD p) .sinkCapsExt (block 12 21 []))))))

/-- R74, R75, R83, R86: negotiation. A Request that is valid and fits is accepted, with the charge raised at once; an invalid one is
rejected and counted; the sink's Request and its end; a contract in force. -/
def Obligations.Negotiation : Prop :=
  (∀ (s : State) (p : PodIx) (f : PdFrame), s.hears p →
    let g := s.hub.quiet.pdRx p f false
    (∀ (r : PdRdo) (k : Contract) (c : Nat), (s.hub.pde p).roleSrc = true → (s.hub.pde p).state = .negotiate →
      requestOf (s.hub.pde p).offers r = (some k, c) → c ≤ (g.budIdle.cons (podPath p)).charge →
      exec (.pdRequestReceived p f r) s = .next (s.put
        ((((g.budIdle.budSetCharge (podPath p) (max (g.budIdle.cons (podPath p)).charge k.charge)).modVb (podPath p) fun e =>
          { e with iC := max e.iC k.i }).modPde p fun e =>
          { e with state := .transition, await := .nothing, pending := some k, converterAsked := false
                   eprAsked := r.eprCap }).pdCtl p .accept))) ∧
    (∀ (r : PdRdo) (c : Nat), (s.hub.pde p).roleSrc = true → (s.hub.pde p).state = .negotiate →
      requestOf (s.hub.pde p).offers r = (none, c) →
      exec (.pdRequestReceived p f r) s = .next (s.put
        ((((((((g.pdCtl p .reject).pdEvt p 6).bump (cntPd p 9)).raise (srcPd p) 0x2080 1 (1 :: le16 c)).pdViolNote p 9
          f.header.toNat)).modPde p fun e => { e with resend := e.resend || !e.explicit }).pdReady p))) ∧
    (∀ objs, (s.hub.pde p).roleSrc = false →
      exec (.sourceCapabilitiesReceived p f objs) s = .next (s.put (g.snkSelect p objs))) ∧
    (∀ objs, (s.hub.pde p).roleSrc = true →
      exec (.sourceCapabilitiesReceived p f objs) s = .next (s.put (g.pdViolSoft p 2 f.header.toNat))) ∧
    ((s.hub.pde p).await = .accept → s.hub.vbOn (podPath p) = false →
      exec (.acceptReceived p f) s = .next (s.put (g.modPde p fun e => { e with state := .transition, await := .nothing }))) ∧
    (∀ c, (s.hub.pde p).await = .accept → s.hub.vbOn (podPath p) = true → (s.hub.vb (podPath p)).sinkDir = true →
      (s.hub.pde p).pending = some c →
      exec (.acceptReceived p f) s = .next (s.put
        ((g.modPde p fun e => { e with state := .transition, await := .nothing }).vbSetTarget (podPath p) c.v))) ∧
    ((s.hub.pde p).await = .accept →
      exec (.rejectReceived p f) s = .next (s.put ((g.modPde p fun e => { e with pending := none }).pdBack p)) ∧
      exec (.waitReceived p f) s = .next (s.put ((g.modPde p fun e => { e with pending := none }).pdBack p)) ∧
      exec (.notSupportedReceived p f) s = .next (s.put ((g.modPde p fun e => { e with pending := none }).pdBack p))) ∧
    ((s.hub.pde p).await = .vconnSwap → (s.hub.pde p).waits < 3 →
      exec (.waitReceived p f) s = .next (s.put ((g.modPde p fun e =>
        { e with waits := e.waits + 1, vcWaiting := true, swap := .idle, swapOwn := false }).pdReady p))) ∧
    ((s.hub.pde p).await = .vconnSwap → 3 ≤ (s.hub.pde p).waits →
      exec (.waitReceived p f) s = .next (s.put (g.vconnRefused p))) ∧
    ((s.hub.pde p).swap ≠ .awaitPsRdy → (s.hub.pde p).roleSrc = false → (s.hub.pde p).state = .transition →
      exec (.psRdyReceived p f) s = .next (s.put (g.snkPsRdy p))) ∧
    ((s.hub.pde p).swap = .awaitPsRdy →
      exec (.psRdyReceived p f) s = .next (s.put (g.vconnDone p false))) ∧
    (∀ c, (s.hub.pde p).pending = some c → (s.hub.pde p).state = .transition → (s.hub.pde p).converterAsked = false →
      (s.hub.pde p).roleSrc = true → c.v = (s.hub.vb (podPath p)).vTgt → c.ctype ≠ 2 → (s.hub.pde p).contract.ctype ≠ 2 →
      exec (.srcTransitionExpiry p) s = .next (s.put (s.hub.quiet.pdPsRdy p))) ∧
    (∀ c, (s.hub.pde p).pending = some c → (s.hub.pde p).state = .transition → (s.hub.pde p).converterAsked = false →
      (s.hub.pde p).roleSrc = true → c.v ≠ (s.hub.vb (podPath p)).vTgt → c.ctype ≠ 2 →
      exec (.srcTransitionExpiry p) s = .next (s.put (((s.hub.quiet.modPde p fun e =>
        { e with converterAsked := true }).vbSetTarget (podPath p) c.v).rlRequest (pathOwner (podPath p)) (.voltage c.v))))) ∧
  (∀ (s : State),
    (∀ (p : PodIx), s.hears p →
      (∀ (f : PdFrame) (r : PdRdo), exec (.pdRequestReceived p f r) s =
        .next (s.put ((s.hub.quiet.pdRx p f false).pdRequest p f r))) ∧
      (∀ (f : PdFrame), exec (.acceptReceived p f) s = .next (s.put ((s.hub.quiet.pdRx p f false).pdAccepted p f))) ∧
      (∀ (f : PdFrame), exec (.rejectReceived p f) s = .next (s.put ((s.hub.quiet.pdRx p f false).pdRefused p f false))) ∧
      (∀ (f : PdFrame), exec (.waitReceived p f) s = .next (s.put ((s.hub.quiet.pdRx p f false).pdWaited p f))) ∧
      (∀ (f : PdFrame), exec (.notSupportedReceived p f) s = .next (s.put ((s.hub.quiet.pdRx p f false).pdRefused p f true))) ∧
      (∀ (f : PdFrame), exec (.psRdyReceived p f) s = .next (s.put ((s.hub.quiet.pdRx p f false).psRdyReceived p f))) ∧
      (∀ (f : PdFrame), exec (.softResetReceived p f) s = .next (s.put ((s.hub.quiet.pdRx p f false).softReceived p)))))

/-- R19, R75 to R80, R82, R85, R89, R91, R94, R95: the PD timers, each where its wait is under way. -/
def Obligations.PdTimers : Prop :=
  (∀ (s : State) (p : PodIx), s.works (podDom p) →
    ((s.hub.pde p).state = .transition → (s.hub.pde p).converterAsked = true →
      exec (.regulatorConfirmTimeout p) s = .next (s.put ((s.hub.quiet.pdEvt p 19).pdHardReset p 0x12 2 true))) ∧
    ((s.hub.pde p).reoffer = true → (s.hub.pde p).state = .ready → (s.hub.pde p).roleSrc = true →
      exec (.reofferTimer p) s = .next (s.put (s.hub.quiet.pdSendCaps p))) ∧
    ((s.hub.pde p).sinkTxNg = true → (s.hub.pde p).state = .ready → (s.hub.pde p).pendAlert = false → (s.hub.pde p).pendCaps = true →
      s.hub.authOpen p = false →
      exec (.sinkTxExpiry p) s = .next (s.put ((s.hub.quiet.vconnPlan p).pdOffer p))) ∧
    ((s.hub.pde p).contract.ctype = 2 → (s.hub.pde p).roleSrc = true →
      exec (.ppsTimeout p) s = .next (s.put (s.hub.quiet.pdViolHard p 7 0))) ∧
    ((s.hub.pde p).eprMode = true → exec (.eprKeepaliveTimeout p) s = .next (s.put (s.hub.quiet.pdViolHard p 6 0))) ∧
    ((s.hub.pde p).swap = .awaitPsRdy → exec (.vconnSwapTimeout p) s = .next (s.put (s.hub.quiet.pdViolHard p 8 0))) ∧
    ((s.hub.pde p).await = .softReset → exec (.softResetAcceptTimeout p) s = .next (s.put (s.hub.quiet.pdViolHard p 4 0))) ∧
    ((s.hub.pde p).await = .request → (s.hub.pde p).contract.ctype ≠ 0 →
      exec (.noRequestTimeout p) s = .next (s.put (s.hub.quiet.pdViolHard p 5 0))) ∧
    ((s.hub.pde p).state = .sendCaps → (s.hub.pde p).madeExplicit = false → (s.hub.pde p).capsCount < 50 →
      exec (.sendSourceCapTimer p) s = .next (s.put (s.hub.quiet.pdSendCaps p))) ∧
    ((s.hub.pde p).state = .sendCaps → (s.hub.pde p).madeExplicit = false → 50 ≤ (s.hub.pde p).capsCount →
      exec (.sendSourceCapTimer p) s = .next (s.put (s.hub.quiet.modPde p fun e => { e with state := .noPd, await := .nothing }))) ∧
    ((s.hub.pde p).state = .hardReset →
      exec (.psHardResetExpiry p) s = .next (s.put
        ((s.hub.quiet.modPde p fun e => { e with state := .hardResetRecover }).vbRequestOff (podPath p)))) ∧
    ((s.hub.pde p).roleSrc = true → (s.hub.tc p).srcAttached = true → (s.hub.pde p).state = .hardResetRecover →
      s.hub.quiet.consShed (podPath p) = false →
      exec (.srcRecoverExpiry p) s = .next (s.put (s.hub.quiet.pdRestart p))) ∧
    ((s.hub.tc p).state = .attachedSnk → (s.hub.pde p).state = .hardResetRecover →
      exec (.sinkVbusReturnTimeout p) s = .next (s.put (s.hub.quiet.typecDetach p 0 0 none))) ∧
    ((s.hub.pde p).contract.ctype ≠ 0 →
      exec (.violQuietExpiry p) s = .next (s.put (s.hub.quiet.modPde p fun e => { e with srRun := 0, hrRun := 0 }))) ∧
    (∀ f, (s.hub.pde p).state ≠ .disabled →
      exec (.pdCrcError p f) s = .next (s.put
        ((s.hub.quiet.bump (cntPd p 2)).captureMsg p 0x24 0 false f.retries f.header f.words))) ∧
    (s.hub.pdActive p = true → exec (.transmitFailure p 13) s = .next (s.put ((s.hub.quiet.captureFail p 13).pdViolHard p 4 13))) ∧
    (s.hub.pdActive p = true → exec (.transmitFailure p 4) s = .next (s.put ((s.hub.quiet.captureFail p 4).pdViolSoft p 3 4))) ∧
    ((s.hub.pde p).state ≠ .disabled → (s.hub.tc p).attached = true →
      exec (.hardResetReceived p) s = .next (s.put
        (((((s.hub.quiet.captureReset p 0x22).pdResetAll p false 2).modPde p fun e =>
          { e with hrRun := min 15 (e.hrRun + 1) }).pdResetNote p false
            ((((s.hub.quiet.captureReset p 0x22).pdResetAll p false 2).modPde p fun e =>
              { e with hrRun := min 15 (e.hrRun + 1) }).pde p).lastViol).pdRunLimit p))) ∧
    (∀ u, podUp p = some u → (s.hub.pde p).await = .drSwap →
      exec (.drSwapResponseTimeout p) s = .next (s.put
        (((s.hub.quiet.modPde p fun e => { e with drWaits := 0 }).upRefused u).pdReady p))) ∧
    (∀ u, podUp p = some u → (s.hub.pde p).drWaiting = true → (s.hub.pde p).state = .ready → (s.hub.pde p).roleSrc = true →
      (s.hub.pde p).dfp = true → (s.hub.pde p).contract.ctype ≠ 0 → s.hub.upsel.refused[u] = false →
      exec (.drSwapWaitRetry p) s = .next (s.put
        ((s.hub.quiet.modPde p fun e => { e with drWaiting := false, state := .drSwap, await := .drSwap }).pdCtl p .drSwap)))) ∧
  (∀ (s : State),
    (∀ (p : PodIx), s.works (podDom p) →
      exec (.drSwapResponseTimeout p) s = .next (s.put (s.hub.quiet.drSwapNo p)) ∧
      exec (.srcTransitionExpiry p) s = .next (s.put (s.hub.quiet.pdSrcTransition p)) ∧
      exec (.sinkTxExpiry p) s = .next (s.put (s.hub.quiet.pdSinkTx p)) ∧
      exec (.hardResetReceived p) s = .next (s.put (s.hub.quiet.pdResetReceived p)) ∧
      exec (.psHardResetExpiry p) s = .next (s.put (s.hub.quiet.pdPsReset p)) ∧
      exec (.srcRecoverExpiry p) s = .next (s.put (s.hub.quiet.pdSrcRecover p)) ∧
      exec (.sendSourceCapTimer p) s = .next (s.put (s.hub.quiet.capsTimer p)) ∧
      (∀ (header : BitVec 16), exec (.transmitFailure p header) s = .next (s.put (s.hub.quiet.pdTxFail p header)))))

/-- R84 to R87, R92, R93: cable discovery, VCONN swaps and the cascade probe. -/
def Obligations.CableVconnProbe : Prop :=
  (∀ (s : State) (p : PodIx) (f : PdFrame), s.works (podDom p) → (s.hub.pde p).state ≠ .disabled →
    let g := s.hub.quiet.pdRx p f false
    ((s.hub.pde p).roleSrc = true → (s.hub.pde p).discDone = false → (s.hub.pde p).cable = .idle → (s.hub.tc p).vconnOn = true →
      exec (.cableDiscoveryStart p) s = .next (s.put ((s.hub.quiet.modPde p fun e =>
        { e with attempts := e.attempts + 1, cable := .asked }).pdSend p .vdm true [s.hub.quiet.vdmHead p 0xFF00 0 0 1]))) ∧
    ((s.hub.pde p).cable = .silent → (s.hub.pde p).attempts ≤ s.hub.cblRetry p → (s.hub.pde p).roleSrc = true →
      (s.hub.tc p).vconnOn = true →
      exec (.cableDiscoveryRetry p) s = .next (s.put ((s.hub.quiet.modPde p fun e => { e with pendCable := true }).pdTxPlan p))) ∧
    ((s.hub.pde p).cable = .busy → (s.hub.tc p).vconnOn = true → (s.hub.pde p).state = .cableDisc →
      exec (.cableDiscoveryRetry p) s = .next (s.put ((s.hub.quiet.modPde p fun e =>
        { e with attempts := e.attempts + 1, cable := .asked }).pdSend p .vdm true [s.hub.quiet.vdmHead p 0xFF00 0 0 1]))) ∧
    ((s.hub.pde p).cable = .asked → (s.hub.pde p).state = .cableDisc → (s.hub.pde p).discDone = false →
      exec (.cableDiscoveryTimeout p) s = .next (s.put
        ((s.hub.quiet.modPde p fun e => { e with discDone := true, cable := .silent }).pdSendCaps p))) ∧
    ((s.hub.pde p).cable = .asked → (s.hub.pde p).discDone = false →
      exec (.cableIdentityResponse p f .busy) s = .next (s.put ((s.hub.quiet.pdRx p f true).modPde p fun e =>
        { e with attempts := e.attempts - 1, cable := .busy }))) ∧
    ((s.hub.pde p).cable = .asked → ∀ five v epr act, exec (.cableIdentityResponse p f (.ack five v epr act)) s = .next (s.put
      (let k := (s.hub.quiet.pdRx p f true).modPde p fun e =>
         { e with emarked := true, discDone := true, iCbl := if five then 2 else 1, vCbl := v.val, eprCable := epr, activeCbl := act }
       ((k.pdEvt p 15).raise (srcPd p) 0x2040 1 (le32 (k.pde p).cableWord)).cableEnded p .answered true (s.hub.pde p).discDone))) ∧
    (s.hub.pdActive p = true → (s.hub.pde p).state = .ready → s.hub.vconnSwapEn p = true → (s.hub.tc p).vconnOc = false →
      exec (.vconnSwapReceived p f) s = .next (s.put
        (((g.modPde p fun e => { e with swap := .byPartner, swapOwn := false }).pdCtl p .accept).vconnRun p))) ∧
    (s.hub.pdActive p = true → (s.hub.pde p).state = .ready → s.hub.vconnSwapEn p = false →
      exec (.vconnSwapReceived p f) s = .next (s.put (g.pdCtl p .reject))) ∧
    ((s.hub.pde p).state = .ready → (s.hub.pde p).pendVconn = true → (s.hub.pde p).roleSrc = false →
      exec (.vconnSwapSend p) s = .next (s.put ((s.hub.quiet.modPde p fun e => { e with pendVconn := false }).vconnNow p))) ∧
    ((s.hub.pde p).vcWaiting = true →
      exec (.vconnSwapWaitRetry p) s = .next (s.put ((s.hub.quiet.modPde p fun e => { e with vcWaiting := false }).vconnNow p))) ∧
    ((s.hub.pde p).vconnRetry = true →
      exec (.vconnCollisionRetry p) s = .next (s.put
        ((s.hub.quiet.modPde p fun e => { e with vconnRetry := false, vcRetried := true }).vconnNow p))) ∧
    ((s.hub.pde p).state = .ready → (s.hub.pde p).roleSrc = false → s.hub.vconnDue p = true →
      s.hub.quiet.vconnNow p = (s.hub.quiet.modPde p fun e =>
        { e with state := .vconnSwap, await := .vconnSwap, swap := .byPod, swapOwn := true
                 vconnAsked := e.vconnAsked || !e.cmdVconn, vcTaken := e.vcTaken || e.cmdVconn, pendVconn := false, vcWaiting := false }).pdCtl p .vconnSwap) ∧
    (s.hub.pdActive p = true → (s.hub.pde p).dfp = true → ∀ svid mode,
      exec (.vdmEnterModeReceived p f svid mode) s = .next (s.put (g.vdmSend p svid.toNat mode 2 4 []))) ∧
    (s.hub.pdActive p = true → (s.hub.pde p).dfp = false → s.hub.casEn p = true → g.csbAccepts p = true →
      exec (.vdmEnterModeReceived p f 0x2F7A 1) s = .next (s.put
        (((g.modPde p fun e => { e with enterAcked := true }).csbSetRole 1).vdmSend p 0x2F7A 1 1 4 []))) ∧
    ((s.hub.pde p).enterAcked = true →
      exec (.enterModeAckGoodcrc p) s = .next (s.put (s.hub.quiet.pdCasEnter p))) ∧
    (s.hub.pdActive p = true → (s.hub.pde p).state = .vdmDisc → (s.hub.pde p).probe = .identity →
      exec (.vdmResponseReceived p f (.identity true)) s = .next (s.put
        ((g.modPde p fun e => { e with probe := .svids, busy := 0 }).probeSend p))) ∧
    (s.hub.pdActive p = true → (s.hub.pde p).state = .vdmDisc → (s.hub.pde p).probe = .enter →
      exec (.vdmResponseReceived p f .entered) s = .next (s.put ((g.pdCasEnter p).probeEnd p))) ∧
    (0 < (s.hub.pde p).busy → (s.hub.pde p).probe = .svids → (s.hub.pde p).state = .ready → (s.hub.pde p).probeDue = false →
      exec (.vdmBusyRetry p) s = .next (s.put
        ((s.hub.quiet.modPde p fun e => { e with state := .vdmDisc, probeDue := false }).vdmSend p 0xFF00 0 0 2 []))) ∧
    ((s.hub.pde p).probe = .svids → (s.hub.pde p).state = .vdmDisc →
      exec (.vdmResponseTimeout p) s = .next (s.put
        ((s.hub.quiet.modPde p fun e => { e with probe := .ended, vdo := none, busy := 0 }).pdReady p)))) ∧
  (∀ (s : State),
    (∀ (p : PodIx), s.works (podDom p) →
      exec (.cableDiscoveryStart p) s = .next (s.put (s.hub.quiet.cableFirst p)) ∧
      exec (.cableDiscoveryRetry p) s = .next (s.put (s.hub.quiet.cableAgain p)) ∧
      exec (.vdmBusyRetry p) s = .next (s.put (s.hub.quiet.probeRetry p)) ∧
      ((s.hub.pde p).state ≠ .disabled → ∀ (f : PdFrame) (a : CableAnswer),
        exec (.cableIdentityResponse p f a) s = .next (s.put ((s.hub.quiet.pdRx p f true).cableAnswer p a))) ∧
      ((s.hub.pde p).cable = .asked → (s.hub.pde p).state ≠ .disabled →
        exec (.cableDiscoveryTimeout p) s = .next (s.put
          (s.hub.quiet.cableEnded p .silent false (s.hub.pde p).discDone))) ∧
      ((s.hub.pde p).probe ≠ .idle → (s.hub.pde p).probe ≠ .ended → (s.hub.pde p).probeWaits = false →
        exec (.vdmResponseTimeout p) s = .next (s.put (s.hub.quiet.probeEnd p)))) ∧
    (∀ (p : PodIx), s.hears p →
      (∀ (f : PdFrame), exec (.vconnSwapReceived p f) s = .next (s.put ((s.hub.quiet.pdRx p f false).vconnReceived p))) ∧
      (∀ (f : PdFrame) (svid : BitVec 16) (mode : Nat), exec (.vdmEnterModeReceived p f svid mode) s =
        .next (s.put ((s.hub.quiet.pdRx p f false).enterModeReceived p svid.toNat mode))) ∧
      (∀ (f : PdFrame) (a : VdmAnswer), exec (.vdmResponseReceived p f a) s =
        .next (s.put ((s.hub.quiet.pdRx p f false).probeAnswer p a)))))

/-- R82, R87, R93, R94, R99, R109: the command bits of `POD_p_PDE_CMD`, and the capture FIFO's read and flush. -/
def Obligations.PdCommands : Prop :=
  (∀ (s : State) (m : Master) (p : PodIx), s.takes m (podBase p + 0x22C) false →
    let g := s.hub.quiet.written (podBase p + 0x22C)
    ((s.hub.pde p).roleSrc = true → (g.tc p).attached = true → (g.pde p).state = .ready →
      exec (.sendCaps m p) s = .next (s.put (g.pdSendCaps p))) ∧
    (g.pdActive p = true → exec (.softRst m p) s = .next (s.put (g.pdSoftReset p))) ∧
    (g.pdActive p = true → exec (.hardRst m p) s = .next (s.put (g.pdHardReset p 0x10 2 true))) ∧
    (g.pdActive p = false →
      exec (.softRst m p) s = .next (s.put g) ∧ exec (.hardRst m p) s = .next (s.put g)) ∧
    ((g.pde p).state = .ready → (g.tc p).vconnOc = false →
      exec (.vconnSwap m p) s = .next (s.put ((g.modPde p fun e => { e with cmdVconn := true, vcTaken := false }).vconnNow p))) ∧
    ((g.pde p).casMode = true → (g.pde p).dfp = true →
      exec (.casExit m p) s = .next (s.put ((g.vdmSend p 0x2F7A 1 0 5 []).pdCasLeave p 1))) ∧
    ((g.pde p).state = .ready → (g.pde p).eprMode = true → (g.pde p).contract.ctype = 3 →
      exec (.eprExit m p) s = .next (s.put
        ((g.modPde p fun e => { e with eprLeaving := true, pendCaps := true }).pdTxPlan p))) ∧
    (∀ w ws rest, (s.hub.capture p).items = (w :: ws) :: rest →
      exec (.capDataRead m p) s = .next (s.put ((s.hub.quiet.modCapture p fun q =>
        { q with items := if ws.isEmpty then rest else ws :: rest }).emit (.read w)))) ∧
    ((s.hub.capture p).items = [] → exec (.capDataRead m p) s = .next (s.put (s.hub.quiet.emit (.read pip)))) ∧
    exec (.capFlush m p 0) s = .next (s.put
      ((s.hub.quiet.written (podBase p + 0x800)).modCapture p fun q => { q with items := [] }))) ∧
  (∀ (s : State),
    (∀ (m : Master) (p : PodIx), s.takes m (podBase p + 0x22C) false →
      exec (.sendCaps m p) s = .next (s.put ((s.hub.quiet.written (podBase p + 0x22C)).cmdSendCaps p)) ∧
      exec (.vconnSwap m p) s = .next (s.put ((s.hub.quiet.written (podBase p + 0x22C)).cmdVconnSwap p)) ∧
      exec (.casExit m p) s = .next (s.put ((s.hub.quiet.written (podBase p + 0x22C)).pdCasExit p 1)) ∧
      exec (.eprExit m p) s = .next (s.put ((s.hub.quiet.written (podBase p + 0x22C)).cmdEprExit p))) ∧
    (∀ (m : Master) (p : PodIx), s.takes m (podBase p + 0x800) false →
      (∀ (rest : Nat), exec (.capFlush m p rest) s =
        .next (s.put ((s.hub.quiet.written (podBase p + 0x800)).captureFlush p rest)))) ∧
    (∀ (m : Master) (p : PodIx), s.hub.held = .none →
      exec (.capDataRead m p) s = .next (s.put (s.hub.quiet.readAcc m (podBase p + 0x808) fun h =>
        (h.capturePop p).1.emit (.read (h.capturePop p).2)))))

/-- R117, R120, R123, R130: the timers and comparators that move a sequencer on; the end of an outlet's ramp, with its event, counter and
record 0x3001. R125, R126, R146: one step of the thermal model in VB.OFF before its seed: the estimate stands 25 degrees above the board,
and every tenth step shows the measurements with a new sequence number. -/
def Obligations.SequencerSteps : Prop :=
  (∀ (s : State) (x : PathIx) (above below below95 : Bool), s.works (pathDom x) →
    ((s.hub.vb x).state = .windowWait → (s.hub.vb x).sinkDir = false →
      exec (.windowQualified x) s = .next (s.put (s.hub.quiet.modVb x fun e => { e with state := .insertDelay }))) ∧
    ((s.hub.vb x).state = .windowWait → (s.hub.vb x).sinkDir = true →
      exec (.windowQualified x) s = .next (s.put (s.hub.quiet.modVb x fun e =>
        { e with state := .ramp, gmain := true, gpre := false, low := false }))) ∧
    ((s.hub.vb x).state = .insertDelay →
      exec (.tInsExpiry x) s = .next (s.put (s.hub.quiet.modVb x fun e =>
        { e with state := .precharge, gpre := true, low := false }))) ∧
    ((s.hub.vb x).state = .precharge → (s.hub.vb x).sinkDir = false →
      exec (.prechargeReached x) s = .next (s.put (s.hub.quiet.modVb x fun e =>
        { e with state := .ramp, gmain := true, gpre := true, low := false }))) ∧
    ((s.hub.vb x).state = .on →
      exec (.tStableExpiry x) s = .next (s.put (s.hub.quiet.modVb x fun e => { e with retryCnt := 0 }))) ∧
    ((s.hub.vb x).state = .on ∨ (s.hub.vb x).state = .ramp →
      exec (.currentAboveILim x above) s = .next (s.put (s.hub.quiet.modVb x fun e => { e with ocTiming := above }))) ∧
    ((s.hub.vb x).state = .on →
      exec (.vbusOutsideWindow x below below95) s = .next (s.put
        ((s.hub.quiet.modVb x fun e => { e with below := below, pg := e.enhanced && !below95 }).uvEval x))) ∧
    ((s.hub.vb x).transition = true →
      exec (.voltageTransitionEnd x) s = .next (s.put
        ((s.hub.quiet.modVb x fun e => { e with transition := false, dsch := false, vOld := e.vTgt }).uvEval x))) ∧
    ((s.hub.vb x).retryCnt < s.hub.retryMax x → (s.hub.vb x).state = .tripped →
      exec (.gatesOffConfirmed x) s = .next (s.put (s.hub.quiet.modVb x fun e => { e with state := .retryWait }))) ∧
    ((s.hub.vb x).state = .retryWait →
      exec (.backoffExpiry x) s = .next (s.put (s.hub.quiet.modVb x fun e =>
        { e with state := .coolDown, retryCnt := e.retryCnt + 1, retrying := e.request }))) ∧
    ((s.hub.vb x).state = .coolDown → (s.hub.vb x).seeded = false → (s.hub.vb x).request = false →
      exec (.coolDownEnd x) s = .next (s.put (s.hub.quiet.vbToOff x))) ∧
    (s.hub.dschOn x = true → (s.hub.vb x).low = false →
      exec (.dischargeTimeout x) s = .next (s.put
        (((s.hub.quiet.vbEvt x 5).bump (cntVb x 6)).raise (srcVb x) 0x3005 3 (le16 (s.hub.vb x).vbusV)))) ∧
    ((s.hub.vb x).state = .ramp → pathPod x = none →
      exec (.rampComplete x) s = .next (s.put
        ((((s.hub.quiet.modVb x fun e =>
          { e with state := .on, gpre := false, gmain := true, enhanced := true, pg := true, onSince := s.hub.clk
                   low := false }).vbEvt x 3).bump (cntVb x 0)).raise (srcVb x) 0x3001 1
          (le16 (s.hub.vb x).vTgt ++ le16 (min 4095 (s.hub.vbILim x)) ++ le16 ((s.hub.clk - (s.hub.vb x).attemptAt) / 10000)
            ++ [(s.hub.vb x).retryCnt])))) ∧
    (∀ (i : Int) (vbus vsrc : Nat) (die : Int) (vin : Nat),
      (s.hub.vb x).state = .off → (s.hub.vb x).seeded = false → s.hub.btSrc x = false → (s.hub.vb x).transition = false →
      ((s.hub.vb x).measDiv = 9 →
        exec (.thermalModelUpdate x i vbus vsrc ⟨die, vin⟩) s = .next (s.put
          (((((s.hub.quiet.budVin vin).modVb x fun e =>
            { e with tEst := die * 1000000 + 25000000, measDiv := 0, vbusV := vbus, iMeas := s.hub.senseCurrent x i
                     tEstMeas := die * 1000000 + 25000000, vsrcV := vsrc
                     measSeq := (e.measSeq + 1) % 128 }).evt (vbBase x + 0x24) 31).evt (vbBase x + 0x28) 31).modVb x fun e =>
            { e with vbusNow := vbus, low := decide (vbus < 80), dsch := e.dsch && decide (80 ≤ vbus) }))) ∧
      ((s.hub.vb x).measDiv < 9 →
        exec (.thermalModelUpdate x i vbus vsrc ⟨die, vin⟩) s = .next (s.put ((s.hub.quiet.budVin vin).modVb x fun e =>
          { e with tEst := die * 1000000 + 25000000, measDiv := e.measDiv + 1, vbusNow := vbus, low := decide (vbus < 80)
                   dsch := e.dsch && decide (80 ≤ vbus) }))))) ∧
  (∀ (s : State),
    (∀ (x : PathIx), s.works (pathDom x) →
      exec (.windowQualified x) s = .next (s.put (s.hub.quiet.vbWindowOk x)) ∧
      exec (.tInsExpiry x) s = .next (s.put (s.hub.quiet.vbTIns x)) ∧
      exec (.prechargeReached x) s = .next (s.put (s.hub.quiet.vbPrecharged x)) ∧
      exec (.tStableExpiry x) s = .next (s.put (s.hub.quiet.vbStable x)) ∧
      (∀ (above : Bool), exec (.currentAboveILim x above) s = .next (s.put (s.hub.quiet.vbCurrent x above))) ∧
      (∀ (below : Bool) (below95 : Bool), exec (.vbusOutsideWindow x below below95) s =
        .next (s.put (s.hub.quiet.vbWindowChange x below below95))) ∧
      exec (.voltageTransitionEnd x) s = .next (s.put (s.hub.quiet.vbTransitionEnd x)) ∧
      exec (.gatesOffConfirmed x) s = .next (s.put (s.hub.quiet.vbGatesOff x)) ∧
      exec (.backoffExpiry x) s = .next (s.put (s.hub.quiet.vbBackoff x)) ∧
      exec (.coolDownEnd x) s = .next (s.put (s.hub.quiet.vbCoolEnd x)) ∧
      exec (.dischargeTimeout x) s = .next (s.put (s.hub.quiet.vbDschTimeout x)) ∧
      exec (.rampComplete x) s = .next (s.put (s.hub.quiet.vbRampDone x)) ∧
      (∀ (i5 : Int) (vbus : Nat) (vsrc : Nat) (dieTemp : Int) (vin : Nat), exec (.thermalModelUpdate x i5 vbus vsrc ⟨dieTemp, vin⟩) s =
        .next (s.put (s.hub.quiet.vbThermal x i5 vbus vsrc dieTemp vin)))))

/-- R117, R119, R122, R124, R127: which trip each timer and comparator makes, by its code in `LAST_TRIP`; and what a trip does. It leaves both
gates of the path off, the state TRIPPED, its code and its time for the floor; the discharge is on where it is enabled and VBUS is
not below 0.8 V. An outlet's trip changes no other path and no pod. -/
def Obligations.Trips : Prop :=
  (∀ (s : State) (x : PathIx), s.works (pathDom x) →
      ((s.hub.vb x).state = .check0v → exec (.t0vExpiry x) s = .next (s.put (s.hub.quiet.vbTrip x 11))) ∧
      ((s.hub.vb x).state = .windowWait → exec (.tWinExpiry x) s = .next (s.put (s.hub.quiet.vbTrip x 10))) ∧
      ((s.hub.vb x).state = .precharge → exec (.tPreExpiry x) s = .next (s.put (s.hub.quiet.vbTrip x 4))) ∧
      ((s.hub.vb x).state = .ramp → exec (.tRampExpiry x) s = .next (s.put (s.hub.quiet.vbTrip x 6))) ∧
      ((s.hub.vb x).state = .ramp → exec (.fastTrip x) s = .next (s.put (s.hub.quiet.vbTrip x 1))) ∧
      ((s.hub.vb x).state = .on → exec (.fastTrip x) s = .next (s.put (s.hub.quiet.vbTrip x 2))) ∧
      ((s.hub.vb x).state = .on → exec (.overcurrentTrip x) s = .next (s.put (s.hub.quiet.vbTrip x 5))) ∧
      ((s.hub.vb x).state = .on → exec (.ovTrip x) s = .next (s.put (s.hub.quiet.vbTrip x 7))) ∧
      ((s.hub.vb x).state = .on → s.hub.uvSuppressed x = false → exec (.uvTrip x) s = .next (s.put (s.hub.quiet.vbTrip x 9))) ∧
      ((s.hub.vb x).state = .ramp → exec (.reverseTrip x) s = .next (s.put (s.hub.quiet.vbTrip x 8)))) ∧
  (∀ (h : Hub) (x : PathIx) (code : Nat), pathPod x = none →
      ((h.vbTrip x code).vb x).state = .tripped ∧ ((h.vbTrip x code).vb x).gpre = false ∧ ((h.vbTrip x code).vb x).gmain = false ∧
      ((h.vbTrip x code).vb x).enhanced = false ∧ ((h.vbTrip x code).vb x).pg = false ∧
      ((h.vbTrip x code).vb x).lastTrip = code ∧ ((h.vbTrip x code).vb x).tripAt = some h.clk ∧
      ((h.vbTrip x code).vb x).retryCnt = (h.vb x).retryCnt ∧
      ((h.vbTrip x code).vb x).dsch = (!(h.vb x).low) ∧ (h.vbTrip x code).dschOn x = (h.dschEn x && !(h.vb x).low) ∧
      ((h.vbTrip x code).vb x).backoff = 100 * ticksPerMs * 2 ^ (h.vb x).retryCnt ∧
      ((h.vbTrip x code).vb x).floor = h.tFloor x * 100 * ticksPerMs ∧
      (∀ y, y ≠ x → (h.vbTrip x code).vb y = h.vb y) ∧ (h.vbTrip x code).tcs = h.tcs ∧ (h.vbTrip x code).pdes = h.pdes ∧
      (h.vbTrip x code).outlets = h.outlets ∧ (h.vbTrip x code).active = h.active) ∧
  (∀ (s : State),
    (∀ (x : PathIx), s.works (pathDom x) →
      exec (.t0vExpiry x) s = .next (s.put (s.hub.quiet.vbT0v x)) ∧
      exec (.tWinExpiry x) s = .next (s.put (s.hub.quiet.vbTWin x)) ∧
      exec (.tPreExpiry x) s = .next (s.put (s.hub.quiet.vbTPre x)) ∧
      exec (.tRampExpiry x) s = .next (s.put (s.hub.quiet.vbTRamp x)) ∧
      exec (.fastTrip x) s = .next (s.put (s.hub.quiet.vbFast x)) ∧
      exec (.overcurrentTrip x) s = .next (s.put (s.hub.quiet.vbOver x)) ∧
      exec (.ovTrip x) s = .next (s.put (s.hub.quiet.vbOv x)) ∧
      exec (.uvTrip x) s = .next (s.put (s.hub.quiet.vbUv x)) ∧
      exec (.reverseTrip x) s = .next (s.put (s.hub.quiet.vbReverse x))))

/-- R130, R132: LATCH_CLR leaves LATCHED_OFF for COOL_DOWN and is ignored in every other state; RETRY_CLR clears the retry count;
R134, R150: the outlet's presence pin. -/
def Obligations.PathCommands : Prop :=
  (∀ (s : State) (m : Master) (x : PathIx) (o : OutIx) (pin : Bool),
    (s.takes m (vbBase x + 0x1C) false → ((s.hub.quiet.written (vbBase x + 0x1C)).vb x).state = .latchedOff → pathOut x = none →
      exec (.latchClr m x) s = .next (s.put (((s.hub.quiet.written (vbBase x + 0x1C)).modVb x fun e =>
        { e with state := .coolDown, retryCnt := 0, retrying := false }).raise (srcVb x) 0x3004 1 [2]))) ∧
    (s.takes m (vbBase x + 0x1C) false → ((s.hub.quiet.written (vbBase x + 0x1C)).vb x).state ≠ .latchedOff →
      exec (.latchClr m x) s = .next (s.put (s.hub.quiet.written (vbBase x + 0x1C)))) ∧
    (s.takes m (vbBase x + 0x1C) false →
      exec (.retryClr m x) s = .next (s.put ((s.hub.quiet.written (vbBase x + 0x1C)).modVb x fun e =>
        { e with retryCnt := 0 }))) ∧
    (s.hub.held = .none → s.hub.domOn domOut = true → s.hub.presPol o = true → s.hub.outEn o = false →
      exec (.outletPresenceChange o true) s = .next (s.put
        (((s.hub.quiet.modOut o fun q => { q with pres := true, missed := false }).vbRequestOff (outPath o)).modOut o fun q =>
          { q with budgetWait := false }))) ∧
    (s.hub.held = .none → s.hub.domRuns domOut = false →
      exec (.outletPresenceChange o pin) s = .next (s.put
        ((s.hub.quiet.modOut o fun q => { q with pres := if s.hub.presPol o then pin else !pin, missed := true }).wakeSource 22)))) ∧
  (∀ (s : State),
    (∀ (m : Master) (x : PathIx), s.takes m (vbBase x + 0x1C) false →
      exec (.latchClr m x) s = .next (s.put ((s.hub.quiet.written (vbBase x + 0x1C)).vbLatchClr x)) ∧
      exec (.retryClr m x) s = .next (s.put ((s.hub.quiet.written (vbBase x + 0x1C)).vbRetryClr x))) ∧
    (s.hub.held = .none →
      (∀ (o : OutIx) (pin : Bool), exec (.outletPresenceChange o pin) s = .next (s.put (s.hub.quiet.outletPresence o pin)))))

/-- R157-R160: the brownout commands of the budget unit and the restoring turns. The B_EFF in record 0x3101 is the
model's reading (log entry 70). -/
def Obligations.BudgetCommands : Prop :=
  (∀ (s : State) (p : PodIx) (vin : Nat) (c : Fin 8), s.hub.held = .none →
    exec .budgetRecompute s = .next (s.put s.hub.quiet.budRecompute) ∧
    ((s.hub.cons (podPath p)).rpLower = true → (s.hub.tc p).srcAttached = true → (s.hub.pde p).explicit = false →
      exec (.rpChargeLower p) s = .next (s.put
        (s.hub.quiet.budSetCharge (podPath p) (implicitCharge (s.hub.tc p).rpLevel)))) ∧
    (s.hub.bud.warnVin = false → s.hub.bud.warnOver = false → vin < s.hub.vinWarn →
      exec (.vinWarningAssert vin) s = .next (s.put
        (((s.hub.quiet.modBud fun b => { b with vinMeas := min 1023 vin, warnVin := true, warnOver := false }).budWarnOn 1).budNewB))) ∧
    (s.hub.bud.fail = false → vin < s.hub.vinFail →
      exec (.vinFailAssert vin) s = .next (s.put
        (((s.hub.quiet.modBud fun b => { b with vinMeas := min 1023 vin, fail := true }).budEvt 2).bump (cntBud 1)))) ∧
    (s.hub.bud.fail = true →
      exec .failShed s = .next (s.put (s.hub.quiet.budShedAll 3 fun x => decide (s.hub.failKeep < s.hub.prio x)))) ∧
    (s.hub.budWarn = true →
      exec .ewShed s = .next (s.put ((s.hub.quiet.budShedAll 1 fun x =>
        (s.hub.cons x).marked || decide (s.hub.boShedClass ≤ s.hub.prio x)).modBud fun b => { b with step6 := true }))) ∧
    (s.hub.budWarn = true →
      exec .boResolve s = .next (s.put ((List.finRange 20).foldl
        (fun h x => if (s.hub.shedOrder.foldl s.hub.budResolvePick ([], s.hub.chargeSum)).1.contains x
          then ((h.budShed x 4).budEvt 4).bump (cntBud 3) else h) s.hub.quiet))) ∧
    (s.hub.bud.warnVin = true → s.hub.bud.warnOver = true → s.hub.vinWarn + s.hub.vinHyst < vin →
      exec (.vinWarningClear vin) s = .next (s.put
        ((s.hub.quiet.modBud fun b =>
          { b with vinMeas := min 1023 vin, fail := false, warnVin := false, warnOver := true }).budNewB))) ∧
    (s.hub.bud.restoring = true →
      exec (.restoreClass c) s = .next (s.put
        ((s.hub.quiet.modBud fun b => { b with restTurn := max b.restTurn (c.val + 1) }).budRestorePass)))) ∧
  (∀ (s : State),
    (s.hub.held = .none →
      exec .budgetRecompute s = .next (s.put (s.hub.quiet.budRecompute)) ∧
      (∀ (p : PodIx), exec (.rpChargeLower p) s = .next (s.put (s.hub.quiet.budRpCharge p))) ∧
      (∀ (vin : Nat), exec (.vinWarningAssert vin) s = .next (s.put (s.hub.quiet.budVinWarn vin))) ∧
      (∀ (vin : Nat), exec (.vinFailAssert vin) s = .next (s.put (s.hub.quiet.budVinFail vin))) ∧
      exec .failShed s = .next (s.put (s.hub.quiet.budFailShed)) ∧
      exec .ewShed s = .next (s.put (s.hub.quiet.budEwShed)) ∧
      exec .boResolve s = .next (s.put (s.hub.quiet.budResolve)) ∧
      (∀ (vin : Nat), exec (.vinWarningClear vin) s = .next (s.put (s.hub.quiet.budVinClear vin))) ∧
      (∀ (c : Fin 8), exec (.restoreClass c) s = .next (s.put (s.hub.quiet.budRestoreClass c.val)))))

/-- R155: while the charges of the unmarked consumers are within B, the recomputation cuts no consumer, marks none and sheds none:
every target is none, and nothing else changes. -/
def Obligations.NoCutWithinBudget : Prop :=
  ∀ h : Hub, sumBy (fun q => if q.marked then 0 else q.charge) h.bud.cons.toList ≤ h.bud.bEff →
    h.budFold = h.modBud fun b => { b with cons := b.cons.map fun q => { q with target := none } }

/-- R155, R156: a claim is granted only while the sum of the charges is within B and the budget unit is in no safe response, and the increase is
at most the headroom. -/
def Obligations.ClaimNeedsHeadroom : Prop :=
  ∀ (h : Hub) (x : PathIx) (c : Nat), h.budClaimOk x c = true →
    h.chargeSum ≤ h.bud.bEff ∧ h.inSafe 26 = false ∧ (c ≤ (h.cons x).charge ∨ ((c - (h.cons x).charge : Nat) : Int) ≤ h.headroomNow)

/-- R163-R166, R169: the steps of a request on the regulator link, and its numbers: ULINEAR16 with the exponent -9, LINEAR11, which the
model rounds to nearest with the finest exponent (log entry 40). -/
def Obligations.RegulatorLink : Prop :=
  (∀ (s : State) (n : Fin 32) (mode rev pg : BitVec 8) (acks : Nat), s.hub.held = .none →
    (∀ r, s.hub.rl.active = [] → s.hub.rl.queue = [r] → s.hub.slotOf r.owner = some n → (s.hub.rl.slots[n]).probed = true →
      s.hub.slotUsable r.owner = true →
      ((s.hub.rlSeq n (s.hub.rlBytes n r.kind)).length ≤ acks →
        exec (.rlinkRequestStart acks mode rev) s = .next (s.put
          ((s.hub.quiet.modRl fun l => { l with queue := [], active := [{ req := r, slot := n, attempt := 1 }] }).rlOut n
            (s.hub.rlBytes n r.kind)))) ∧
      (acks < (s.hub.rlSeq n (s.hub.rlBytes n r.kind)).length →
        exec (.rlinkRequestStart acks mode rev) s = .next (s.put
          (((s.hub.quiet.modRl fun l => { l with queue := [], active := [{ req := r, slot := n, attempt := 1 }] }).rlEmit n
            ((s.hub.rlSeq n (s.hub.rlBytes n r.kind)).take (acks + 1))).rlFail { req := r, slot := n, attempt := 1 } 1)))) ∧
    (∀ a w, s.hub.rlActiveOf n = some a → a.redo = false → a.req.kind.isOff = false →
      exec (.rlinkStatusPoll n (.word w) pg) s = .next (s.put
        (((s.hub.quiet.modRl fun l => { l with pgIn := pg }).rlOut n [(0x79, w.toNat)]).modActive n fun a =>
            { a with status := w, sawFault := a.sawFault || statusFault w, clean := statusClear w }))) ∧
    (∀ a, s.hub.rlActiveOf n = some a → a.redo = false → s.hub.rlConfirmed a pg = true → 16 ≤ a.req.owner → a.req.owner < 20 →
      exec (.rlinkRequestDone n pg) s = .next (s.put
        (((s.hub.quiet.modRl fun l => { l with pgIn := pg }).rlDrop n).modSlot n fun x => { x with lastRes := 0 }))) ∧
    (∀ a, s.hub.rlActiveOf n = some a → a.redo = false → s.hub.rlConfirmed a pg = false → a.req.kind.isOff = true →
      exec (.rlinkRequestTimeout n pg) s = .next (s.put
        ((s.hub.quiet.modRl fun l => { l with pgIn := pg }).rlFail a 3))) ∧
    (∀ addr status still, (∀ k, s.hub.slotEn k = false) →
      exec (.rlinkAlert addr ⟨status, still⟩) s = .next (s.put
        ((((((s.hub.quiet.modRl fun l => { l with alert := still }).emit (.pmbus 0xFF 0x0C addr.toNat false)).emit
          (.pmbus 0xFF 0x79 status.toNat false)).rlEvt 4).bump (cntBud 11)).raise srcRl 0x3202 2
            ([0xFF, addr.toNat] ++ le16 status.toNat) |>.wakeSource 23))) ∧
    (∀ vout iout, s.hub.rlMonEn = true → s.hub.rlWaiting = false → s.hub.rlMonNext = some n →
      exec (.rlinkMonitorRead ⟨vout, iout⟩ pg) s = .next (s.put
        (((s.hub.quiet.modRl fun l => { l with pgIn := pg }).rlOut n [(0x8B, vout.toNat), (0x8C, iout.toNat)]).modRl fun l =>
          { l with monSlot := n }))) ∧
    (∀ v, v ≤ 6000 → uLinear16 0x17 v = (2 * (v * 512) + 100) / 200) ∧ uLinear16 0x17 500 = 2560 ∧ linear11 300 = 24 * 2048 + 768 ∧
    (∀ i, i ≤ 3000 → linear11 i % 2048 ≤ 1023)) ∧
  (∀ (s : State),
    (s.hub.held = .none →
      (∀ (acks : Nat) (mode : BitVec 8) (rev : BitVec 8), exec (.rlinkRequestStart acks mode rev) s =
        .next (s.put (s.hub.quiet.rlStart acks mode rev))) ∧
      (∀ (slot : Fin 32) (r : Poll) (pg : BitVec 8), exec (.rlinkStatusPoll slot r pg) s =
        .next (s.put (s.hub.quiet.rlPoll slot r pg))) ∧
      (∀ (slot : Fin 32) (pg : BitVec 8), exec (.rlinkRequestDone slot pg) s = .next (s.put (s.hub.quiet.rlDone slot pg))) ∧
      (∀ (slot : Fin 32) (pg : BitVec 8), exec (.rlinkRequestTimeout slot pg) s = .next (s.put (s.hub.quiet.rlTimeout slot pg))) ∧
      (∀ (addr : BitVec 7) (status : BitVec 16) (still : Bool), exec (.rlinkAlert addr ⟨status, still⟩) s =
        .next (s.put (s.hub.quiet.rlAlert addr status still))) ∧
      (∀ (vout : BitVec 16) (iout : BitVec 16) (pg : BitVec 8), exec (.rlinkMonitorRead ⟨vout, iout⟩ pg) s =
        .next (s.put (s.hub.quiet.rlMonitor vout iout pg)))))

/-- R175, R177, R178, R187, R190, R208: what the host sends to a device on a pod whose link is in U0, with no held credit and no
blocked address. A request joins the pacing queue of its map entry; a header, and a request with NumP 0, goes to the device at once;
OUT data that finds room is stored, and without room it is held as the one credit; the hold's expiry discards it where it still
finds none. -/
def Obligations.HostPackets : Prop :=
  (∀ (s : State) (p : PodIx) (addr : Fin 128) (ep : Fin 16) (numP bytes : Nat) (dirIn : Bool) (how : Arrival), s.forwards →
    isD p = true →
    let h0 := s.hub.quiet.countHostRx 0
    let hb := s.hub.quiet.countHostRx bytes
    (s.hub.sched.credit = none → h0.blockedAt p addr.val = false → h0.linkTakes p = true → numP ≠ 0 →
      ((h0.noteHit p addr.val ep.val true (h0.mapFind p addr.val ep.val true)).reqHeld addr.val ep.val) = false →
      exec (.hostInRequest p addr ep numP) s = .next (s.put
        (let m := h0.mapFind p addr.val ep.val true
         let h1 := h0.noteHit p addr.val ep.val true m
         (h1.passDrop addr.val ep.val).reqJoin m.queue
           { pod := p, addr := addr.val, ep := ep.val, numP := numP, pass := h1.sched.passes.contains (addr.val, ep.val)
             since := h1.clk }))) ∧
    (s.hub.sched.credit = none → h0.blockedAt p addr.val = false → h0.linkTakes p = true →
      exec (.hostHeaderPacket p addr ep dirIn) s = .next (s.put (h0.sendHeader p addr.val ep.val false))) ∧
    (s.hub.sched.credit = none → h0.blockedAt p addr.val = false → h0.linkTakes p = false →
      exec (.hostHeaderPacket p addr ep dirIn) s = .next (s.put (h0.deferral p addr.val ep.val dirIn))) ∧
    (s.hub.sched.credit = none → hb.blockedAt p addr.val = true →
      exec (.hostOutData p addr ep bytes how) s = .next (s.put (hb.bump (cntFwl p 3)))) ∧
    (s.hub.sched.credit = none → hb.blockedAt p addr.val = false →
      ∀ (m : MapHit) (h1 : Hub) (x : DownPkt), hb.mapFind p addr.val ep.val false = m → m.pol = none →
        hb.noteHit p addr.val ep.val false m = h1 → h1.linkTakes p = true →
        x = { addr := addr.val, ep := ep.val, bytes := bytes, damaged := how != .good, iso := hb.isoEp p addr.val ep.val false m } →
        exec (.hostOutData p addr ep bytes how) s = .next (s.put (if h1.downFits p x then h1.downPut p x
          else (h1.modSched fun y => { y with credit := some { pod := p, pkt := x } }).bump (cntMap 4)))) ∧
    (∀ c, s.hub.sched.credit = some c → s.hub.quiet.downFits c.pod c.pkt = false →
      exec .creditHoldExpiry s = .next (s.put
        ((((((s.hub.quiet.modSched fun y => { y with credit := none }).linkEvt c.pod 3).shellEvt 2).bump (cntLink c.pod 8)).raise
          (srcLink c.pod) 0x4002 2 ([c.pkt.addr, c.pkt.ep] ++ le16 (s.hub.link c.pod).dsRsv
            ++ le16 s.hub.quiet.poolFree)).creditEnded c.pod)))) ∧
  (∀ (s : State),
    (s.forwards →
      (∀ (p : PodIx) (addr : Fin 128) (ep : Fin 16) (numP : Nat), exec (.hostInRequest p addr ep numP) s =
        .next (s.put (s.hub.quiet.hostIn p addr.val ep.val numP))) ∧
      (∀ (p : PodIx) (addr : Fin 128) (ep : Fin 16) (dirIn : Bool), exec (.hostHeaderPacket p addr ep dirIn) s =
        .next (s.put (s.hub.quiet.hostHeader p addr.val ep.val dirIn))) ∧
      (∀ (p : PodIx) (addr : Fin 128) (ep : Fin 16) (bytes : Nat) (how : Arrival), exec (.hostOutData p addr ep bytes how) s =
        .next (s.put (s.hub.quiet.hostOut p addr.val ep.val bytes how))) ∧
      exec .creditHoldExpiry s = .next (s.put (s.hub.quiet.creditExpire))))

/-- R176, R179, R181, R195, R220: what a device sends on a link in U0 from an address that is not blocked. Requested data shrinks its
reservation and joins the queue of its map entry; longer data than the endpoint's maximum is a violation; a notification joins
UQ_3; a reservation idle too long ends. -/
def Obligations.DevicePackets : Prop :=
  (∀ (s : State) (p : PodIx) (addr : Fin 128) (ep : Fin 16) (bytes : Nat) (last dirIn : Bool) (how : Arrival) (r : Rsv) (k : TpKind),
    s.forwards → isD p = true →
    let hb := s.hub.quiet.countRx p bytes
    let h0 := s.hub.quiet.countRx p 0
    ((s.hub.link p).ltssm = .u0 → hb.blockedAt p addr.val = false → hb.maxPkt p addr.val ep.val true < bytes →
      exec (.deviceDataPacket p addr ep bytes last how false) s = .next (s.put (hb.violation p .overLength addr.val))) ∧
    ((s.hub.link p).ltssm = .u0 → hb.blockedAt p addr.val = false → bytes ≤ hb.maxPkt p addr.val ep.val true →
      ∀ (m : MapHit) (h1 : Hub), hb.mapFind p addr.val ep.val true = m → m.pol = none →
        hb.noteHit p addr.val ep.val true m = h1 → h1.rsvOf p addr.val ep.val = some r → 0 < r.pkts → cellsOf bytes ≤ r.cells →
        exec (.deviceDataPacket p addr ep bytes last how false) s = .next (s.put (((h1.rsvShrink r last).upPut m.queue
          { src := p.val, addr := addr.val, ep := ep.val, bytes := bytes, cells := cellsOf bytes
            iso := h1.isoEp p addr.val ep.val true m, damaged := how != .good, charge := some (bytes + r.ovh)
            counted := if r.counted then some r.queue else none }).roomFreed))) ∧
    ((s.hub.link p).ltssm = .u0 → h0.blockedAt p addr.val = false →
      exec (.deviceTransactionPacket p addr ep dirIn .notification) s = .next (s.put
        (h0.upPut 3 { src := p.val, addr := addr.val, ep := ep.val, dirIn := dirIn }))) ∧
    ((s.hub.link p).ltssm = .u0 → h0.blockedAt p addr.val = true →
      exec (.deviceTransactionPacket p addr ep dirIn k) s = .next (s.put (h0.bump (cntFwl p 3)))) ∧
    (s.hub.rsvOf p addr.val ep.val = some r →
      exec (.reservationIdleTimeout p addr ep) s = .next (s.put (s.hub.quiet.rsvEnd r).roomFreed))) ∧
  (∀ (s : State),
    (s.forwards →
      (∀ (p : PodIx) (addr : Fin 128) (ep : Fin 16) (bytes : Nat) (last : Bool) (how : Arrival) (tt : Bool), exec (.deviceDataPacket p addr ep bytes last how tt) s =
        .next (s.put (s.hub.quiet.deviceData p addr.val ep.val bytes last how tt))) ∧
      (∀ (p : PodIx) (addr : Fin 128) (ep : Fin 16) (dirIn : Bool) (k : TpKind), exec (.deviceTransactionPacket p addr ep dirIn k) s =
        .next (s.put (s.hub.quiet.deviceTp p addr.val ep.val dirIn k))) ∧
      (∀ (p : PodIx) (addr : Fin 128) (ep : Fin 16), exec (.reservationIdleTimeout p addr ep) s =
        .next (s.put ((s.hub.quiet.rsvEndOf p addr.val ep.val).roomFreed)))))

/-- R174, R178, R191, R213, R214: a start and a completion on the links. A start with clean reads takes the selected packet off its
queue and charges its shaper; a descriptor that cannot be corrected discards it; the last byte of a good packet counts it as sent
and reports it. R175, R177, R187: a request, a header and OUT data from the host, and the end of a hold, complete wherever the data
path forwards. -/
def Obligations.UpstreamService : Prop :=
  (∀ (s : State) (p : PodIx) (payload desc : EccRead), s.forwards →
    (∀ (e : PodIx) (n : QueueIx) (g : Hub) (x : UpPkt), s.hub.quiet.startFree = some e → s.hub.quiet.noteNoFit.select = (some n, g) →
      uqHead n (g.uq n).pkts = some x → x.iso = false → x.marked = false → x.noDesc = false →
      exec (.startOpportunity .clean .clean) s = .next (s.put (((g.uqTake n x).startCharge n x).modSched fun y =>
        { y with sending := some (n, x), lastQ := n }))) ∧
    (∀ (e : PodIx) (n : QueueIx) (g : Hub) (x : UpPkt), s.hub.quiet.startFree = some e → s.hub.quiet.noteNoFit.select = (some n, g) →
      uqHead n (g.uq n).pkts = some x → x.counted = none → isUe desc = true →
      exec (.startOpportunity payload desc) s = .next (s.put
        (((((g.uqTake n x).descRead desc x.noDesc).hdrDiscard x.src e.val).mfLost x).cellsReleased.roomFreed))) ∧
    (isD p = true → (s.hub.link p).ltssm = .u0 → ∀ x rest, (s.hub.link p).down = x :: rest → x.damaged = false → x.marked = false → x.noDesc = false →
      (s.hub.link p).u3Pending = false → s.hub.sched.credit = none → s.hub.sched.statusDue = false → s.hub.nvm.toRetire = [] →
      exec (.packetTxComplete p .clean .clean) s = .next (s.put
        (((s.hub.quiet.modLink p fun l => { l with down := rest }).countTx p x.bytes).emit
          (.packet p.val x.addr x.ep x.bytes false x.deferred)))) ∧
    (∀ u q x, podUp p = some u → s.hub.upsel.active = some u → s.hub.sched.sending = some (q, x) → x.damaged = false → x.marked = false →
      s.hub.sched.credit = none → s.hub.sched.statusDue = false → s.hub.nvm.toRetire = [] → isD p = false →
      exec (.packetTxComplete p .clean .clean) s = .next (s.put
        (x.say.foldl Hub.emit (((s.hub.quiet.modSched fun y => { y with sending := none }).countTx p x.bytes).emit
          (.packet p.val x.addr x.ep x.bytes false false)))))) ∧
  (∀ (s : State),
    (s.forwards →
      (∀ (payload : EccRead) (desc : EccRead), exec (.startOpportunity payload desc) s =
        .next (s.put (s.hub.quiet.startOpp payload desc))) ∧
      (∀ (p : PodIx) (payload : EccRead) (desc : EccRead), exec (.packetTxComplete p payload desc) s =
        .next (s.put (s.hub.quiet.txComplete p payload desc))) ∧
      (∀ (p : PodIx) (addr : Fin 128) (ep : Fin 16) (numP : Nat), exec (.hostInRequest p addr ep numP) s =
        .next (s.put (s.hub.quiet.hostIn p addr.val ep.val numP))) ∧
      (∀ (p : PodIx) (addr : Fin 128) (ep : Fin 16) (dirIn : Bool), exec (.hostHeaderPacket p addr ep dirIn) s =
        .next (s.put (s.hub.quiet.hostHeader p addr.val ep.val dirIn))) ∧
      (∀ (p : PodIx) (addr : Fin 128) (ep : Fin 16) (bytes : Nat) (how : Arrival), exec (.hostOutData p addr ep bytes how) s =
        .next (s.put (s.hub.quiet.hostOut p addr.val ep.val bytes how))) ∧
      exec .creditHoldExpiry s = .next (s.put s.hub.quiet.creditExpire)))

/-- R182, R189, R219: the transaction translators. A start-split without a free buffer is answered NAK, and with one ACK, the buffer
kept until its complete-split; a complete-split with no buffer is answered NYET; the hub's TT requests; GetTTState and StopTT are
stalled. -/
def Obligations.TransactionTranslators : Prop :=
  (∀ (s : State) (p : PodIx) (addr : Fin 128) (ep : Fin 16) (dirIn : Bool) (bytes : Nat) (how : Arrival) (payload : EccRead),
    s.forwards →
    let hb := s.hub.quiet.countHostRx bytes
    let h0 := s.hub.quiet.countHostRx 0
    (s.hub.quiet.ttLive p = true → hb.blockedAt p addr.val = false → ∀ (m : MapHit) (h1 : Hub),
      hb.mapFind p addr.val ep.val false = m → m.pol = none → hb.noteHit p addr.val ep.val false m = h1 →
      hb.isoEp p addr.val ep.val false m = false → hb.ttRoom p false (cellsOf bytes) = true →
      exec (.ttStartSplit p addr ep false false ⟨bytes, how, payload⟩) s = .next (s.put ((h1.modLink p fun l =>
        { l with tt := l.tt ++ [{ addr := addr.val, ep := ep.val, dirIn := false, periodic := false, cells := cellsOf bytes
                                  data := some bytes, damaged := how != .good, queue := m.queue }] }).emit (.tt p.val .ack)))) ∧
    (s.hub.quiet.ttLive p = true → hb.blockedAt p addr.val = false → hb.ttRoom p false (cellsOf bytes) = false →
      exec (.ttStartSplit p addr ep false false ⟨bytes, how, payload⟩) s = .next (s.put
        ((hb.noteHit p addr.val ep.val false (hb.mapFind p addr.val ep.val false)).emit (.tt p.val .nak)))) ∧
    (s.hub.quiet.ttLive p = true → h0.blockedAt p addr.val = false → (s.hub.link p).tt = [] →
      exec (.ttCompleteSplit p addr ep dirIn payload) s = .next (s.put (h0.emit (.tt p.val .nyet)))) ∧
    (s.hub.quiet.ttLive p = true → h0.blockedAt p addr.val = false → s.hub.nvm.toRetire = [] → (s.hub.tc p).hold = none →
      (s.hub.link p).u2 = .enabled → ∀ (b : TtBuf) (n : Nat), (s.hub.link p).tt = [b] → b.addr = addr.val → b.ep = ep.val → b.dirIn = false → b.data = some n →
      b.damaged = false → b.marked = false →
      exec (.ttCompleteSplit p addr ep false .clean) s = .next (s.put
        ((((h0.ttTake p b).countTx p n).emit (.packet p.val b.addr b.ep n false false)).emit (.tt p.val .ack)))) ∧
    exec (.clearTtBuffer p addr ep dirIn) s = .next (s.put
      ((s.hub.quiet.ttDrop p fun b => b.addr == addr.val && b.ep == ep.val && b.dirIn == dirIn).countSetup.hubReply [])) ∧
    exec (.resetTt p) s = .next (s.put ((s.hub.quiet.ttDrop p fun _ => true).countSetup.hubReply [])) ∧
    exec (.getTtState p) s = .next (s.put (s.hub.quiet.hubStall p)) ∧
    exec (.stopTt p) s = .next (s.put (s.hub.quiet.hubStall p)) ∧
    (s.hub.upsel.active = none → s.hub.quiet.hubStall p = s.hub.quiet.emit (.tt p.val .stall))) ∧
  (∀ (s : State),
    (s.forwards →
      (∀ (p : PodIx) (addr : Fin 128) (ep : Fin 16) (dirIn : Bool) (periodic : Bool) (bytes : Nat) (how : Arrival) (payload : EccRead), exec (.ttStartSplit p addr ep dirIn periodic ⟨bytes, how, payload⟩) s =
        .next (s.put (s.hub.quiet.ttStart p addr.val ep.val dirIn periodic bytes how payload))) ∧
      (∀ (p : PodIx) (addr : Fin 128) (ep : Fin 16) (dirIn : Bool) (payload : EccRead), exec (.ttCompleteSplit p addr ep dirIn payload) s =
        .next (s.put (s.hub.quiet.ttComplete p addr.val ep.val dirIn payload))) ∧
      (∀ (p : PodIx) (addr : Fin 128) (ep : Fin 16) (dirIn : Bool), exec (.clearTtBuffer p addr ep dirIn) s =
        .next (s.put ((s.hub.quiet.ttDrop p fun b => b.addr == addr.val && b.ep == ep.val && b.dirIn == dirIn).countSetup.hubReply []))) ∧
      (∀ (p : PodIx), exec (.resetTt p) s = .next (s.put ((s.hub.quiet.ttDrop p fun _ => true).countSetup.hubReply []))) ∧
      (∀ (p : PodIx), exec (.getTtState p) s = .next (s.put (s.hub.quiet.hubStall p))) ∧
      (∀ (p : PodIx), exec (.stopTt p) s = .next (s.put (s.hub.quiet.hubStall p)))))

/-- R15, R16, R54, R56, R184, R185, R187: connections, and the host's requests to a port. -/
def Obligations.PortRequests : Prop :=
  (∀ (s : State) (p : PodIx) (v : Speed) (b : Bool) (port : Fin 15),
    (s.works (podDom p) → (s.hub.tc p).hold = none → s.hub.mayConnect p = true → speedOk p v = true →
      (s.hub.link p).ltssm ≠ .u3 → (s.hub.link p).u2 ≠ .suspended → (s.hub.link p).u2 ≠ .resuming →
      exec (.linkUp p v) s = .next (s.put ((((s.hub.quiet.linkUpAt p v).modTc p fun t =>
        { t with bhAvail := t.bhAvail || isD p }).sendDeferred p).domCheck))) ∧
    (s.works (podDom p) → (s.hub.tc p).hold = none → s.hub.mayConnect p = true → isD p = true → (s.hub.link p).speed = .none →
      exec (.deviceConnect p b) s = .next (s.put ((s.hub.quiet.modLink p fun l =>
        { l with onSs := b, ltssm := if b then .polling else .ssDisabled
                 u2 := if b then .notConnected else .disabled }).portConnect p |>.wakeSource 17))) ∧
    (s.forwards → isD p = true → (s.hub.tc p).hold = none → (s.hub.link p).disReason ≠ 3 → (s.hub.link p).conn = true →
      (s.hub.link p).onSs = false →
      exec (.portResetRequest p .reset) s = .next (s.put
        ((((s.hub.quiet.countSetup.hubReply []).portClear p).deferForget p).modLink p fun l =>
          { l with portEn := false, disReason := 0, viols := [], resetting := true, warm := false
                   ltssm := if l.onSs then .hotReset else l.ltssm, u2 := if l.onSs then l.u2 else .resetting }))) ∧
    (s.forwards → isD p = true → (s.hub.tc p).hold = none → (s.hub.link p).disReason ≠ 3 → (s.hub.link p).conn = true →
      (s.hub.link p).onSs = true →
      exec (.portResetRequest p .warmReset) s = .next (s.put
        (((((s.hub.quiet.countSetup.hubReply []).portClear p).deferForget p).modLink p fun l =>
          { l with portEn := false, disReason := 0, viols := [], resetting := true, warm := l.onSs
                   ltssm := if l.onSs then .rxDetect else l.ltssm, u2 := if l.onSs then l.u2 else .resetting }).emit
            (.linkCmd p.val .warmReset)))) ∧
    (s.forwards → isD p = true → (s.hub.tc p).hold = none → (s.hub.link p).disReason = 3 →
      exec (.portResetRequest p .reset) s = .next (s.put
        (((s.hub.quiet.countSetup.hubReply []).modLink p fun l => { l with cReset := true }).statusChange))) ∧
    (s.forwards → exec (.getPortStatus port) s = .next (s.put (s.hub.quiet.countSetup.hubReply (s.hub.quiet.portStatusWords port)))) ∧
    (s.forwards → isD p = true → (s.hub.tc p).hold = none → (s.hub.link p).ltssm = .u0 → (s.hub.link p).down = [] →
      s.hub.sched.credit = none →
      exec (.portLinkStateU3 p) s = .next (s.put
        ((((s.hub.quiet.countSetup.hubReply []).deferForget p).modLink p fun l => { l with u3Pending := true }).linkU3 p))) ∧
    (s.forwards → isD p = true → (s.hub.link p).u2 = .enabled →
      exec (.portSuspend p) s = .next (s.put ((s.hub.quiet.countSetup.hubReply []).modLink p fun l => { l with u2 := .suspended })))) ∧
  (∀ (s : State),
    (∀ (p : PodIx), s.works (podDom p) →
      (∀ (speed : Speed), exec (.linkUp p speed) s = .next (s.put (s.hub.quiet.linkUpEvent p speed))) ∧
      (∀ (superSpeed : Bool), exec (.deviceConnect p superSpeed) s = .next (s.put (s.hub.quiet.deviceConnect p superSpeed)))) ∧
    (s.forwards →
      (∀ (p : PodIx) (r : PortReq), exec (.portResetRequest p r) s = .next (s.put (s.hub.quiet.portRequest p r))) ∧
      (∀ (port : Fin 15), exec (.getPortStatus port) s = .next (s.put (s.hub.quiet.countSetup.hubReply (s.hub.quiet.portStatusWords port)))) ∧
      (∀ (p : PodIx), exec (.portLinkStateU3 p) s = .next (s.put (s.hub.quiet.portU3 p))) ∧
      (∀ (p : PodIx), exec (.portSuspend p) s = .next (s.put (s.hub.quiet.portSuspend p)))))

/-- R183 to R186, R192 to R195: link power, suspend, remote wake, descriptor snooping and violations. -/
def Obligations.LinkPowerAndSnoop : Prop :=
  (∀ (s : State) (p : PodIx) (u : UpIx) (b e : Bool) (addr a : Fin 128) (x : SnoopXfer), isD p = true →
    (s.works (podDom p) → (s.hub.link p).ltssm = .u0 → (s.hub.link p).speed.ss = true → (s.hub.link p).down = [] →
      exec (.linkIdleTimeout p ⟨b, e⟩) s = .next (s.put (((s.hub.quiet.modLink p fun l => { l with ltssm := if b then .u2 else .u1 }).bump
        (cntLink p (if b then 13 else 12))).emit (.linkCmd p.val (if b then .toU2 else .toU1))))) ∧
    (s.works (podDom p) → (s.hub.link p).ltssm = .u0 → (s.hub.link p).down = [] →
      exec (.lgoReceived p b e) s = .next (s.put (((s.hub.quiet.modLink p fun l => { l with ltssm := if b then .u2 else .u1 }).bump
        (cntLink p (if b then 13 else 12))).emit (.linkCmd p.val .lau)))) ∧
    (s.works (podDom p) → (s.hub.link p).ltssm = .u0 → (s.hub.link p).down ≠ [] →
      exec (.lgoReceived p b e) s = .next (s.put (s.hub.quiet.emit (.linkCmd p.val .lxu)))) ∧
    (s.forwards → s.hub.upsel.active = some u → (s.hub.link (upPod u)).speed.ss = true → (s.hub.link (upPod u)).ltssm = .u0 →
      s.hub.sched.credit = none →
      exec .upstreamU3Entry s = .next (s.put (((List.finRange 16).filter isD).foldl
        (fun h q => if (h.link q).ltssm == .recovery then h else h.linkToU3 q)
        ((s.hub.quiet.modLink (upPod u) fun l => { l with ltssm := .u3, u3Pending := false }).bump (cntLink (upPod u) 14))))) ∧
    (s.works (podDom (upPod u)) → s.hub.seq.fallback = false → s.hub.upsel.active = some u → (s.hub.link (upPod u)).speed.ss = true → (s.hub.link (upPod u)).ltssm = .u3 →
      exec .upstreamU3Exit s = .next (s.put
        ((s.hub.quiet.modLink (upPod u) fun l => { l with ltssm := .u0 }).bump (cntLink (upPod u) 11) |>.wakeSource 17))) ∧
    (s.forwards → s.hub.upsel.active = some u → (s.hub.link (upPod u)).u2 = .enabled →
      (∀ q, isD q = true → (s.hub.link q).u2 ≠ .enabled) →
      exec .usb2IdleSuspend s = .next (s.put (s.hub.quiet.modLink (upPod u) fun l => { l with u2 := .suspended }))) ∧
    (s.works (podDom p) → (s.hub.link p).ltssm = .u3 → s.hub.upsel.active = none →
      exec (.deviceRemoteWake p .ssU3Exit e) s = .next (s.put (((((s.hub.quiet.wakeSource 17).modLink p fun l =>
        { l with ltssm := .u0, cLink := true }).bump (cntLink p 11)).wakeNoted p).statusChange))) ∧
    (s.forwards → (s.hub.quiet.dev p addr.val).isSome = true →
      exec (.snoopTransferComplete p addr b e false x) s = .next (s.put
        ((((s.hub.quiet.linkEvt p 5).modDev p addr.val fun d => { d with missed := true }).raise (srcLink p) 0x4005 1
          [addr.val, 3]).fwlJudge p addr.val false))) ∧
    (s.forwards → a ≠ 0 → b = false →
      exec (.snoopTransferComplete p addr b e true (.setAddress a)) s = .next (s.put
        ((((s.hub.quiet.deviceGone p addr.val).deviceGone p a.val).dsUpdate p false).modSched fun y =>
          { y with devs := y.devs ++ [{ pod := p, addr := a.val, direct := false, hs := e }] }))) ∧
    (s.works (podDom p) →
      exec (.babble p .babble addr) s = .next (s.put
        (let recent := s.hub.clk :: (s.hub.link p).viols.filter fun t => s.hub.clk < t + ticksPerSecond
         (((((s.hub.quiet.modLink p fun l => { l with viols := recent.take 127 }).bump (cntLink p 10)).portDisable p 2).modLink p
           fun l => { l with viols := [] }).linkEvt p 0).raise (srcLink p) 0x4001 3 [1, min 255 recent.length, addr.val])))) ∧
  (∀ (s : State),
    (∀ (p : PodIx), s.works (podDom p) →
      (∀ (toU2 : Bool) (enabled : Bool), exec (.linkIdleTimeout p ⟨toU2, enabled⟩) s =
        .next (s.put (s.hub.quiet.linkIdle p toU2 enabled))) ∧
      (∀ (toU2 : Bool) (enabled : Bool), exec (.lgoReceived p toU2 enabled) s = .next (s.put (s.hub.quiet.linkGo p toU2 enabled))) ∧
      (∀ (k : WakeKind) (permitted : Bool), exec (.deviceRemoteWake p k permitted) s =
        .next (s.put (s.hub.quiet.remoteWake p k permitted))) ∧
      (∀ (v : Violation) (addr : Fin 128), exec (.babble p v addr) s = .next (s.put (s.hub.quiet.violation p v addr.val)))) ∧
    (s.forwards →
      exec .upstreamU3Entry s = .next (s.put (s.hub.quiet.upstreamU3)) ∧
      exec .usb2IdleSuspend s = .next (s.put (s.hub.quiet.usb2Suspend)) ∧
      (∀ (p : PodIx) (addr : Fin 128) (direct : Bool) (highSpeed : Bool) (snooped : Bool) (x : SnoopXfer), exec (.snoopTransferComplete p addr direct highSpeed snooped x) s =
        .next (s.put (s.hub.quiet.snoop p addr.val direct highSpeed snooped x)))))

/-- R15: a SetPortFeature or ClearPortFeature of PORT_POWER is accepted with a normal status stage and changes nothing; PORT_POWER reads 1
on every port, under both hubs. R14: the hub descriptors. -/
def Obligations.PortPowerRequests : Prop :=
  (∀ (s : State) (port : Fin 15) (b : Bool), s.forwards →
    exec (.portPowerRequest port b) s = .next (s.put (s.hub.quiet.countSetup.hubReply []))) ∧
  (∀ (h : Hub) (port : Fin 15), ((h.portStatusWords port).getD 0 0).getLsbD 8 = true ∧
    ((h.portStatusWords port).getD 1 0).getLsbD 9 = true) ∧
  (∀ ss : Bool, hubDescriptor ss =
    { nbrPorts := 15, characteristics := 0x000E, removable := 0x8000
      deviceProtocol := if ss then none else some 2, hdrDecLat := if ss then some 0 else none }) ∧
  (∀ (s : State),
    (s.forwards →
      (∀ (_port : Fin 15) (_on : Bool), exec (.portPowerRequest _port _on) s = .next (s.put (s.hub.quiet.countSetup.hubReply [])))))

/-- R207, R222-R224, R296, R416, R417: map entries written by a master, and the pacing queues' timers. A master other than the
verified core may not write an entry whose SECURE bit is set, and may set no SECURE bit: the bit keeps its 0, the other fields are
written, and the access is counted as denied; an access to a domain on its way to RET or OFF is held. -/
def Obligations.MapAndPacing : Prop :=
  (∀ (s : State) (m : Master) (bankB : Bool) (idx : Fin 4064) (w : Word) (n : QueueIx) (addr : Fin 128) (ep : Fin 16),
    let off := mapOff bankB idx.val
    (s.takes m off false → s.hub.domDark domPe = false →
        (s.hub.secure m = true ∨ ((s.hub.mapWord bankB idx.val).getLsbD 7 = false ∧ w.getLsbD 7 = false)) →
      exec (.mapEntryWrite m bankB idx w) s = .next (s.put
        ((Hub.pacingLeft s.hub.quiet (s.hub.quiet.setMapWord bankB idx.val ((w &&& 0x8003FFFF) ||| 0x00040000))).parWritten
          off false))) ∧
    (s.takes m off false → s.hub.secure m = false → (s.hub.mapWord bankB idx.val).getLsbD 7 = true →
      exec (.mapEntryWrite m bankB idx w) s = .next (s.put (s.hub.quiet.denyAcc m off true))) ∧
    (s.takes m off false → s.hub.domDark domPe = false → s.hub.secure m = false →
        (s.hub.mapWord bankB idx.val).getLsbD 7 = false → w.getLsbD 7 = true →
      exec (.mapEntryWrite m bankB idx w) s = .next (s.put
        ((s.hub.quiet.denyAcc m off true).mapStore bankB idx.val (w &&& 0xFFFFFF7F)))) ∧
    (s.hub.held = .none → s.hub.accHeld m off 2 = true →
      exec (.mapEntryWrite m bankB idx w) s = .next (s.put
        (s.hub.quiet.accHold { m := m, addr := off, size := 2, word := some (w.setWidth 64) }))) ∧
    (∀ r rest, s.forwards → (s.hub.pq n).reqs = r :: rest → s.hub.pqBlock n r = 0 → r.cellAt = none →
      exec (.paceRelease n) s = .next (s.put
        (((s.hub.quiet.modPq n fun q => { q with reqs := rest }).bumpBy (cntPq n 1) (s.hub.clk - r.since)).reqRelease n r))) ∧
    (s.forwards → ((s.hub.pq n).reqs.any fun r => r.addr == addr.val && r.ep == ep.val && !r.deferred) = true →
      exec (.paceDeferExpiry n addr ep) s = .next (s.put
        ((((s.hub.quiet.modPq n fun q =>
          { q with reqs := q.reqs.map fun r => if r.addr = addr.val ∧ r.ep = ep.val then { r with deferred := true, pass := false }
                                               else r }).deferToHost addr.val ep.val).schedEvt 1).bump (cntPq n 2)))) ∧
    (s.forwards →
      exec (.pacePassExpiry addr ep) s = .next (s.put (s.hub.quiet.modSched fun x =>
        { x with passes := x.passes.filter fun y => y ≠ (addr.val, ep.val) })))) ∧
  (∀ (s : State),
    (∀ (m : Master) (bankB : Bool) (idx : Fin 4064) (w : Word), s.hub.held = .none →
      s.hub.accHeld m (mapOff bankB idx.val) 2 = false →
      exec (.mapEntryWrite m bankB idx w) s = .next (s.put (s.hub.quiet.mapWrite m (mapOff bankB idx.val) bankB idx.val w))) ∧
    (s.forwards →
      (∀ (n : QueueIx), exec (.paceRelease n) s = .next (s.put (s.hub.quiet.paceHead n))) ∧
      (∀ (n : QueueIx) (addr : Fin 128) (ep : Fin 16), exec (.paceDeferExpiry n addr ep) s =
        .next (s.put (s.hub.quiet.paceDefer n addr.val ep.val))) ∧
      (∀ (addr : Fin 128) (ep : Fin 16), exec (.pacePassExpiry addr ep) s = .next (s.put (s.hub.quiet.passDrop addr.val ep.val)))))

/-- R207: an entry written by the verified core, with master 0, reads back with its reserved bits 0 and the fixed bit 18 set, in its own bank alone; every other
entry of either bank reads as before. -/
def Obligations.MapEntryReadsBack : Prop :=
  ∀ (s : State) (bankB : Bool) (idx j : Fin 4064) (w : Word), s.takes 0 (mapOff bankB idx.val) true →
    s.hub.domDark domPe = false → ∃ t, exec (.mapEntryWrite 0 bankB idx w) s = .next t ∧
      t.hub.mapWord bankB idx.val = (w &&& 0x8003FFFF) ||| 0x00040000 ∧
      (j ≠ idx → t.hub.mapWord bankB j.val = s.hub.mapWord bankB j.val) ∧
      t.hub.mapWord (!bankB) j.val = s.hub.mapWord (!bankB) j.val

/-- R217, R220: one 10 ns unit of a bucket with a rate never lifts it above its burst and never lowers a bucket at or below it; a rate
of 0 leaves the bucket alone. TOKEN_ACCRUAL is one unit of every bucket. -/
def Obligations.TokenBuckets : Prop :=
  (∀ s : State, s.forwards → exec .tokenAccrual s = .next (s.put s.hub.quiet.accrueAll)) ∧
  (∀ (rate burst : Nat) (t : Int), rate ≠ 0 →
    accrue rate burst t ≤ tok (burst * 64) ∧ (t ≤ tok (burst * 64) → t ≤ accrue rate burst t)) ∧
  (∀ (burst : Nat) (t : Int), accrue 0 burst t = t) ∧
  (∀ (h : Hub) (n : QueueIx), h.shpRate n ≠ 0 →
    ((h.accrueShaper n).uq n).tokens = accrue (h.shpRate n) (h.shpBurst n) (h.uq n).tokens ∧
    ∀ k, k ≠ n → (h.accrueShaper n).uq k = h.uq k)

/-- R214: strict priority. While UQ_0 to UQ_3 offer an eligible packet, the lowest of them is chosen and the round-robin state stands. -/
def Obligations.StrictPriority : Prop :=
  ∀ (h : Hub) (n : QueueIx), n.val < 4 → (h.eligible n).isSome = true → (∀ k : QueueIx, k.val < n.val → (h.eligible k).isSome = false) →
    h.select = (some n, h)

/-- R180, R235, R236: ITPs and their absence, an ITP with Delayed set being counted only; R239-R241: time passes to a gate list's switch and entries. -/
def Obligations.TimeAndGates : Prop :=
  (∀ (s : State) (u : UpIx) (since : Nat) (d : DirIx),
    (s.forwards → s.hub.upsel.active = some u → (s.hub.link (upPod u)).ltssm = .u0 → s.hub.sched.credit = none →
      exec (.itpReceived true since) s = .next (s.put ((s.hub.quiet.itpForward true).itpSync true since)) ∧
      exec (.itpReceived false since) s = .next (s.put ((s.hub.quiet.itpForward false).itpSync false since))) ∧
    (s.forwards → s.hub.discipline = 1 → s.hub.timing.unsync = false → s.hub.timing.srcUsed = 1 → s.hub.timing.holdover = false →
      exec .tbHoldoverTimeout s = .next (s.put
        (((s.hub.quiet.modTiming fun t => { t with holdover := true, holdAt := s.hub.clk }).timeEvt 2).raise srcTime 0x5103 2 [1]))) ∧
    (s.forwards → (s.hub.gate d).pending = true →
      exec (.gateSwitch d) s = .next (s.put ((s.hub.quiet.passTo (s.hub.gate d).switchT.toNat).gatesSettle))) ∧
    (∀ gates iv left, s.forwards → (s.hub.gate d).entryAt s.hub.tb.toNat = some (gates, iv, left) → (s.hub.gate d).pending = false →
      exec (.gateEntryAdvance d) s = .next (s.put ((s.hub.quiet.passTo (s.hub.tb.toNat + left)).gatesSettle))) ∧
    (s.hub.discipline = 1 → s.hub.itpSync true since = s.hub.bump (cntMap 6))) ∧
  (∀ (s : State),
    (s.forwards →
      (∀ (delayed : Bool) (sinceNs : Nat), exec (.itpReceived delayed sinceNs) s =
        .next (s.put (s.hub.quiet.itpIn delayed sinceNs))) ∧
      exec .tbHoldoverTimeout s = .next (s.put (s.hub.quiet.itpSilent)) ∧
      (∀ (d : DirIx), exec (.gateSwitch d) s = .next (s.put (s.hub.quiet.gateSwitchAt d))) ∧
      (∀ (d : DirIx), exec (.gateEntryAdvance d) s = .next (s.put (s.hub.quiet.gateAdvance d)))) ∧
    (∀ (m : Master) (d : DirIx), s.takes m (0x48010 + 0x40 * d.val) false →
      exec (.cancel m d) s = .next (s.put ((s.hub.quiet.written (0x48010 + 0x40 * d.val)).gateCancel d))))

/-- R241: at the time S of a pending switch the admin list becomes the operational one, with its length and cycle, and begins at S with
entry 0; SWITCHED is set and the switch journaled; nothing stays pending and no packet is touched. Before S nothing changes.
CANCEL ends a pending switch, unlocks the admin list and sets CANCELLED; at any other time it has no effect. -/
def Obligations.GateSwitchTakesList : Prop :=
  (∀ (h : Hub) (d : DirIx),
    ((h.gate d).pending = true → (h.gate d).switchT.toNat ≤ h.tb.toNat →
      ((h.gateSettle d).gate d).oper = (h.gate d).admin ∧ ((h.gateSettle d).gate d).operLen = h.adminLen d ∧
      ((h.gateSettle d).gate d).operCyc = h.adminCycle d ∧ ((h.gateSettle d).gate d).valid = true ∧
      ((h.gateSettle d).gate d).origin = (h.gate d).switchT ∧ ((h.gateSettle d).gate d).pending = false ∧
      ((h.gateSettle d).evtWord (0x48030 + 0x40 * d.val)).getLsbD 1 = true ∧
      (∃ r : Rec, r.code = 0x5110 ∧ (h.gateSettle d).nvm.raised.Perm (r :: h.nvm.raised)) ∧
      (∀ e, e ≠ d → (h.gateSettle d).gate e = h.gate e) ∧ (h.gateSettle d).sched = h.sched) ∧
    ((h.gate d).pending = false ∨ h.tb.toNat < (h.gate d).switchT.toNat → h.gateSettle d = h)) ∧
  (∀ (s : State) (m : Master) (d : DirIx), s.takes m (0x48010 + 0x40 * d.val) false →
    ((s.hub.gate d).pending = true →
      exec (.cancel m d) s = .next (s.put
        (((s.hub.quiet.written (0x48010 + 0x40 * d.val)).modGate d fun g => { g with pending := false }).gateEvt d 2))) ∧
    ((s.hub.gate d).pending = false →
      exec (.cancel m d) s = .next (s.put (s.hub.quiet.written (0x48010 + 0x40 * d.val)))))

/-- The model's choice (log entry 1): with no command waiting a step is one 10 ns tick. With no domain on its way to RET or OFF, no
access held and no outlet to look at again, the block's clock advances by one, and at trim 0 the timebase advances by one while it
runs and no switch is pending (R233). -/
def Obligations.IdleTick : Prop :=
  ∀ s : State, s.pending = [] →
    ∃ t, step s = .next t ∧ t.pending = [] ∧ t.hub.held = s.hub.held ∧
      (s.hub.entryBusy = false → s.hub.seq.heldAcc = [] → (∀ o, (s.hub.outlet o).missed = false) →
        t.hub.clk = s.hub.clk + 1 ∧
        (s.hub.tbRuns = true → s.hub.timing.trim = 0 → s.hub.timing.frac = 0 → (∀ d, (s.hub.gate d).pending = false) →
          t.hub.tb = s.hub.tb + 1 ∧ t.hub.tcs = s.hub.tcs ∧ t.hub.vbs = s.hub.vbs ∧ t.hub.sched = s.hub.sched ∧
          t.hub.active = s.hub.active) ∧
        (s.hub.tbRuns = false → t.hub.tb = s.hub.tb))

/-- R265: the manager's targets. They are made for the granted workers in their order, no target is above the worker's maximum, and all
targets together are no more than the system budget less what the other workers hold. -/
def Obligations.CascadeTargets : Prop :=
  ∀ h : Hub, h.csbTargets.map Share.w = h.csbGranted ∧ (∀ x ∈ h.csbTargets, x.t ≤ h.wMax x.w) ∧
    sumBy Share.t h.csbTargets
      ≤ h.sysBudget - sumBy (fun v => if h.csbGranted.contains v then 0 else (h.worker v).held) workerIds

/-- R255 to R257, R260, R263, R267 to R269: what a worker does with the frames that come down to it; a frame of a reliable type acts as
it arrives in order. -/
def Obligations.WorkerFrames : Prop :=
  (∀ (s : State) (p : PodIx) (hd : CsbHdr), s.toWorker p hd →
    let g := s.hub.quiet.csbSeen p hd true
    let k := s.hub.quiet.csbSeen p hd false
    exec (.csbNull p hd) s = .next (s.put k) ∧
    exec (.csbPoll p { hd with turn := true }) s = .next (s.put (k.csbSend p false)) ∧
    (∀ t1, (s.hub.clink p).state = 1 → exec (.csbSync p hd t1) s = .next (s.put ((((k.modClink p fun l =>
      { l with t1 := t1, t2 := k.tbNs }).drawn).bump (cntCsb 0)).csbQueue
      p { dst := 0x7E, src := k.csbSrc, body := .delayReq }))) ∧
    (∀ t4, (s.hub.clink p).state = 2 → exec (.csbDelayResp p hd t4) s = .next (s.put (k.modClink p fun l =>
      { l with delay := (clampInt 0 65535 ((((l.t2 : Int) - l.t1) + ((t4 : Int) - l.t3)) / 2)).toNat }))) ∧
    (∀ (o : FwOffer) (b : Nat) (data : List (BitVec 8)), s.hub.csb.load.offer = some o → s.hub.csb.load.verifying = false →
      s.hub.csb.load.activating = false → b < offerBlocks o → s.hub.csb.load.got.contains b = true →
      exec (.csbFwBlock p hd o.tag b data) s = .next (s.put (k.bump (cntCsb 7)))) ∧
    ((s.hub.clink p).inOrder hd.seq = true →
      (∀ a : Assign, isD p = false → a.uid = Config.dieUid → a.standby = false → a.result ≠ 0 →
        exec (.csbAssign p hd a) s = .next (s.put
          (((g.modCsb fun c => { c with joined := false }).csbEvt 1).raise srcCsb 0x9003 2 [a.result, 0]))) ∧
      (∀ a : Assign, isD p = false → a.uid = Config.dieUid → a.standby = true → a.result = 0 →
        exec (.csbAssign p hd a) s = .next (s.put (g.modCsb fun c => { c with stby := 2, stbyLevel := a.level }))) ∧
      (∀ w, s.hub.csb.mgrLost = false → s.hub.bud.grant = w →
        exec (.csbGrant p hd w) s = .next (s.put (((((g.modBud fun b =>
          { b with grant := w, grantValid := true, holding := false, floored := false }).modCsb fun c =>
          { c with ackDue := true }).budNewB).budOverdraft).grantAckCheck))) ∧
      (∀ bytes, hd.src = 0 → exec (.csbMbx p hd bytes) s = .next (s.put (g.commandCheck 4 bytes))) ∧
      (∀ last, s.hub.csb.jcolSent = [] → exec (.csbJournalAck p hd last) s = .next (s.put g)) ∧
      (∀ last n r, s.hub.csb.jcolSent = [(n, r)] → n = last →
        exec (.csbJournalAck p hd last) s = .next (s.put (g.modCsb fun c => { c with jcolSent := [], jcolPos := n + 1 }))) ∧
      (∀ o : FwOffer, o.version = s.hub.sec.runVersion →
        exec (.csbFwOffer p hd o) s = .next (s.put (g.csbUp (.fwStatus .done)))) ∧
      (∀ o : FwOffer, o.version ≠ s.hub.sec.runVersion → s.hub.csb.load.offer = none →
        exec (.csbFwOffer p hd o) s = .next (s.put (((g.modNvm fun n =>
          n.modBank n.idle fun _ => { state := .writing, version := o.version }).modCsb fun c =>
            { c with load := { offer := some o, report := c.load.report } }).fwReport o))) ∧
      ((s.hub.nvm.bank s.hub.nvm.idle).state = .verified →
        exec (.csbFwActivate p hd) s = .next (s.put
          ((g.modCsb fun c => { c with load := { c.load with activating := true } }).pageStore
            (.config (.activeBank s.hub.nvm.idle 2))))))) ∧
  (∀ (s : State),
    (∀ (p : PodIx) (hd : CsbHdr), s.frameAt p →
      let g := s.hub.quiet.csbSeen p hd true
      let k := s.hub.quiet.csbSeen p hd false
      exec (.csbNull p hd) s = .next (s.put (k.csbTurn p hd)) ∧
      exec (.csbPoll p hd) s = .next (s.put (k.csbTurn p hd)) ∧
      (∀ (t1 : Nat), exec (.csbSync p hd t1) s = .next (s.put ((k.csbSync p t1).csbTurn p hd))) ∧
      (∀ (t4 : Nat), exec (.csbDelayResp p hd t4) s = .next (s.put ((k.csbDelayResp p t4).csbTurn p hd))) ∧
      (∀ (t b : Nat) (bs : List (BitVec 8)), exec (.csbFwBlock p hd t b bs) s = .next (s.put
        ((k.csbDownward p hd (.fwBlock t b bs) fun h => h.csbFwBlock t b bs).csbTurn p hd))) ∧
      ((s.hub.clink p).inOrder hd.seq = true →
        (∀ (a : Assign), exec (.csbAssign p hd a) s = .next (s.put ((g.csbAssign p a).csbTurn p hd))) ∧
        (∀ (w : Nat), exec (.csbGrant p hd w) s = .next (s.put
          ((g.csbDownward p hd (.grant w) fun h => h.csbGrant w).csbTurn p hd))) ∧
        (∀ (n : Nat), exec (.csbJournalAck p hd n) s = .next (s.put
          ((g.csbDownward p hd (.journalAck n) fun h => h.csbJournalAck n).csbTurn p hd))) ∧
        (∀ (o : FwOffer), exec (.csbFwOffer p hd o) s = .next (s.put
          ((g.csbDownward p hd (.fwOffer o) fun h => h.csbFwOffer o).csbTurn p hd))) ∧
        exec (.csbFwActivate p hd) s = .next (s.put ((g.csbDownward p hd .fwActivate fun h => h.csbFwActivate).csbTurn p hd)) ∧
        (∀ bs : List (BitVec 8), (s.hub.clink p).isParent = false → exec (.csbMbx p hd bs) s = .next (s.put
          ((g.csbDownward p hd (.mbx bs) fun h => if hd.src = 0 then h.commandCheck 4 bs else h.formatErr).csbTurn p hd))))))

/-- R256, R260, R263, R265, R266, R268 to R271: what the manager does with the frames that come up to it, and R255's bad frames. -/
def Obligations.ManagerFrames : Prop :=
  (∀ (s : State) (p : PodIx) (hd : CsbHdr), s.toManager p hd →
    let g := s.hub.quiet.csbSeen p hd true
    let k := s.hub.quiet.csbSeen p hd false
    exec (.csbBadFrame p) s = .next (s.put (((s.hub.quiet.csbEvt 9).bump (cntCsbLink p 2)).csbTurnOver p)) ∧
    exec (.csbDelayReq p hd) s = .next (s.put (((k.modClink p fun l =>
      { l with delay := Config.peerDelay k.freeCtr % 65536 }).drawn).csbQueue p { dst := 0x7E, src := k.csbSrc, body := .delayResp k.tbNs })) ∧
    ((s.hub.clink p).inOrder hd.seq = true →
      (∀ x : Hello, x.standby = false → x.parent ≠ 0x7E →
        exec (.csbHello p hd x) s = .next (s.put (((g.modCsb fun c =>
          { c with links := c.links.map fun l => { l with uids := l.uids.filter fun u => u != (x.uid, false) } }).modClink p fun l =>
            { l with uids := l.uids ++ [(x.uid, false)] }).helloPrimary x))) ∧
      (∀ child, (s.hub.worker (workerIx child)).parent = hd.src →
        exec (.csbLink p hd (.lost child)) s = .next (s.put (g.subtreeLost child))) ∧
      (∀ child, (s.hub.worker (workerIx child)).parent ≠ hd.src →
        exec (.csbLink p hd (.lost child)) s = .next (s.put g)) ∧
      (∀ d, (s.hub.worker (workerIx hd.src)).state = 1 →
        exec (.csbDemand p hd d) s = .next (s.put ((g.modWorker (workerIx hd.src) fun x =>
          { x with demand := d.cls, charges := d.charges, granted := true }).csbRetarget))) ∧
      (∀ c, (s.hub.worker (workerIx hd.src)).state = 1 →
        exec (.csbGrantAck p hd c) s = .next (s.put ((g.modWorker (workerIx hd.src) fun x =>
          { x with charges := c, ackWait := false, acked := true
                   held := if x.ackWait || x.acked then x.issued else x.held }).csbRetarget))) ∧
      (∀ bytes, exec (.csbMbx p hd bytes) s = .next (s.put (g.fwdResponse hd.src bytes))) ∧
      (∀ first (r x : Rec), (s.hub.csb.jcolAcks.any fun a => a.1 == hd.src && a.2.1 == lastOf first 1) = false →
          x = { r with devId := if r.devId = 0 then hd.src else r.devId, flags := r.flags ||| 4 } →
        exec (.csbJournal p hd first [r]) s = .next (s.put
          ((g.modCsb fun c => { c with jcolAcks := c.jcolAcks ++ [(hd.src, lastOf first 1, [x])] }).recordStore x))) ∧
      ((s.hub.worker (workerIx hd.src)).named = true → s.hub.csb.dist.phase = 1 →
        exec (.csbFwStatus p hd .failed) s = .next (s.put
          (((((g.modWorker (workerIx hd.src) fun x => { x with fw := 4 }).modCsb fun c =>
            { c with dist := { c.dist with phase := 5 } }).csbEvt 10).raise srcCsb 0x900B 4 [(workerIx hd.src).val, 1]))) ∧
        exec (.csbFwStatus p hd .ready) s = .next (s.put
          ((g.modWorker (workerIx hd.src) fun x => { x with fw := 2 }).fwAdvance))))) ∧
  (∀ (s : State),
    (∀ (p : PodIx) (hd : CsbHdr), s.frameAt p →
      let g := s.hub.quiet.csbSeen p hd true
      let k := s.hub.quiet.csbSeen p hd false
      exec (.csbDelayReq p hd) s = .next (s.put ((k.csbDelayReq p).csbTurn p hd)) ∧
      ((s.hub.clink p).inOrder hd.seq = true →
        (∀ (x : Hello), exec (.csbHello p hd x) s = .next (s.put ((g.csbHello p hd x).csbTurn p hd))) ∧
        (∀ (n : LinkNote), exec (.csbLink p hd n) s = .next (s.put ((g.csbLinkNote p hd n).csbTurn p hd))) ∧
        (∀ (d : Demand), exec (.csbDemand p hd d) s = .next (s.put
          ((g.csbUpward p hd (.demand d) fun h => h.csbDemand (workerIx hd.src) d).csbTurn p hd))) ∧
        (∀ (c : Nat), exec (.csbGrantAck p hd c) s = .next (s.put
          ((g.csbUpward p hd (.grantAck c) fun h => h.csbGrantAck (workerIx hd.src) c).csbTurn p hd))) ∧
        (∀ (n : Nat) (rs : List Rec), exec (.csbJournal p hd n rs) s = .next (s.put
          ((g.csbUpward p hd (.journal n rs) fun h => h.csbJournal hd.src n rs).csbTurn p hd))) ∧
        (∀ (r : FwReport), exec (.csbFwStatus p hd r) s = .next (s.put
          ((g.csbUpward p hd (.fwStatus r) fun h => h.csbFwStatus (workerIx hd.src) r).csbTurn p hd))) ∧
        (∀ bs : List (BitVec 8), (s.hub.clink p).isParent = true → exec (.csbMbx p hd bs) s = .next (s.put
          ((g.csbUpward p hd (.mbx bs) fun h => h.fwdResponse hd.src bs).csbTurn p hd))))))

/-- R252, R256, R257, R263, R264, R266 to R271: the cascade's own timers, each where its wait is under way. -/
def Obligations.CascadeTimers : Prop :=
  (∀ (s : State) (p : PodIx) (w : HubId), s.works domCsb →
    (s.hub.csb.role = 0 → exec .autoWaitExpiry s = .next (s.put (((s.hub.quiet.csbSetRole 2).budNewB).probesResume))) ∧
    (∀ x rest, (s.hub.clink p).sent = x :: rest → x.repeats < 3 →
      exec (.csbRepeatTimeout p) s = .next (s.put (s.hub.quiet.modClink p fun l => { l with sent := rest, again := l.again ++ [x] }))) ∧
    (∀ x rest, (s.hub.clink p).sent = x :: rest → 3 ≤ x.repeats → isD p = false →
      exec (.csbRepeatTimeout p) s = .next (s.put (s.hub.quiet.csbLoss p 3))) ∧
    ((s.hub.clink p).isParent = true → (s.hub.clink p).up = true → (s.hub.clink p).turn = false → s.hub.csb.role ≠ 2 →
      exec (.csbTurnGrant p) s = .next (s.put ((s.hub.quiet.csbSend p true).modClink p fun l => { l with turn := true }))) ∧
    exec (.csbTurnLapse p) s = .next (s.put (s.hub.quiet.modClink p fun l => { l with turn := false })) ∧
    (s.hub.csb.role = 1 → s.hub.csb.joined = false → s.hub.csb.parentUp = true →
      exec .helloRetry s = .next (s.put (s.hub.quiet.helloSend s.hub.csb.parentPod false))) ∧
    ((s.hub.clink p).isParent = true → (s.hub.clink p).up = true →
      exec (.syncInterval p) s = .next (s.put
        ((s.hub.quiet.csbQueue p { dst := 0x7E, src := s.hub.csbSrc, body := .sync 0 }).bump (cntCsb 0)))) ∧
    (s.hub.csb.joined = true → s.hub.csb.parentUp = true → s.hub.csb.demandAt = none →
      exec .demandInterval s = .next (s.put ((s.hub.quiet.modCsb fun c =>
        { c with demandAt := some s.hub.clk, demandDue := false }).csbUp (.demand s.hub.quiet.demandNow)))) ∧
    (s.hub.csb.role = 2 →
      exec .grantRefresh s = .next (s.put (s.hub.csbGranted.foldl
        (fun h v => h.csbDown { dst := v.val, src := 0, body := .grant (h.worker v).issued }) s.hub.quiet))) ∧
    (s.hub.csb.role = 2 → (s.hub.worker w).ackWait = true →
      exec (.grantAckTimeout w) s = .next (s.put (s.hub.quiet.csbEvt 11))) ∧
    (s.hub.csb.joined = true → s.hub.csb.parentUp = true → s.hub.csb.mgrLost = false → s.hub.jcolEn = true →
      s.hub.csb.jcolSent = [] → s.hub.quiet.jcolOverrun = s.hub.quiet → s.hub.clk < s.hub.csb.jcolSince + ticksPerSecond →
      s.hub.jcolEligible.take (min 8 (s.hub.jcolRate - s.hub.csb.jcolRate)) ≠ [] →
      exec .journalForward s = .next (s.put
        (let xs := s.hub.jcolEligible.take (min 8 (s.hub.jcolRate - s.hub.csb.jcolRate))
         (((s.hub.quiet.modCsb fun c => { c with jcolSent := xs, jcolRate := c.jcolRate + xs.length }).bumpBy (cntCsb 5) xs.length).csbUp
           (.journal (xs.head?.map Prod.fst |>.getD 0) (xs.map Prod.snd)))))) ∧
    (∀ n r, s.hub.csb.joined = true → s.hub.csb.parentUp = true → s.hub.csb.mgrLost = false → s.hub.csb.jcolSent = [(n, r)] →
      exec .journalRepeat s = .next (s.put (s.hub.quiet.csbUp (.journal n [r])))) ∧
    (s.hub.csb.dist.phase = 3 → (s.hub.worker w).activated = true → (s.hub.worker w).fw = 2 →
      exec (.fwActivateTimeout w) s = .next (s.put
        (((s.hub.quiet.modCsb fun c => { c with dist := { c.dist with phase := 5 } }).csbEvt 10).raise srcCsb 0x900B 4 [w.val, 2]))) ∧
    ((s.hub.clink p).up = true → isD p = false →
      exec (.linkSilence p) s = .next (s.put (s.hub.quiet.csbLoss p 2))) ∧
    (s.hub.csb.role = 1 → s.hub.csb.joined = true → s.hub.csb.mgrLost = false → s.hub.timing.unsync = true →
      exec .managerLoss s = .next (s.put
        ((((((s.hub.quiet.modCsb fun c => { c with mgrLost := true, lossAt := s.hub.clk, ackDue := false }).csbEvt 5).bump (cntCsb 3)).raise
          srcCsb 0x9007 3 (le16 s.hub.bud.grant)).modBud fun b =>
          { b with grantValid := false, holding := s.hub.bud.grantValid }).budNewB))) ∧
    (s.hub.csb.mgrLost = true → s.hub.bud.holding = true →
      exec .grantHoldExpiry s = .next (s.put ((s.hub.quiet.modBud fun b => { b with holding := false, floored := true }).budNewB))) ∧
    (s.hub.csb.role = 2 → exec (.workerSilence w) s = .next (s.put ((s.hub.quiet.workerLost w).csbRetarget))) ∧
    (s.hub.csb.role = 2 → (s.hub.worker w).state = 2 →
      exec (.workerHoldExpiry w) s = .next (s.put ((s.hub.quiet.modWorker w fun x => { x with state := 3, held := x.floor }).csbRetarget)))) ∧
  (∀ (s : State),
    (s.works domCsb →
      (∀ (p : PodIx), exec (.csbBadFrame p) s = .next (s.put (s.hub.quiet.csbBad p))) ∧
      (∀ (p : PodIx), exec (.csbRepeatTimeout p) s = .next (s.put (s.hub.quiet.csbUnacked p))) ∧
      (∀ (p : PodIx), exec (.csbTurnLapse p) s = .next (s.put (s.hub.quiet.modClink p fun l => { l with turn := false }))) ∧
      exec .helloRetry s = .next (s.put (s.hub.quiet.helloAgain)) ∧
      exec .demandInterval s = .next (s.put (s.hub.quiet.demandSend)) ∧
      exec .grantRefresh s = .next (s.put (s.hub.quiet.grantsAgain)) ∧
      exec .journalForward s = .next (s.put (s.hub.quiet.jcolForward)) ∧
      exec .journalRepeat s = .next (s.put (s.hub.quiet.jcolRepeat)) ∧
      exec .managerLoss s = .next (s.put (s.hub.quiet.managerLost)) ∧
      exec .grantHoldExpiry s = .next (s.put (s.hub.quiet.grantHoldEnd))))

/-- R281, R284, R286, R288, R289, R297, R298, R303, R417: the security unit. An error answer and an unexpected one fail the authentication; the
timeout; RELEASE and REAUTH of the guarded word; the responder answers one CHALLENGE at a time; a debug request is counted and
queued for the signature engine; a bad token is recorded and nothing opens; EXTEST takes effect with every sequencer in VB.OFF; a
register guarded for master 0 refuses every other master, and the core before its image is verified, with the denied access
counted. -/
def Obligations.SecurityCommands : Prop :=
  (∀ (s : State) (p : PodIx) (f : PdFrame) (m : Master),
    (s.hears p → isD p = true → (s.hub.quiet.pdRx p f false).authAwaits p = true →
        ((s.hub.quiet.pdRx p f false).fwl p).step = .certificate →
      exec (.securityResponseReceived p f .error) s = .next (s.put ((s.hub.quiet.pdRx p f false).authOver p .failed 2 0)) ∧
      exec (.securityResponseReceived p f .challengeAuth) s = .next (s.put ((s.hub.quiet.pdRx p f false).authOver p .failed 3 0))) ∧
    (∀ u d, s.hears p → podUp p = some u → ((s.hub.quiet.pdRx p f false).pde p).r3 = true →
        (s.hub.quiet.pdRx p f false).domRuns domSec = true → (s.hub.quiet.pdRx p f false).sec.respBusy = some d → ∀ q,
      exec (.securityRequestReceived p f q) s = .next (s.put
        (((s.hub.quiet.pdRx p f false).bump (cntSec 1)).respError (.pd u) 3))) ∧
    (∀ nonce, s.works domSec → s.hub.upstreamUp = true → s.hub.sched.credit = none → s.hub.sec.respBusy = none →
      exec (.mfAuthRequest (.challenge 0 nonce)) s = .next (s.put ((s.hub.quiet.countSetup.bump (cntSec 0)).modSec fun c =>
        { c with respBusy := some .mf, engine := c.engine ++ [.respond .mf 0 nonce] }))) ∧
    (∀ scope token, s.works domSec → exec (.dbgReq scope token) s = .next (s.put
      ((s.hub.quiet.bump (cntSec 3)).modSec fun c => { c with engine := c.engine ++ [.token none scope] }))) ∧
    (∀ scope rest (r : SigResult), s.works domSec → s.hub.sec.engine = .token none scope :: rest → r.ok = false →
      exec (.signatureDone r) s = .next (s.put
        ((((s.hub.quiet.modSec fun c => { c with engine := rest, nonceNo := c.nonceNo + 1 }).secEvt 1).bump (cntSec 4)).raise srcSec
          0x6005 4 [2, 1]))) ∧
    (∀ rest (r : SigResult), s.works domSec → s.hub.sec.engine = .challenge p :: rest → (s.hub.fwl p).step = .verifySignature →
      r.ok = true →
      exec (.signatureDone r) s = .next (s.put
        (((s.hub.quiet.modSec fun c => { c with engine := rest }).modFwl p fun f => { f with verified := some f.digest }).authOver p
          .passed 0 (s.hub.fwl p).root))) ∧
    (s.works (podDom p) → (s.hub.fwl p).auth = .running → (s.hub.fwl p).restart = false →
      exec (.authTimeout p) s = .next (s.put
        (((s.hub.quiet.authFree p).modPde p fun e => { e with pendAuth := false }).authOver p .timeout 0 0))) ∧
    (s.takes m (podBase p + 0xC0C) true → isD p = true →
      exec (.release m p) s = .next (s.put
        (((s.hub.quiet.written (podBase p + 0xC0C)).modFwl p fun f => { f with policy := false, blocked := [] }).modLink p fun l =>
          { l with disReason := if l.disReason = 3 then 0 else l.disReason }))) ∧
    (s.takes m (podBase p + 0xC0C) true → isD p = true → (s.hub.quiet.written (podBase p + 0xC0C)).securePort p = true →
        ((s.hub.quiet.written (podBase p + 0xC0C)).pde p).state ≠ .ready →
      exec (.reauth m p) s = .next (s.put
        ((((s.hub.quiet.written (podBase p + 0xC0C)).authFree p).modFwl p fun f => { f with step := .idle, keep := false }).modFwl p fun f =>
          { f with restart := true }))) ∧
    (s.hub.held = .none →
      exec .extest s = .next (s.put (s.hub.quiet.emit (.extest (s.hub.vbs.toList.all fun e => e.state == .off))))) ∧
    (s.hub.held = .none → s.hub.mayAccess m = true → s.hub.secure m = false →
      exec (.release m p) s = .next (s.put (s.hub.quiet.denyAcc m (podBase p + 0xC0C) true)) ∧
      exec (.reauth m p) s = .next (s.put (s.hub.quiet.denyAcc m (podBase p + 0xC0C) true)) ∧
      exec (.restart m) s = .next (s.put (s.hub.quiet.denyAcc m 0x78088 true)))) ∧
  (∀ (s : State),
    (∀ (p : PodIx) (f : PdFrame), s.hears p →
      (isD p = true → ∀ (q : AuthRequest) (a : AuthAnswer),
        exec (.securityRequestReceived p f q) s = .next (s.put ((s.hub.quiet.pdRx p f false).pdNotSup p)) ∧
        exec (.securityResponseReceived p f a) s = .next (s.put ((s.hub.quiet.pdRx p f false).authAnswer p a))) ∧
      (∀ u, podUp p = some u → ∀ (q : AuthRequest) (a : AuthAnswer),
        (((s.hub.quiet.pdRx p f false).pde p).r3 = true → (s.hub.quiet.pdRx p f false).domRuns domSec = true →
          exec (.securityRequestReceived p f q) s = .next (s.put ((s.hub.quiet.pdRx p f false).responder (.pd u) q))) ∧
        (((s.hub.quiet.pdRx p f false).pde p).r3 = false →
          exec (.securityRequestReceived p f q) s = .next (s.put ((s.hub.quiet.pdRx p f false).pdNotSup p))) ∧
        exec (.securityResponseReceived p f a) s = .next (s.put ((s.hub.quiet.pdRx p f false).pdUnexpected p f)))) ∧
    (s.works domSec →
      (∀ (r : SigResult), exec (.signatureDone r) s = .next (s.put (s.hub.quiet.sigDone r))) ∧
      (∀ (scope : Nat) (_token : List Word), exec (.dbgReq scope _token) s = .next (s.put (s.hub.quiet.dbgReq scope)))) ∧
    (∀ (p : PodIx), s.works (podDom p) →
      exec (.authTimeout p) s = .next (s.put (s.hub.quiet.authLate p))) ∧
    (∀ (m : Master) (p : PodIx), s.takes m (podBase p + 0xC0C) true →
      exec (.release m p) s = .next (s.put ((s.hub.quiet.written (podBase p + 0xC0C)).fwlRelease p)) ∧
      exec (.reauth m p) s = .next (s.put ((s.hub.quiet.written (podBase p + 0xC0C)).fwlReauth p))) ∧
    (s.hub.held = .none →
      exec .extest s = .next (s.put (s.hub.quiet.emit (.extest (s.hub.quiet.vbs.toList.all fun e => e.state == .off))))) ∧
    (s.works domSec →
      (s.hub.upstreamUp = true → s.hub.sched.credit = none → ∀ q : AuthRequest,
        exec (.mfAuthRequest q) s = .next (s.put (s.hub.quiet.countSetup.responder .mf q))) ∧
      (s.hub.upstreamUp = false ∨ s.hub.sched.credit ≠ none → ∀ q : AuthRequest,
        exec (.mfAuthRequest q) s = .next (s.put s.hub.quiet))))

/-- R318 to R321: the deferral queue, with the stores taken out of it that wait to start, never grows beyond its 64 KB, whatever store
comes, and a record of severity below 3 displaces none. A page that passes the check takes its place in the line of the stores,
unless it aims at the active bank: that one is refused, counted and recorded. -/
def Obligations.DeferralBound : Prop :=
  ∀ (h : Hub) (r : Rec) (st : Store), h.nvm.deferUsed ≤ 65536 →
    (h.recordStore r).nvm.deferUsed ≤ 65536 ∧ (h.pageStore st).nvm.deferUsed ≤ 65536 ∧
    (∀ n : Nvm, sumBy deferBytes n.deferQ ≤ n.deferUsed) ∧
    (r.sev < 3 → ∀ d ∈ h.nvm.deferQ, d ∈ (h.recordDefer r).nvm.deferQ) ∧
    (∀ k page bytes m, k = h.nvm.active →
      h.pageStore (.firmware k page bytes m) = (h.bump (cntNvm 24)).raise srcNvm 0xA105 3 [m]) ∧
    (h.storeOk (storeClass st) = true → storeClass st ≠ .journal →
        (∀ k page bytes m, st = .firmware k page bytes m → k ≠ h.nvm.active) →
      (h.pageStore st).nvm.inStore = h.nvm.inStore ++ [{ store := st, since := h.clk }] ∧ (h.pageStore st).nvm.deferQ = h.nvm.deferQ)

/-- R307 to R312, R326: the patrols and the scanner. A clean word moves a patrol on; a corrected word also shows its address and is
counted; an active copy that differs alone is repaired, counted and recorded. -/
def Obligations.ScrubAndParity : Prop :=
  (∀ (s : State) (word : Fin 17), s.hub.held = .none →
    (word.val < 16 → s.hub.nvm.scrubCell < 24575 → s.hub.memPowered domPe (s.hub.nvm.scrubCell / 1536) = true →
      exec (.shellScrub word .clean) s = .next (s.put (s.hub.quiet.modNvm fun n => { n with scrubCell := n.scrubCell + 1 }))) ∧
    (word.val < 16 → s.hub.nvm.scrubCell < 24575 → s.hub.memPowered domPe (s.hub.nvm.scrubCell / 1536) = true →
      exec (.shellScrub word (.corrected false)) s = .next (s.put ((s.hub.quiet.eccCe 0 (16 * s.hub.nvm.scrubCell + word.val) false).modNvm
        fun n => { n with scrubCell := s.hub.nvm.scrubCell + 1 }))) ∧
    (s.hub.nvm.mpScrub < 28672 → s.hub.memPowered domMp (s.hub.nvm.mpScrub / 4096) = true →
      exec (.mpScrub (.corrected false)) s = .next (s.put
        ((s.hub.quiet.eccCe 2 s.hub.nvm.mpScrub false).modNvm fun n => { n with mpScrub := s.hub.nvm.mpScrub + 1 }))) ∧
    (s.hub.domRuns domNvm = true →
      exec (.parityScan []) s = .next (s.put (s.hub.quiet.modNvm fun n => { n with scanPasses := (n.scanPasses + 1) % 65536 }))) ∧
    (∀ x : ParityHit, s.hub.domRuns domNvm = true → x.active &&& parBits x.off ≠ 0 → x.second &&& parBits x.off = 0 →
      s.hub.nvm.faults = [] → s.hub.quiet.groupPending x.off = false → inPeMem x.off = false →
      exec (.parityScan [x]) s = .next (s.put (((s.hub.quiet.parNote x.off 0 1).bump (cntNvm 14)).modNvm fun n =>
        { n with scanPasses := (n.scanPasses + 1) % 65536 })))) ∧
  (∀ (s : State),
    (s.hub.held = .none →
      (∀ (word : Fin 17) (r : EccRead), exec (.shellScrub word r) s = .next (s.put (s.hub.quiet.shellScrub word r))) ∧
      (∀ (r : EccRead), exec (.mpScrub r) s = .next (s.put (s.hub.quiet.mpScrub r)))) ∧
    (s.works domNvm →
      (∀ (hits : List ParityHit), exec (.parityScan hits) s = .next (s.put (s.hub.quiet.parityScan hits)))))

/-- R268, R315 to R319: the journal. The oldest raised record reaches the unit; below the least severity it is counted and not stored; a
store that finishes puts its record at HEAD, which moves on and wraps; `RD_IDX` shows a record's words; the hold-up voltage is
scaled from the pin. -/
def Obligations.JournalStores : Prop :=
  (∀ (s : State) (m : Master) (r : Rec) (rest : List Rec) (d : Deferred) (st : List Deferred) (idx pin : Nat),
    (s.hub.held = .none → s.hub.nvm.raised = r :: rest → s.hub.domOn domNvm = true → r.flags.testBit 2 = false → r.sev < s.hub.jnlMinSev →
      exec .journalRecord s = .next (s.put
        (((s.hub.quiet.modNvm fun n => { n with raised := rest }).bump (cntNvm 19)).domCheck))) ∧
    (s.hub.held = .none → s.hub.nvm.raised = r :: rest → s.hub.domOn domNvm = true → r.flags.testBit 2 = false →
      s.hub.jnlMinSev ≤ r.sev →
      exec .journalRecord s = .next (s.put
        (((s.hub.quiet.modNvm fun n => { n with raised := rest }).recordStore { r with devId := s.hub.csb.myId }).domCheck))) ∧
    (s.works domNvm → s.hub.nvm.inStore = d :: st → d.store = .record r → s.hub.csb.jcolAcks = [] → s.hub.nvm.head < 16383 →
      exec .mramStoreComplete s = .next (s.put (((s.hub.quiet.modNvm fun n =>
        { n with inStore := st, ring := smSet (fun _ => ({} : Rec)) n.ring n.head r, head := n.head + 1 }).bump
          (cntNvm 17)).lineStart))) ∧
    (∀ k page bytes by', s.works domNvm → s.hub.nvm.inStore = d :: st → d.store = .firmware k page bytes by' → s.hub.csb.jcolAcks = [] →
      exec .mramStoreComplete s = .next (s.put ((((s.hub.quiet.modNvm fun n => { n with inStore := st }).modNvm fun n =>
        n.modBank k fun b => b.put page bytes).bump (cntNvm 23)).lineStart))) ∧
    (s.takes m 0x78048 false →
      exec (.rdIdx m idx .clean) s = .next (s.put
        ((((s.hub.quiet.laneReached 0x78048).setAct 0x78048 (BitVec.ofNat 32 (idx % 16384))).parWritten 0x78048 false).modNvm fun n =>
          { n with win := bytesWords (recBytes (smGet (fun _ => ({} : Rec)) s.hub.nvm.ring (idx % 16384))), rdUe := false }))) ∧
    (s.hub.held = .none → s.hub.domRuns domNvm = false →
      exec (.holdupMeasurement pin) s = .next (s.put (s.hub.quiet.modNvm fun n =>
        { n with huV := pin * s.hub.huScale }).eccFlush)) ∧
    (s.works domNvm → s.hub.nvm.deferQ = [] → s.hub.sec.eraseStep = 0 → s.hub.csb.jcolAcks = [] →
      exec (.holdupMeasurement pin) s = .next (s.put (((s.hub.quiet.modNvm fun n =>
        { n with huV := pin * s.hub.huScale }).eccFlush).domCheck)))) ∧
  (∀ (s : State),
    (s.hub.held = .none →
      exec .journalRecord s = .next (s.put (s.hub.quiet.journalNext)) ∧
      (∀ (pinMv : Nat), exec (.holdupMeasurement pinMv) s = .next (s.put (s.hub.quiet.holdup pinMv)))) ∧
    (s.works domNvm →
      exec .mramStoreComplete s = .next (s.put (s.hub.quiet.storeNext))) ∧
    (∀ (m : Master), s.takes m 0x78048 false →
      (∀ (idx : Nat) (r : EccRead), exec (.rdIdx m idx r) s = .next (s.put ((s.hub.quiet.laneReached 0x78048).journalLoad idx r)))))

/-- R322, R323, R328: each cause restarts the MP; the third restart of a kind that counts, within 60 s of an activation, also rolls the firmware
back. -/
def Obligations.RestartAndRollback : Prop :=
  (∀ (s : State) (m : Master) (x : MpError),
    (s.works domMp → s.hub.rollbackEn = false →
      exec .mpWatchdogExpiry s = .next (s.put (s.hub.quiet.mpReset 3)) ∧
      exec .mpException s = .next (s.put (s.hub.quiet.mpReset 5)) ∧
      exec (.mpEccError x) s = .next (s.put ((s.hub.quiet.mpEcc x).mpReset 4))) ∧
    (s.takes m 0x78088 true →
      exec (.restart m) s = .next (s.put ((s.hub.quiet.written 0x78088).mpReset 1))) ∧
    (∀ h : Hub, h.domRuns domMp = true → (h.mpReset 3).nvm.inRestart = true ∧ (h.mpReset 3).nvm.lastRestart = 3 ∧
      (h.mpReset 3).mbx.umuriUp = false ∧ (h.mpReset 3).sec.bootOk = false ∧ (h.mpReset 3).sec.staging = [] ∧
      ((h.mpReset 3).nvm.restartsInWin = if h.inWindow then min 3 (h.nvm.restartsInWin + 1) else 0)) ∧
    (∀ h : Hub, (h.mpReset 3).nvm.restartsInWin = 3 → (h.mpReset 3).rollbackEn = true →
      h.mpRestart 3 = (h.mpReset 3).rollback)) ∧
  (∀ (s : State),
    (s.works domMp →
      exec .mpWatchdogExpiry s = .next (s.put (s.hub.quiet.mpRestart 3)) ∧
      exec .mpException s = .next (s.put (s.hub.quiet.mpRestart 5)) ∧
      (∀ (x : MpError), exec (.mpEccError x) s = .next (s.put ((s.hub.quiet.mpEcc x).mpRestart 4)))) ∧
    (∀ (m : Master), s.takes m 0x78088 true →
      exec (.restart m) s = .next (s.put ((s.hub.quiet.written 0x78088).mpRestart 1))))

/-- R332, R335: what refuses an entry. HUSK refuses always; a domain that another one which is not RET or OFF requires is refused first of
all for that, naming the lowest such domain; a refused domain is ON again if it had been leaving, and its refusal word shows the code,
the owner and the detail under a new number. -/
def Obligations.EntryRefusals : Prop :=
  (∀ (h : Hub) (t : DomTgt), ∃ o d, h.domReason domHusk t = some (6, o, d)) ∧
  (∀ (h : Hub) (n d : DomIx) (t : DomTgt), n ≠ domHusk → (domRequires d).contains n = true → (h.dom d).state ≠ .ret →
    (h.dom d).state ≠ .off → ∃ e : DomIx, e ≤ d ∧ h.domReason n t = some (6, domOwner e, e.val)) ∧
  (∀ (h : Hub) (n : DomIx) (code owner detail : Nat), h.seq.jobs = [] → n ≠ domNvm → n ≠ domBus → (h.dom n).fromRet = false →
    (h.dom n).planned = false →
    ((h.domRefuse n code owner detail).dom n).state
        = (if (h.dom n).state = .draining ∨ (h.dom n).state = .entering then .on else (h.dom n).state) ∧
    ((h.domRefuse n code owner detail).dom n).refCode = code ∧ ((h.domRefuse n code owner detail).dom n).refOwner = owner ∧
    ((h.domRefuse n code owner detail).dom n).refDetail = detail ∧
    ((h.domRefuse n code owner detail).dom n).refSeq = ((h.dom n).refSeq + 1) % 65536 ∧
    ∀ d, d ≠ n → (h.domRefuse n code owner detail).dom d = h.dom d)

/-- R334, R336, R337, R343: the steps of an entry. -/
def Obligations.EntrySteps : Prop :=
  (∀ (s : State) (m : Master) (n : DomIx) (hold : Bool),
    let off := 0x2100 + 0x10 * n.val
    let g := fun (v : Nat) => ((s.hub.quiet.laneReached off).setAct off (BitVec.ofNat 32 v)).parWritten off false
    let own := ((g 1).reqDrop n).modDom n fun d => { d with pend := .none, hold := false, planned := false }
    (s.takes m off false → (s.hub.dom n).state = .on → own.entryWait = false → own.domReason n .ret = none →
      exec (.tgt m n 1 false) s = .next (s.put (own.modDom n fun d =>
        { d with state := .draining, target := .ret, committed := false, drainAt := s.hub.clk, removed := 0, fromRet := false
                 stay := msSince s.hub.clk d.since }))) ∧
    (s.takes m off false → (s.hub.dom n).state = .off → n ≠ domHusk →
      exec (.tgt m n 2 false) s = .next (s.put
        (let k := (((g 2).reqDrop n).modDom n fun d => { d with pend := .none, hold := false, planned := false }).domJobsEnd n true
         if k.seq.plan.isEmpty && !k.entryWait then k.planJobsEnd else k))) ∧
    (s.takes m off false → n ≠ domHusk →
      exec (.tgt m n 2 true) s = .next (s.put ((g 6).modDom n fun d => { d with pend := .off, hold := true }))) ∧
    (s.takes m off false → n = domHusk → exec (.tgt m n 2 true) s = .next (s.put ((g 6).domRequest n .off false))) ∧
    (s.takes m off false → exec (.tgt m n 3 hold) s = .next (s.put (g (3 + if hold then 4 else 0)))) ∧
    (s.takes m 0x2000 false → (∀ d, (s.hub.dom d).hold = false) →
      exec (.planGo m) s = .next (s.put
        (((s.hub.quiet.written 0x2000).modSeq fun q => { q with stopDom := 31, plan := planOrder.filter fun d => q.plan.contains d }).domNext))) ∧
    (s.hub.held = .none → (s.hub.dom n).state = .draining → s.hub.quiet.domReason n (s.hub.dom n).target = none →
      s.hub.quiet.inFlight n (s.hub.dom n).target = none →
      exec (.domainDrained n) s = .next (s.put (s.hub.quiet.modDom n fun d => { d with state := .entering, committed := false }))) ∧
    (∀ b, s.hub.held = .none → (s.hub.dom n).state = .draining → s.hub.quiet.domReason n (s.hub.dom n).target = none →
      s.hub.quiet.inFlight n (s.hub.dom n).target = some b →
      exec (.tDrainExpiry n) s = .next (s.put ((s.hub.quiet.domRefuse n 1 b 0).domNext))) ∧
    (∀ c o x, s.hub.held = .none → (s.hub.dom n).state = .draining → s.hub.quiet.domReason n (s.hub.dom n).target = some (c, o, x) →
      exec (.tDrainExpiry n) s = .next (s.put ((s.hub.quiet.domRefuse n c o x).domNext)) ∧
      exec (.domainDrained n) s = .next (s.put ((s.hub.quiet.domRefuse n c o x).domNext))) ∧
    (s.hub.held = .none → (s.hub.dom n).state = .entering → (s.hub.dom n).committed = false → (s.hub.dom n).target = .ret →
      s.hub.quiet.domReason n .ret = none →
      exec (.domainCommitPoint n) s = .next (s.put (s.hub.quiet.modDom n fun d => { d with committed := true }))) ∧
    (s.hub.held = .none → (s.hub.dom n).state = .entering → (s.hub.dom n).committed = true → (s.hub.dom n).target = .ret →
      s.hub.seq.railsOff = [] → s.hub.railsNeeded n = [] → s.hub.seq.wakePend = 0 → n ≠ domMp → n ≠ domBus →
      exec (.domainEntryComplete n) s = .next (s.put
        ((((((s.hub.quiet.modDom n fun d =>
          { d with state := .ret, target := .none, committed := false, planned := false, since := s.hub.clk, fromRet := false }).modSeq fun q =>
          { q with offFor := none }).domEvt 0).bump (cntDom n 0)).raise srcDom 0x7001 1
            ([n.val, 3] ++ le16 (s.hub.dom n).removed ++ le32 s.hub.huskTime)).domJobsEnd n true |>.domNext)))) ∧
  (∀ (s : State),
    (∀ (m : Master) (n : DomIx) (t : Fin 4) (hold : Bool), s.takes m (0x2100 + 0x10 * n.val) false → t ≠ 3 →
      exec (.tgt m n t hold) s = .next (s.put ((((s.hub.quiet.laneReached (0x2100 + 0x10 * n.val)).setAct (0x2100 + 0x10 * n.val)
        (BitVec.ofNat 32 (t.val + if hold then 4 else 0))).parWritten (0x2100 + 0x10 * n.val) false).domRequest n (tgtOf t.val) hold))) ∧
    (∀ (m : Master), s.takes m 0x2000 false →
      exec (.planGo m) s = .next (s.put ((s.hub.quiet.written 0x2000).planGo))) ∧
    (s.hub.held = .none →
      (∀ (n : DomIx), exec (.domainDrained n) s = .next (s.put (s.hub.quiet.domDrained n))) ∧
      (∀ (n : DomIx), exec (.tDrainExpiry n) s = .next (s.put (s.hub.quiet.domDrainExpiry n))) ∧
      (∀ (n : DomIx), exec (.domainCommitPoint n) s = .next (s.put (s.hub.quiet.domCommit n))) ∧
      (∀ (n : DomIx), exec (.domainEntryComplete n) s = .next (s.put (s.hub.quiet.domEntered n)))))

/-- R340, R345 to R347, R356: wakes, exits, the SMBus matcher and the Husk's FIFO. -/
def Obligations.WakesAndExits : Prop :=
  (∀ (s : State) (m : Master) (n : DomIx) (lrc : Nat), s.hub.held = .none →
    (∀ src : Fin 32, 16 ≤ src.val → src.val < 24 → s.hub.wakeEn.testBit src.val = true →
      (s.hub.quiet.wakeSet src.val).all (fun d => s.hub.domOn d) = false →
      exec (.wake src) s = .next (s.put
        ((s.hub.quiet.bump (cntHusk src.val)).wakeRun src.val (s.hub.quiet.wakeSet src.val) 0x70))) ∧
    (∀ src : Fin 32, s.hub.wakeEn.testBit src.val = false → exec (.wake src) s = .next (s.put s.hub.quiet)) ∧
    (n = domOut → s.hub.quiet.exitReady n = true → (s.hub.dom n).prev = .ret → (∀ o, (s.hub.outlet o).missed = false) →
      (s.hub.dom n).queued = .none →
      exec (.domainExitComplete n lrc) s = .next (s.put
        ((((((s.hub.quiet.modDom n fun d => { d with state := .on, failing := false }).domEvt 1).bump (cntDom n 1)).raise srcDom 0x7002 1
            ([n.val, 3, (s.hub.dom n).source, 0] ++ le32 (s.hub.dom n).stay ++ le32 s.hub.huskTime)).domJobsEnd n true).domNext))) ∧
    (s.hub.quiet.exitReady n = false → exec (.domainExitComplete n lrc) s = .next (s.put s.hub.quiet)) ∧
    ((s.hub.dom n).state = .exiting → (s.hub.dom n).failing = true →
      exec (.exitRailRetry n) s = .next (s.put (s.hub.quiet.railsRequestOn n))) ∧
    (s.hub.smbMatchEn = true → s.hub.domOn domBus = false →
      exec .smbusWakeMatch s = .next (s.put (((s.hub.quiet.modSeq fun q =>
        { q with stretch := true, stretchNak := false }).emit (.stretch true)).wakeSource 16))) ∧
    (s.hub.seq.stretch = true → s.hub.domOn domBus = false →
      exec .tStretchExpiry s = .next (s.put
        (((((s.hub.quiet.modSeq fun q => { q with stretch := false, stretchNak := true }).emit (.stretch false)).huskEvt 1).bump
          (cntHusk 24)).raise srcHusk 0x7007 2 [s.hub.tStretch]))) ∧
    (s.hub.tmrS = 0 → exec .huskTimer s = .next (s.put s.hub.quiet)) ∧
    (s.hub.tmrS ≠ 0 → exec .huskTimer s = .next (s.put (s.hub.quiet.wakeSource 21))) ∧
    (∀ w ws rest, s.takes m 0x1018 false → s.hub.seq.fifo = (w :: ws) :: rest →
      exec (.huskFifoDataRead m) s = .next (s.put ((s.hub.quiet.modSeq fun q =>
        { q with fifo := if ws.isEmpty then rest else ws :: rest }).emit (.read w)))) ∧
    (s.takes m 0x1018 false → s.hub.seq.fifo = [] →
      exec (.huskFifoDataRead m) s = .next (s.put (s.hub.quiet.emit (.read pip)))) ∧
    (s.takes m 0x1020 false →
      exec (.fifoFlush m 0) s = .next (s.put ((s.hub.quiet.written 0x1020).modSeq fun q => { q with fifo := [] })))) ∧
  (∀ (s : State),
    (∀ m : Master, s.takes m 0x1018 false →
      exec (.huskFifoDataRead m) s = .next (s.put (s.hub.quiet.fifoPop.1.emit (.read s.hub.quiet.fifoPop.2)))) ∧
    (s.hub.held = .none →
      (∀ (src : Fin 32), exec (.wake src) s = .next (s.put (s.hub.quiet.wake src.val))) ∧
      (∀ (n : DomIx) (lrcCycles : Nat), exec (.domainExitComplete n lrcCycles) s =
        .next (s.put (s.hub.quiet.domExited n lrcCycles))) ∧
      (∀ (n : DomIx), exec (.exitRailRetry n) s = .next (s.put (s.hub.quiet.exitRetry n))) ∧
      exec .smbusWakeMatch s = .next (s.put (s.hub.quiet.smbMatch)) ∧
      exec .tStretchExpiry s = .next (s.put (s.hub.quiet.stretchExpiry))) ∧
    (∀ (m : Master), s.takes m 0x1020 false →
      (∀ (rest : Nat), exec (.fifoFlush m rest) s = .next (s.put ((s.hub.quiet.written 0x1020).fifoFlush rest)))))

/-- R351, R352, R357: the clocks. Without lock the MP does not leave FRC; a lost reference falls back, and its return relocks. -/
def Obligations.Clocks : Prop :=
  (∀ (s : State) (m : Master) (frc lrc : Nat), s.hub.held = .none →
    (s.takes m 0x3004 false → s.hub.seq.pllLock = false →
      exec (.mpClk m true) s = .next (s.put ((s.hub.quiet.laneReached 0x3004).clkEvt 2))) ∧
    (s.takes m 0x3004 false →
      exec (.mpClk m false) s = .next (s.put
        ((((s.hub.quiet.laneReached 0x3004).setAct 0x3004 0).modSeq fun q => { q with mpOnPll := false }).parWritten 0x3004 false))) ∧
    (s.hub.seq.pllLock = true →
      exec (.clockMeasurement frc lrc) s = .next (s.put (((s.hub.quiet.modSeq fun q =>
        { q with frcKhz := frc % 131072, lrcHz := lrc % 65536, clkSeq := (q.clkSeq + 1) % 128 }).evt 0x3010 31).evt 0x3014 31))) ∧
    (s.hub.refMonEn = true → s.hub.seq.refOk = true → s.hub.seq.fallback = false → s.hub.seq.pllLock = false →
      exec .refclkLost s = .next (s.put
        (((((s.hub.quiet.modSeq fun q =>
          { q with fallback := true, refOk := false, mpOnPll := false, lostAt := s.hub.clk }).clkEvt 0).bump
            (cntHusk 26)).raise srcClk 0x7006 3 ([1, 0] ++ le32 0)).holdoverOn))) ∧
    (s.hub.refMonEn = true → s.hub.seq.refOk = true → s.hub.seq.fallback = false → s.hub.seq.pllLock = true →
      s.hub.domOn domBus = true →
      exec .refclkLost s = .next (s.put
        ((((((s.hub.quiet.modSeq fun q =>
          { q with fallback := true, refOk := false, pllLock := false, mpOnPll := false, lostAt := s.hub.clk }).clkEvt 3).clkEvt 0).bump
            (cntHusk 26)).raise srcClk 0x7006 3 ([1, 0] ++ le32 0)).holdoverOn))) ∧
    (s.hub.domRuns domBus = true → s.hub.seq.fallback = true → s.hub.domRuns domMp = false →
      exec .refclkBack s = .next (s.put (((s.hub.quiet.modSeq fun q =>
        { q with refOk := true, pllLock := true, fallback := false }).clkEvt 1).raise srcClk 0x7006 3
          ([0, 0] ++ le32 ((s.hub.clk - s.hub.seq.lostAt) / 100))))) ∧
    (s.hub.seq.pllLock = true → s.hub.domOn domBus = true →
      exec .pllUnlock s = .next (s.put ((s.hub.quiet.modSeq fun q => { q with pllLock := false }).clkEvt 3))) ∧
    (s.hub.seq.pllLock = true → s.hub.domOn domBus = false →
      exec .pllUnlock s = .next (s.put (s.hub.quiet.modSeq fun q => { q with pllLock := false }))) ∧
    (s.hub.seq.pllLock = false → exec .pllUnlock s = .next (s.put s.hub.quiet))) ∧
  (∀ (s : State),
    (∀ (m : Master), s.takes m 0x3004 false →
      (∀ (pll : Bool), exec (.mpClk m pll) s = .next (s.put ((s.hub.quiet.laneReached 0x3004).mpClock pll)))) ∧
    (s.hub.held = .none →
      (∀ (frcKhz : Nat) (lrcHz : Nat), exec (.clockMeasurement frcKhz lrcHz) s =
        .next (s.put (s.hub.quiet.clockMeasured frcKhz lrcHz))) ∧
      exec .refclkLost s = .next (s.put (s.hub.quiet.refLost)) ∧
      exec .refclkBack s = .next (s.put (s.hub.quiet.refBack))))

/-- R178, R362, R365 to R367, R370 to R376, R381, R387, R396: the transports. A command that is whole and right takes a slot; a full ring answers
busy; a bad one is counted and dropped; the MF reads its responses in order, over UQ_0 while an upstream is ACTIVE, and sends nothing while
a held packet keeps the hub's credit; SMBus assembles, reads and acknowledges. -/
def Obligations.Transports : Prop :=
  (∀ (s : State) (urgent : Bool) (bytes : List (BitVec 8)) (tag : BitVec 16) (words : Fin 64), s.works domBus →
    let mf := mfRing urgent
    let sm := smbRing urgent
    let c := s.hub.quiet.countHostRx bytes.length
    let z := s.hub.quiet.countHostRx 0
    (s.hub.takesHeaders = false →
      exec (.mfCommand urgent bytes) s = .next (s.put s.hub.quiet) ∧ exec (.mfResponseIn urgent) s = .next (s.put s.hub.quiet)) ∧
    (s.hub.takesHeaders = true →
      ((s.hub.ring mf).cmds.length = 8 → exec (.mfCommand urgent bytes) s = .next (s.put (c.mfSay mf (.mbxBusy mf.val)))) ∧
      ((s.hub.ring mf).cmds.length < 8 → msgWhole bytes = false →
        exec (.mfCommand urgent bytes) s = .next (s.put ((c.mbxEvt 1).bump (cntMbx 1)))) ∧
      ((s.hub.ring mf).cmds.length < 8 → msgWhole bytes = true → msgCrcOk bytes = false →
        exec (.mfCommand urgent bytes) s = .next (s.put ((c.mbxEvt 0).bump (cntMbx 0)))) ∧
      ((s.hub.ring mf).cmds.length < 8 → msgWhole bytes = true → msgCrcOk bytes = true → (u16 bytes 6) % 2 = 0 →
        s.hub.tagUsed mf (msgOf bytes).tag = false → u16 bytes 0 ≠ 0x0102 → s.hub.mbx.restarting = false →
        exec (.mfCommand urgent bytes) s = .next (s.put ((((c.bump (cntRing mf 0)).modRing mf fun g =>
          { g with cmds := g.cmds ++ [msgOf bytes] }).stallEval mf).mpWanted mf))) ∧
      ((s.hub.ring mf).resps = [] → exec (.mfResponseIn urgent) s = .next (s.put (z.mfSay mf (.mbxBusy mf.val)))) ∧
      (∀ x rest, (s.hub.ring mf).resps = x :: rest → x.delivered = false →
        let sent := z.modRing mf fun g => { g with resps := g.resps.map fun y => if y.seq = x.seq then { y with delivered := true } else y }
        (s.hub.upsel.active = none → exec (.mfResponseIn urgent) s = .next (s.put (sent.emit (.mbx mf.val (x.bytes mf))))) ∧
        (s.hub.upsel.active ≠ none → z.uq0Room (x.bytes mf).length = true →
          exec (.mfResponseIn urgent) s = .next (s.put (sent.uq0Put
            { src := 16, ep := mf.val + 1, rank := if urgent then 0 else 4, bytes := (x.bytes mf).length
              say := [.mbx mf.val (x.bytes mf)], respSeq := some x.seq }))) ∧
        (s.hub.upsel.active ≠ none → z.uq0Room (x.bytes mf).length = false →
          exec (.mfResponseIn urgent) s = .next (s.put (z.mfSay mf (.mbxBusy mf.val))))) ∧
      (exec (.mfEp0Rewind 0) s = .next (s.put ((z.modRing 0 fun g =>
        { g with resps := g.resps.map fun x => { x with delivered := false } }).mfEp0 []))) ∧
      (exec (.mfEp0Clear 1) s = .next (s.put ((z.ringClear 1 1).mfEp0 []))) ∧
      (exec (.mfEp0RingStat 0) s = .next (s.put (z.mfEp0 (wordBytes (z.stRing 0) ++ wordBytes (z.stRing 1))))) ∧
      (∀ wIndex, 2 ≤ wIndex →
        exec (.mfEp0Rewind wIndex) s = .next (s.put (z.answer 16 0 2 (ep0Packet z.upstreamSs) 0 (.mbxBusy 6))))) ∧
    (s.hub.tagUsed mf tag = false → bytes.length = 8 → byteAt bytes 0 = 0 → byteAt bytes 1 = 0 →
      exec (.infoRespAck mf tag bytes) s = .next (s.put (s.hub.quiet.respFreeIf mf fun x => x.tag.toNat == u16 bytes 4))) ∧
    (s.hub.seq.stretchNak = false →
      ((s.hub.ring sm).cmds.length < 8 → bytes ≠ [] → (s.hub.ring sm).asm.length + bytes.length < 6 →
        exec (.smbBlockWrite urgent bytes true) s = .next (s.put (s.hub.quiet.modRing sm fun g =>
          { g with asm := g.asm ++ bytes, asmOpen := true }))) ∧
      ((s.hub.ring sm).cmds.length = 8 → (s.hub.ring sm).asmOpen = false →
        exec (.smbBlockWrite urgent bytes true) s = .next (s.put (s.hub.quiet.emit (.mbxBusy sm.val)))) ∧
      exec .smbDiscardAssembly s = .next (s.put ((s.hub.quiet.modRing 2 fun g => { g with asm := [], asmOpen := false }).modRing 3 fun g =>
        { g with asm := [], asmOpen := false })) ∧
      ((s.hub.ring sm).resps = [] →
        exec (.smbBlockRead urgent words) s = .next (s.put (s.hub.quiet.emit (.mbx sm.val (wordBytes pip))))) ∧
      (∀ x rest, (s.hub.ring sm).resps = x :: rest → (s.hub.ring sm).cursor = 0 → words.val < (respItem x sm).length →
        exec (.smbBlockRead urgent words) s = .next (s.put ((s.hub.quiet.modRing sm fun g => { g with cursor := words.val }).emit
          (.mbx sm.val (wordsBytes ((respItem x sm).take words.val)))))) ∧
      exec .smbCursorReset s = .next (s.put ((s.hub.quiet.modRing 2 fun g => { g with cursor := 0 }).modRing 3 fun g =>
        { g with cursor := 0 })) ∧
      exec (.smbAckTag urgent tag) s = .next (s.put (s.hub.quiet.respFreeIf sm fun x => x.tag == tag)) ∧
      (∀ x rest, (s.hub.ring sm).resps = x :: rest →
        exec (.smbAckHead urgent) s = .next (s.put (s.hub.quiet.respFreeIf sm fun y => y.seq == x.seq))) ∧
      exec .smbRingStatus s = .next (s.put (s.hub.quiet.emit (.mbx 2 (putLe 2 s.hub.quiet.smbStatus))))) ∧
    ((s.hub.ring sm).asmOpen = true →
      exec (.smbAssemblyTimeout urgent) s = .next (s.put
        (((s.hub.quiet.modRing sm fun g => { g with asm := [], asmOpen := false }).mbxEvt 5).bump (cntMbx 6))))) ∧
  (∀ (s : State),
    (s.works domBus →
      (∀ (urgent : Bool) (bytes : List (BitVec 8)), exec (.mfCommand urgent bytes) s =
        .next (s.put (s.hub.quiet.mfCommand (mfRing urgent) bytes))) ∧
      (∀ (urgent : Bool), exec (.mfResponseIn urgent) s = .next (s.put (s.hub.quiet.mfResponse (mfRing urgent)))) ∧
      (∀ (wIndex : Nat), exec (.mfEp0Rewind wIndex) s =
        .next (s.put (s.hub.quiet.ep0 wIndex fun r h => (h.ringRewind r).mfEp0 []))) ∧
      (∀ (wIndex : Nat), exec (.mfEp0Clear wIndex) s =
        .next (s.put (s.hub.quiet.ep0 wIndex fun r h => (h.ringClear r 1).mfEp0 []))) ∧
      (∀ (wIndex : Nat), exec (.mfEp0RingStat wIndex) s =
        .next (s.put (s.hub.quiet.ep0 wIndex fun _ h => h.mfEp0 (wordBytes (h.stRing 0) ++ wordBytes (h.stRing 1)))))) ∧
    (s.works domBus →
      (∀ (r : RingIx) (tag : BitVec 16) (arg : List (BitVec 8)),
        (s.hub.tagUsed r tag = false → exec (.infoRespAck r tag arg) s = .next (s.put (s.hub.quiet.respAck r arg))) ∧
        (s.hub.tagUsed r tag = true → exec (.infoRespAck r tag arg) s = .next (s.put ((s.hub.quiet.mbxEvt 2).bump (cntMbx 2))))) ∧
      (∀ (urgent : Bool) (bytes : List (BitVec 8)) (pecOk : Bool) (words : Fin 64), s.hub.seq.stretchNak = false →
        exec (.smbBlockWrite urgent bytes pecOk) s = .next (s.put (s.hub.quiet.smbWrite (smbRing urgent) bytes pecOk)) ∧
        exec (.smbBlockRead urgent words) s = .next (s.put (s.hub.quiet.smbRead (smbRing urgent) words.val)) ∧
        ((s.hub.ring (smbRing urgent)).resps = [] → exec (.smbAckHead urgent) s = .next (s.put s.hub.quiet))) ∧
      (∀ (urgent : Bool) (bytes : List (BitVec 8)) (pecOk : Bool) (words : Fin 64) (tag : BitVec 16), s.hub.seq.stretchNak = true →
        let nak := fun (r : RingIx) => (s.hub.quiet.modSeq fun q => { q with stretchNak := false }).emit (.mbxBusy r.val)
        exec (.smbBlockWrite urgent bytes pecOk) s = .next (s.put (nak (smbRing urgent))) ∧
        exec (.smbBlockRead urgent words) s = .next (s.put (nak (smbRing urgent))) ∧
        exec (.smbAckTag urgent tag) s = .next (s.put (nak (smbRing urgent))) ∧
        exec (.smbAckHead urgent) s = .next (s.put (nak (smbRing urgent))) ∧
        exec .smbDiscardAssembly s = .next (s.put (nak 2)) ∧ exec .smbCursorReset s = .next (s.put (nak 2)) ∧
        exec .smbRingStatus s = .next (s.put (nak 2))) ∧
      (∀ urgent : Bool, (s.hub.ring (smbRing urgent)).asmOpen = false →
        exec (.smbAssemblyTimeout urgent) s = .next (s.put s.hub.quiet))))

/-- R365, R368, R369, R381, R391, R396: which command starts, how a job completes, and the CLEAR and REWIND bits. -/
def Obligations.RingService : Prop :=
  (∀ (s : State) (m : Master) (r : RingIx) (job : Fin 8) (ue : List EccRead),
    (s.works domBus → s.hub.serving = false → exec (.commandStart ue) s = .next (s.put s.hub.quiet)) ∧
    (s.works domBus → s.hub.serving = true → s.hub.leastServed [1, 3] = some r →
      exec (.commandStart ue) s = .next (s.put (s.hub.quiet.startRing r ue))) ∧
    (s.works domBus → s.hub.serving = true → s.hub.leastServed [1, 3] = none → s.hub.leastServed [4] = none →
      s.hub.leastServed [0, 2] = some r →
      exec (.commandStart ue) s = .next (s.put (s.hub.quiet.startRing r ue))) ∧
    (∀ x o, s.works domBus → s.hub.serving = true → s.hub.mbx.jobs[(0 : Fin 8)] = some x → x.done = some o → x.drop = false →
      s.hub.respFree x.ring = true →
      exec .jobCompletion s = .next (s.put
        (((s.hub.quiet.modJob 0 fun _ => none).storeResp x.ring x.opcode x.tag true o.status o.detail
          ((s.hub.quiet.modJob 0 fun _ => none).completionData x o)).modRing x.ring fun g =>
          { g with resps := g.resps.map fun y => if y.completion && y.tag == x.tag then { y with job := 0 } else y }))) ∧
    (∀ x f, s.works domBus → s.hub.mbx.jobs[job] = some x → x.fwd = some f → x.done = none →
      exec (.forwardTimeout job) s = .next (s.put
        (((s.hub.quiet.jobEnd job { status := 8, detail := 1 }).mbxEvt 8).bump (cntMbx 7)))) ∧
    (s.takes m (0x7C014 + 8 * r.val) false →
      exec (.clear m r) s = .next (s.put ((s.hub.quiet.written (0x7C014 + 8 * r.val)).ringClear r 2))) ∧
    (s.takes m (0x7C014 + 8 * r.val) false →
      exec (.rewind m r) s = .next (s.put ((s.hub.quiet.written (0x7C014 + 8 * r.val)).ringRewind r)))) ∧
  (∀ (s : State),
    (s.works domBus →
      (∀ (ue : List EccRead), exec (.commandStart ue) s = .next (s.put (s.hub.quiet.commandStart ue)))) ∧
    (∀ (m : Master) (r : RingIx), s.takes m (0x7C014 + 8 * r.val) false →
      exec (.clear m r) s = .next (s.put ((s.hub.quiet.written (0x7C014 + 8 * r.val)).ringClear r 2)) ∧
      exec (.rewind m r) s = .next (s.put ((s.hub.quiet.written (0x7C014 + 8 * r.val)).ringRewind r))) ∧
    (s.works domBus → (s.hub.umuriRuns = true → exec .jobCompletion s = .next (s.put s.hub.quiet.jobComplete)) ∧
      (s.hub.umuriRuns = false → exec .jobCompletion s = .next (s.put s.hub.quiet)) ∧
      (∀ job : Fin 8, s.hub.mbx.jobs[job] = none → exec (.forwardTimeout job) s = .next (s.put s.hub.quiet))))

/-- R364, R365: no command puts more than eight commands into a ring's slots, wherever it comes from. -/
def Obligations.EightSlots : Prop :=
  ∀ (h : Hub) (r k : RingIx) (bytes : List Byte) (op : Nat) (tag : BitVec 16) (arg : List Byte), (h.ring k).cmds.length ≤ 8 →
    ((h.commandCheck r bytes).ring k).cmds.length ≤ 8 ∧ ((h.mfCommand r bytes).ring k).cmds.length ≤ 8 ∧
    ((h.ringClear r 2).ring k).cmds.length ≤ 8 ∧
    (¬ h.cmdFull r → ((h.cmdStore r { opcode := op, tag := tag, payload := arg }).ring k).cmds.length ≤ 8)

/-- R365, R382, R387 to R389: a command of each opcode of the families INFO, REG, COMMIT, SNAPSHOT, PORT, PD, BUDGET, SCHED and GATE
that can start runs with its own meaning, and its response is stored; one that arrives otherwise is checked, and takes a slot. -/
def Obligations.OpcodesToGate : Prop :=
  (∀ (s : State) (r : RingIx) (tag : BitVec 16) (arg : List (BitVec 8)),
    (s.startsOn r 0x0100 tag arg → exec (.infoGetVersion r tag arg) s = .next (s.put (s.hub.quiet.ran r 0x0100 tag arg [] opVersion))) ∧
    (s.startsOn r 0x0101 tag arg → exec (.infoGetCaps r tag arg) s = .next (s.put (s.hub.quiet.ran r 0x0101 tag arg [] opCaps))) ∧
    (s.startsOn r 0x0103 tag arg → exec (.infoRingStat r tag arg) s = .next (s.put (s.hub.quiet.ran r 0x0103 tag arg [] opRingStat))) ∧
    (s.startsOn r 0x0104 tag arg → exec (.infoEcho r tag arg) s = .next (s.put (s.hub.quiet.ran r 0x0104 tag arg [] opEcho))) ∧
    (s.startsOn r 0x0105 tag arg → exec (.infoJobStat r tag arg) s = .next (s.put (s.hub.quiet.ran r 0x0105 tag arg [] opJobStat))) ∧
    (s.startsOn r 0x0200 tag arg → exec (.regRead r tag arg) s = .next (s.put (s.hub.quiet.ran r 0x0200 tag arg [] opRegRead))) ∧
    (s.startsOn r 0x0201 tag arg → exec (.regWrite r tag arg) s = .next (s.put (s.hub.quiet.ran r 0x0201 tag arg [] opRegWrite))) ∧
    (s.startsOn r 0x0202 tag arg → exec (.regWriteMasked r tag arg) s = .next (s.put (s.hub.quiet.ran r 0x0202 tag arg [] opRegWriteMasked))) ∧
    (s.startsOn r 0x0203 tag arg → exec (.regReadMulti r tag arg) s = .next (s.put (s.hub.quiet.ran r 0x0203 tag arg [] opRegReadMulti))) ∧
    (s.startsOn r 0x0300 tag arg → exec (.mbxCommit r tag arg) s = .next (s.put (s.hub.quiet.ran r 0x0300 tag arg [] opMbxCommit))) ∧
    (s.startsOn r 0x0301 tag arg → exec (.mbxCommitStat r tag arg) s = .next (s.put (s.hub.quiet.ran r 0x0301 tag arg [] opCommitStat))) ∧
    (s.startsOn r 0x0400 tag arg → exec (.snapshotTake r tag arg) s = .next (s.put (s.hub.quiet.ran r 0x0400 tag arg [] opSnapTake))) ∧
    (s.startsOn r 0x0401 tag arg → exec (.snapshotRead r tag arg) s = .next (s.put (s.hub.quiet.ran r 0x0401 tag arg [] opSnapRead))) ∧
    (s.startsOn r 0x0500 tag arg → exec (.portStatus r tag arg) s = .next (s.put (s.hub.quiet.ran r 0x0500 tag arg [] opPortStatus))) ∧
    (s.startsOn r 0x0501 tag arg → exec (.portOutletStatus r tag arg) s = .next (s.put (s.hub.quiet.ran r 0x0501 tag arg [] opOutletStatus))) ∧
    (s.startsOn r 0x0502 tag arg → exec (.portEnable r tag arg) s = .next (s.put (s.hub.quiet.ran r 0x0502 tag arg [] opPortEnable))) ∧
    (s.startsOn r 0x0503 tag arg → exec (.portDetach r tag arg) s = .next (s.put (s.hub.quiet.ran r 0x0503 tag arg [] opPortDetach))) ∧
    (s.startsOn r 0x0504 tag arg → exec (.portLockoutClear r tag arg) s = .next (s.put (s.hub.quiet.ran r 0x0504 tag arg [] opLockoutClear))) ∧
    (s.startsOn r 0x0505 tag arg → exec (.portLatchClear r tag arg) s = .next (s.put (s.hub.quiet.ran r 0x0505 tag arg [] opLatchClear))) ∧
    (s.startsOn r 0x0506 tag arg → exec (.portRetryClear r tag arg) s = .next (s.put (s.hub.quiet.ran r 0x0506 tag arg [] opRetryClear))) ∧
    (s.startsOn r 0x0507 tag arg → exec (.portRebase r tag arg) s = .next (s.put (s.hub.quiet.ran r 0x0507 tag arg [] opRebase))) ∧
    (s.startsOn r 0x0508 tag arg → exec (.portOutletSet r tag arg) s = .next (s.put (s.hub.quiet.ran r 0x0508 tag arg [] opOutletSet))) ∧
    (s.startsOn r 0x0509 tag arg → exec (.portUpstreamSwitch r tag arg) s = .next (s.put (s.hub.quiet.ran r 0x0509 tag arg [] opUpstreamSwitch))) ∧
    (s.startsOn r 0x0600 tag arg → exec (.pdAction r tag arg) s = .next (s.put (s.hub.quiet.ran r 0x0600 tag arg [] opPdAction))) ∧
    (s.startsOn r 0x0601 tag arg → exec (.pdCaptureCtrl r tag arg) s = .next (s.put (s.hub.quiet.ran r 0x0601 tag arg [] opCaptureCtrl))) ∧
    (s.startsOn r 0x0602 tag arg → exec (.pdCaptureRead r tag arg) s = .next (s.put (s.hub.quiet.ran r 0x0602 tag arg [] opCaptureRead))) ∧
    (s.startsOn r 0x0700 tag arg → exec (.budgetStatus r tag arg) s = .next (s.put (s.hub.quiet.ran r 0x0700 tag arg [] opBudgetStatus))) ∧
    (s.startsOn r 0x0701 tag arg → exec (.budgetSet r tag arg) s = .next (s.put (s.hub.quiet.ran r 0x0701 tag arg [] opBudgetSet))) ∧
    (s.startsOn r 0x0702 tag arg → exec (.budgetSetClass r tag arg) s = .next (s.put (s.hub.quiet.ran r 0x0702 tag arg [] opSetClass))) ∧
    (s.startsOn r 0x0800 tag arg → exec (.schedQueueStat r tag arg) s = .next (s.put (s.hub.quiet.ran r 0x0800 tag arg [] opQueueStat))) ∧
    (s.startsOn r 0x0801 tag arg → exec (.schedShape r tag arg) s = .next (s.put (s.hub.quiet.ran r 0x0801 tag arg [] opShape))) ∧
    (s.startsOn r 0x0802 tag arg → exec (.schedPolice r tag arg) s = .next (s.put (s.hub.quiet.ran r 0x0802 tag arg [] opPolice))) ∧
    (s.startsOn r 0x0803 tag arg → exec (.schedPolicerStat r tag arg) s = .next (s.put (s.hub.quiet.ran r 0x0803 tag arg [] opPolicerStat))) ∧
    (s.startsOn r 0x0804 tag arg → exec (.schedMapWrite r tag arg) s = .next (s.put (s.hub.quiet.ran r 0x0804 tag arg [] opMapWrite))) ∧
    (s.startsOn r 0x0805 tag arg → exec (.schedMapRead r tag arg) s = .next (s.put (s.hub.quiet.ran r 0x0805 tag arg [] opMapRead))) ∧
    (s.startsOn r 0x0806 tag arg → exec (.schedMapFlip r tag arg) s = .next (s.put (s.hub.quiet.ran r 0x0806 tag arg [] opMapFlip))) ∧
    (s.startsOn r 0x0900 tag arg → exec (.gateLoad r tag arg) s = .next (s.put (s.hub.quiet.ran r 0x0900 tag arg [] opGateLoad))) ∧
    (s.startsOn r 0x0901 tag arg → exec (.gateApply r tag arg) s = .next (s.put (s.hub.quiet.ran r 0x0901 tag arg [] opGateApply))) ∧
    (s.startsOn r 0x0902 tag arg → exec (.gateCancel r tag arg) s = .next (s.put (s.hub.quiet.ran r 0x0902 tag arg [] opGateCancel))) ∧
    (s.startsOn r 0x0903 tag arg → exec (.gateStatus r tag arg) s = .next (s.put (s.hub.quiet.ran r 0x0903 tag arg [] opGateStatus)))) ∧
  (∀ (s : State),
    (∀ (r : RingIx) (tag : BitVec 16) (arg : List (BitVec 8)), s.works domBus →
      exec (.infoGetVersion r tag arg) s = .next (s.put (s.hub.quiet.opRow r 0x0100 tag arg [])) ∧
      exec (.infoGetCaps r tag arg) s = .next (s.put (s.hub.quiet.opRow r 0x0101 tag arg [])) ∧
      exec (.infoRingStat r tag arg) s = .next (s.put (s.hub.quiet.opRow r 0x0103 tag arg [])) ∧
      exec (.infoEcho r tag arg) s = .next (s.put (s.hub.quiet.opRow r 0x0104 tag arg [])) ∧
      exec (.infoJobStat r tag arg) s = .next (s.put (s.hub.quiet.opRow r 0x0105 tag arg [])) ∧
      exec (.regRead r tag arg) s = .next (s.put (s.hub.quiet.opRow r 0x0200 tag arg [])) ∧
      exec (.regWrite r tag arg) s = .next (s.put (s.hub.quiet.opRow r 0x0201 tag arg [])) ∧
      exec (.regWriteMasked r tag arg) s = .next (s.put (s.hub.quiet.opRow r 0x0202 tag arg [])) ∧
      exec (.regReadMulti r tag arg) s = .next (s.put (s.hub.quiet.opRow r 0x0203 tag arg [])) ∧
      exec (.mbxCommit r tag arg) s = .next (s.put (s.hub.quiet.opRow r 0x0300 tag arg [])) ∧
      exec (.mbxCommitStat r tag arg) s = .next (s.put (s.hub.quiet.opRow r 0x0301 tag arg [])) ∧
      exec (.snapshotTake r tag arg) s = .next (s.put (s.hub.quiet.opRow r 0x0400 tag arg [])) ∧
      exec (.snapshotRead r tag arg) s = .next (s.put (s.hub.quiet.opRow r 0x0401 tag arg [])) ∧
      exec (.portStatus r tag arg) s = .next (s.put (s.hub.quiet.opRow r 0x0500 tag arg [])) ∧
      exec (.portOutletStatus r tag arg) s = .next (s.put (s.hub.quiet.opRow r 0x0501 tag arg [])) ∧
      exec (.portEnable r tag arg) s = .next (s.put (s.hub.quiet.opRow r 0x0502 tag arg [])) ∧
      exec (.portDetach r tag arg) s = .next (s.put (s.hub.quiet.opRow r 0x0503 tag arg [])) ∧
      exec (.portLockoutClear r tag arg) s = .next (s.put (s.hub.quiet.opRow r 0x0504 tag arg [])) ∧
      exec (.portLatchClear r tag arg) s = .next (s.put (s.hub.quiet.opRow r 0x0505 tag arg [])) ∧
      exec (.portRetryClear r tag arg) s = .next (s.put (s.hub.quiet.opRow r 0x0506 tag arg [])) ∧
      exec (.portRebase r tag arg) s = .next (s.put (s.hub.quiet.opRow r 0x0507 tag arg [])) ∧
      exec (.portOutletSet r tag arg) s = .next (s.put (s.hub.quiet.opRow r 0x0508 tag arg [])) ∧
      exec (.portUpstreamSwitch r tag arg) s = .next (s.put (s.hub.quiet.opRow r 0x0509 tag arg [])) ∧
      exec (.pdAction r tag arg) s = .next (s.put (s.hub.quiet.opRow r 0x0600 tag arg [])) ∧
      exec (.pdCaptureCtrl r tag arg) s = .next (s.put (s.hub.quiet.opRow r 0x0601 tag arg [])) ∧
      exec (.pdCaptureRead r tag arg) s = .next (s.put (s.hub.quiet.opRow r 0x0602 tag arg [])) ∧
      exec (.budgetStatus r tag arg) s = .next (s.put (s.hub.quiet.opRow r 0x0700 tag arg [])) ∧
      exec (.budgetSet r tag arg) s = .next (s.put (s.hub.quiet.opRow r 0x0701 tag arg [])) ∧
      exec (.budgetSetClass r tag arg) s = .next (s.put (s.hub.quiet.opRow r 0x0702 tag arg [])) ∧
      exec (.schedQueueStat r tag arg) s = .next (s.put (s.hub.quiet.opRow r 0x0800 tag arg [])) ∧
      exec (.schedShape r tag arg) s = .next (s.put (s.hub.quiet.opRow r 0x0801 tag arg [])) ∧
      exec (.schedPolice r tag arg) s = .next (s.put (s.hub.quiet.opRow r 0x0802 tag arg [])) ∧
      exec (.schedPolicerStat r tag arg) s = .next (s.put (s.hub.quiet.opRow r 0x0803 tag arg [])) ∧
      exec (.schedMapWrite r tag arg) s = .next (s.put (s.hub.quiet.opRow r 0x0804 tag arg [])) ∧
      exec (.schedMapRead r tag arg) s = .next (s.put (s.hub.quiet.opRow r 0x0805 tag arg [])) ∧
      exec (.schedMapFlip r tag arg) s = .next (s.put (s.hub.quiet.opRow r 0x0806 tag arg [])) ∧
      exec (.gateLoad r tag arg) s = .next (s.put (s.hub.quiet.opRow r 0x0900 tag arg [])) ∧
      exec (.gateApply r tag arg) s = .next (s.put (s.hub.quiet.opRow r 0x0901 tag arg [])) ∧
      exec (.gateCancel r tag arg) s = .next (s.put (s.hub.quiet.opRow r 0x0902 tag arg [])) ∧
      exec (.gateStatus r tag arg) s = .next (s.put (s.hub.quiet.opRow r 0x0903 tag arg []))))

/-- R365, R382, R390: the same for the families SEC, DOM, JOURNAL, FW and CASCADE. -/
def Obligations.OpcodesFromSec : Prop :=
  (∀ (s : State) (r : RingIx) (tag : BitVec 16) (arg : List (BitVec 8)) (ue : List EccRead),
    (s.startsOn r 0x0A00 tag arg → exec (.secAttest r tag arg) s = .next (s.put (s.hub.quiet.ran r 0x0A00 tag arg [] opAttest))) ∧
    (s.startsOn r 0x0A01 tag arg → exec (.secPolicyLoad r tag arg) s = .next (s.put (s.hub.quiet.ran r 0x0A01 tag arg [] opPolicyLoad))) ∧
    (s.startsOn r 0x0A02 tag arg → exec (.secPolicyApply r tag arg) s = .next (s.put (s.hub.quiet.ran r 0x0A02 tag arg [] opPolicyApply))) ∧
    (s.startsOn r 0x0A03 tag arg → exec (.secFwlRelease r tag arg) s = .next (s.put (s.hub.quiet.ran r 0x0A03 tag arg [] opFwlRelease))) ∧
    (s.startsOn r 0x0A04 tag arg → exec (.secReauth r tag arg) s = .next (s.put (s.hub.quiet.ran r 0x0A04 tag arg [] opReauth))) ∧
    (s.startsOn r 0x0A05 tag arg → exec (.secRootSet r tag arg) s = .next (s.put (s.hub.quiet.ran r 0x0A05 tag arg [] opRootSet))) ∧
    (s.startsOn r 0x0A06 tag arg → exec (.secKeyGenerate r tag arg) s = .next (s.put (s.hub.quiet.ran r 0x0A06 tag arg [] opKeyGenerate))) ∧
    (s.startsOn r 0x0A07 tag arg → exec (.secKeyImport r tag arg) s = .next (s.put (s.hub.quiet.ran r 0x0A07 tag arg [] opKeyImport))) ∧
    (s.startsOn r 0x0A08 tag arg → exec (.secKeyErase r tag arg) s = .next (s.put (s.hub.quiet.ran r 0x0A08 tag arg [] opKeyErase))) ∧
    (s.startsOn r 0x0A09 tag arg → exec (.secCertStore r tag arg) s = .next (s.put (s.hub.quiet.ran r 0x0A09 tag arg [] opCertStore))) ∧
    (s.startsOn r 0x0A0A tag arg → exec (.secVerRaise r tag arg) s = .next (s.put (s.hub.quiet.ran r 0x0A0A tag arg [] opVerRaise))) ∧
    (s.startsOn r 0x0A0B tag arg → exec (.secDebugOpen r tag arg) s = .next (s.put (s.hub.quiet.ran r 0x0A0B tag arg [] opDebugOpen))) ∧
    (s.startsOn r 0x0A0C tag arg → exec (.secUtcSet r tag arg) s = .next (s.put (s.hub.quiet.ran r 0x0A0C tag arg [] opUtcSet))) ∧
    (s.startsOn r 0x0B00 tag arg → exec (.domRequest r tag arg) s = .next (s.put (s.hub.quiet.ran r 0x0B00 tag arg [] opDomRequest))) ∧
    (s.startsOn r 0x0B01 tag arg → exec (.domPlanGo r tag arg) s = .next (s.put (s.hub.quiet.ran r 0x0B01 tag arg [] opDomPlanGo))) ∧
    (s.startsOn r 0x0B02 tag arg → exec (.domStatus r tag arg) s = .next (s.put (s.hub.quiet.ran r 0x0B02 tag arg [] opDomStatus))) ∧
    (s.startsOn r 0x0C00 tag arg → exec (.journalInfo r tag arg) s = .next (s.put (s.hub.quiet.ran r 0x0C00 tag arg [] opJournalInfo))) ∧
    (s.startsOn r 0x0C01 tag arg → exec (.journalRead r tag arg ue) s = .next (s.put (s.hub.quiet.ran r 0x0C01 tag arg ue opJournalRead))) ∧
    (s.startsOn r 0x0C02 tag arg → exec (.journalSetMinSev r tag arg) s = .next (s.put (s.hub.quiet.ran r 0x0C02 tag arg [] opSetMinSev))) ∧
    (s.startsOn r 0x0D00 tag arg → exec (.fwStatus r tag arg) s = .next (s.put (s.hub.quiet.ran r 0x0D00 tag arg [] opFwStatus))) ∧
    (s.startsOn r 0x0D01 tag arg → exec (.fwBegin r tag arg) s = .next (s.put (s.hub.quiet.ran r 0x0D01 tag arg [] opFwBegin))) ∧
    (s.startsOn r 0x0D02 tag arg → exec (.fwWrite r tag arg) s = .next (s.put (s.hub.quiet.ran r 0x0D02 tag arg [] opFwWrite))) ∧
    (s.startsOn r 0x0D03 tag arg → exec (.fwVerify r tag arg) s = .next (s.put (s.hub.quiet.ran r 0x0D03 tag arg [] opFwVerify))) ∧
    (s.startsOn r 0x0D04 tag arg → exec (.fwActivate r tag arg) s = .next (s.put (s.hub.quiet.ran r 0x0D04 tag arg [] opFwActivate))) ∧
    (s.startsOn r 0x0D05 tag arg → exec (.fwRestart r tag arg) s = .next (s.put (s.hub.quiet.ran r 0x0D05 tag arg [] opFwRestart))) ∧
    (s.startsOn r 0x0E00 tag arg → exec (.cascadeStatus r tag arg) s = .next (s.put (s.hub.quiet.ran r 0x0E00 tag arg [] opCascadeStatus))) ∧
    (s.startsOn r 0x0E01 tag arg → exec (.cascadeWorkerStat r tag arg) s = .next (s.put (s.hub.quiet.ran r 0x0E01 tag arg [] opWorkerStat))) ∧
    (s.startsOn r 0x0E02 tag arg → exec (.cascadeForward r tag arg) s = .next (s.put (s.hub.quiet.ran r 0x0E02 tag arg [] opForward))) ∧
    (s.startsOn r 0x0E03 tag arg → exec (.cascadeSetLimits r tag arg) s = .next (s.put (s.hub.quiet.ran r 0x0E03 tag arg [] opSetLimits))) ∧
    (s.startsOn r 0x0E04 tag arg → exec (.cascadeFwDistribute r tag arg) s = .next (s.put (s.hub.quiet.ran r 0x0E04 tag arg [] opFwDistribute))) ∧
    (s.startsOn r 0x0E05 tag arg → exec (.cascadeForget r tag arg) s = .next (s.put (s.hub.quiet.ran r 0x0E05 tag arg [] opForget)))) ∧
  (∀ (s : State),
    (∀ (r : RingIx) (tag : BitVec 16) (arg : List (BitVec 8)) (ue : List EccRead), s.works domBus →
      exec (.secAttest r tag arg) s = .next (s.put (s.hub.quiet.opRow r 0x0A00 tag arg [])) ∧
      exec (.secPolicyLoad r tag arg) s = .next (s.put (s.hub.quiet.opRow r 0x0A01 tag arg [])) ∧
      exec (.secPolicyApply r tag arg) s = .next (s.put (s.hub.quiet.opRow r 0x0A02 tag arg [])) ∧
      exec (.secFwlRelease r tag arg) s = .next (s.put (s.hub.quiet.opRow r 0x0A03 tag arg [])) ∧
      exec (.secReauth r tag arg) s = .next (s.put (s.hub.quiet.opRow r 0x0A04 tag arg [])) ∧
      exec (.secRootSet r tag arg) s = .next (s.put (s.hub.quiet.opRow r 0x0A05 tag arg [])) ∧
      exec (.secKeyGenerate r tag arg) s = .next (s.put (s.hub.quiet.opRow r 0x0A06 tag arg [])) ∧
      exec (.secKeyImport r tag arg) s = .next (s.put (s.hub.quiet.opRow r 0x0A07 tag arg [])) ∧
      exec (.secKeyErase r tag arg) s = .next (s.put (s.hub.quiet.opRow r 0x0A08 tag arg [])) ∧
      exec (.secCertStore r tag arg) s = .next (s.put (s.hub.quiet.opRow r 0x0A09 tag arg [])) ∧
      exec (.secVerRaise r tag arg) s = .next (s.put (s.hub.quiet.opRow r 0x0A0A tag arg [])) ∧
      exec (.secDebugOpen r tag arg) s = .next (s.put (s.hub.quiet.opRow r 0x0A0B tag arg [])) ∧
      exec (.secUtcSet r tag arg) s = .next (s.put (s.hub.quiet.opRow r 0x0A0C tag arg [])) ∧
      exec (.domRequest r tag arg) s = .next (s.put (s.hub.quiet.opRow r 0x0B00 tag arg [])) ∧
      exec (.domPlanGo r tag arg) s = .next (s.put (s.hub.quiet.opRow r 0x0B01 tag arg [])) ∧
      exec (.domStatus r tag arg) s = .next (s.put (s.hub.quiet.opRow r 0x0B02 tag arg [])) ∧
      exec (.journalInfo r tag arg) s = .next (s.put (s.hub.quiet.opRow r 0x0C00 tag arg [])) ∧
      exec (.journalRead r tag arg ue) s = .next (s.put (s.hub.quiet.opRow r 0x0C01 tag arg ue)) ∧
      exec (.journalSetMinSev r tag arg) s = .next (s.put (s.hub.quiet.opRow r 0x0C02 tag arg [])) ∧
      exec (.fwStatus r tag arg) s = .next (s.put (s.hub.quiet.opRow r 0x0D00 tag arg [])) ∧
      exec (.fwBegin r tag arg) s = .next (s.put (s.hub.quiet.opRow r 0x0D01 tag arg [])) ∧
      exec (.fwWrite r tag arg) s = .next (s.put (s.hub.quiet.opRow r 0x0D02 tag arg [])) ∧
      exec (.fwVerify r tag arg) s = .next (s.put (s.hub.quiet.opRow r 0x0D03 tag arg [])) ∧
      exec (.fwActivate r tag arg) s = .next (s.put (s.hub.quiet.opRow r 0x0D04 tag arg [])) ∧
      exec (.fwRestart r tag arg) s = .next (s.put (s.hub.quiet.opRow r 0x0D05 tag arg [])) ∧
      exec (.cascadeStatus r tag arg) s = .next (s.put (s.hub.quiet.opRow r 0x0E00 tag arg [])) ∧
      exec (.cascadeWorkerStat r tag arg) s = .next (s.put (s.hub.quiet.opRow r 0x0E01 tag arg [])) ∧
      exec (.cascadeForward r tag arg) s = .next (s.put (s.hub.quiet.opRow r 0x0E02 tag arg [])) ∧
      exec (.cascadeSetLimits r tag arg) s = .next (s.put (s.hub.quiet.opRow r 0x0E03 tag arg [])) ∧
      exec (.cascadeFwDistribute r tag arg) s = .next (s.put (s.hub.quiet.opRow r 0x0E04 tag arg [])) ∧
      exec (.cascadeForget r tag arg) s = .next (s.put (s.hub.quiet.opRow r 0x0E05 tag arg []))))

/-- R363, R379, R386, R387, R389, R391: what some commands answer. ECHO returns its payload; a wrong length is BAD_ARG with 0xFFFF; an opcode no table
lists is UNSUPPORTED; a class that is not permitted is denied, counted and recorded; a status command of a domain that is not ON is
refused; a flip or a change of one group that already waits is rejected. -/
def Obligations.CommandAnswers : Prop :=
  ∀ (h : Hub) (c : OpCtx),
    (c.p.length ≤ 236 → opEcho h c = { h := h, o := { status := 0, data := c.p } }) ∧
    (236 < c.p.length → opEcho h c = { h := h, o := { status := 2, detail := 0xFFFF } }) ∧
    (c.p ≠ [] → opVersion h c = { h := h, o := { status := 2, detail := 0xFFFF } } ∧
      opCaps h c = { h := h, o := { status := 2, detail := 0xFFFF } } ∧ opCommitStat h c = { h := h, o := { status := 2, detail := 0xFFFF } }) ∧
    (∀ f, opClass c.opcode = none → h.mbx.bootRomOnly = false → opGate h c f = { h := h, o := { status := 3, detail := 1 } }) ∧
    (∀ f cls, cmdClass c.opcode c.p = some cls → h.mbx.bootRomOnly = false → (h.classes c.r).testBit cls = false →
      opGate h c f = { h := ((h.mbxEvt 3).bump (cntMbx 3)).raise srcMbx 0xA001 2 ([c.r.val, 0] ++ le16 c.opcode ++ le16 c.tag.toNat)
                       o := { status := 4, detail := 4096 + 2 ^ cls } }) ∧
    (∀ p : PodIx, c.p = [BitVec.ofNat 8 p.val] → h.domOn (podDom p) = false →
      opPortStatus h c = { h := h, o := { status := 6, detail := p.val } }) ∧
    (∀ p : PodIx, c.p = [BitVec.ofNat 8 p.val, 1] → h.glob.pending.getLsbD (h.groupOf (podBase p)) = true →
      opPortEnable h c = { h := h, o := { status := 5, detail := 4096 + h.groupOf (podBase p) } }) ∧
    (∀ p : PodIx, c.p = [BitVec.ofNat 8 p.val] →
      opRebase h c = { h := h.command c.m (podBase p + 0x10) false (fun k => k.rebase p), o := { status := 0 } }) ∧
    (∀ n : DomIx, c.p = [BitVec.ofNat 8 n.val, 1, 1] → (opDomRequest h c).o.status = 0 ∧ (opDomRequest h c).o.data.length = 4)
/-- R10, R297, R342, R399, R403, R406, R407, R416, R417, R419: the accesses. A closed JTAG port does nothing; a reserved address takes no write
and reads zero; a register of a domain that is RET, OFF or EXITING reads zero
and is counted; an aligned read of the active view puts out the register's word with its side effects, after the parity mismatch it
finds; an access to a domain that drains waits. A write of COMMIT commits
the groups of its mask, but none while the MP restarts or is not ON, unless it comes over JTAG (R10); one of SNAPSHOT takes the snapshot, a read of TIME_TB_LO latches the upper word, and the MP sets UTC. -/
def Obligations.AccessCommands : Prop :=
  (∀ (s : State) (m : Master) (addr : Nat) (size : Fin 4) (v : BitVec 64), s.hub.held = .none →
    (s.hub.mayAccess m = false →
      exec (.registerWrite m addr size v) s = .next (s.put s.hub.quiet) ∧ exec (.registerRead m addr { size := size }) s = .next (s.put s.hub.quiet)) ∧
    (s.hub.mayAccess m = true → size.val ≠ 3 → addr < 0x500000 →
      (regInfo (addr % 0x100000 - addr % 0x100000 % 4) = none →
        exec (.registerWrite m addr size v) s = .next (s.put s.hub.quiet) ∧
        exec (.registerRead m addr { size := size }) s = .next (s.put (s.hub.quiet.emit (.read 0))))) ∧
    (∀ i, regInfo addr = some i → i.g = 0 → addr < 0x100000 → addr % 4 = 0 → ¬ (0x40000 ≤ addr ∧ addr < 0x48000) →
      s.hub.mayAccess m = true → s.hub.accHeld m addr 2 = false →
      (s.hub.domDark (domOf addr) = true →
        exec (.registerRead m addr { size := 2 }) s = .next (s.put ((s.hub.quiet.accOff (domOf addr)).emit (.read 0)))) ∧
      (s.hub.domDark (domOf addr) = false →
        exec (.registerRead m addr { size := 2 }) s = .next (s.put
          ((s.hub.quiet.readEffect i addr (BitVec.allOnes 32) true).emit (.read (s.hub.quiet.viewWord i 0 addr)))) ∧
        exec (.rcRead m addr { size := 2 }) s = .next (s.put
          ((s.hub.quiet.readEffect i addr (BitVec.allOnes 32) true).emit (.read (s.hub.quiet.viewWord i 0 addr)))) ∧
        exec (.measRead m addr 2) s = .next (s.put
          ((s.hub.quiet.readEffect i addr (BitVec.allOnes 32) true).emit (.read (s.hub.quiet.viewWord i 0 addr)))))) ∧
    (s.hub.accHeld m addr size.val = true →
      exec (.registerWrite m addr size v) s = .next (s.put (s.hub.quiet.accHold { m := m, addr := addr, size := size.val, word := some v })) ∧
      exec (.registerRead m addr { size := size }) s = .next (s.put
        (s.hub.quiet.accHold { m := m, addr := addr, size := size.val, word := none }))) ∧
    (∀ x : ParityHit, s.hub.mayAccess m = true → s.hub.accHeld m addr size.val = false → addr < 0x500000 → addr % 2 ^ size.val = 0 →
      x.off ∈ readRegs addr size.val → s.hub.domDark (domOf x.off) = false →
      exec (.registerRead m addr { size := size, hits := [x] }) s = .next (s.put ((s.hub.quiet.parFault x).busRead m addr size.val))) ∧
    (∀ mask : BitVec 16, s.takes m 0x40 false → mask ≠ 0 → s.hub.nvm.inRestart = false → (m = 5 ∨ s.hub.domOn domMp = true) →
      exec (.commit m mask) s = .next (s.put (s.hub.quiet.commit mask))) ∧
    (∀ mask : BitVec 16, s.takes m 0x40 false → m ≠ 5 → (s.hub.nvm.inRestart = true ∨ s.hub.domOn domMp = false) →
      exec (.commit m mask) s = .next (s.put s.hub.quiet)) ∧
    (s.takes m 0x48 false → exec (.snapshot m) s = .next (s.put s.hub.quiet.snapshot)) ∧
    (s.takes m 0x4C008 false → exec (.timeTbLoRead m) s = .next (s.put
      ((s.hub.quiet.modTiming fun t => { t with hiLatch := s.hub.tb.extractLsb' 32 32 }).emit (.read (s.hub.tb.setWidth 32))))) ∧
    (∀ w : Word, s.takes m 0x60028 true → exec (.utcBaseHiWrite m w) s = .next (s.put
      (((s.hub.quiet.setAct 0x60028 w).parWritten 0x60028 false).modSec fun c => { c with utcValid := true }))) ∧
    (∀ w : Word, s.hub.mayAccess m = true → m ≠ 0 →
      exec (.utcBaseHiWrite m w) s = .next (s.put (s.hub.quiet.denyAcc m 0x60028 true)))) ∧
  (∀ (s : State),
    (∀ (m : Master) (addr : Nat) (size : Fin 4) (v : BitVec 64) (q : ReadReq) (mask : BitVec 16), s.hub.held = .none →
      exec (.registerWrite m addr size v) s = .next (s.put
        (s.hub.quiet.busAccess { m := m, addr := addr, size := size.val, word := some v })) ∧
      exec (.registerRead m addr q) s = .next (s.put (s.hub.quiet.busReadChecked m addr q)) ∧
      exec (.rcRead m addr q) s = .next (s.put (s.hub.quiet.busReadChecked m addr q)) ∧
      exec (.measRead m addr size) s = .next (s.put
        (s.hub.quiet.busAccess { m := m, addr := addr, size := size.val, word := none })) ∧
      exec (.timeTbLoRead m) s = .next (s.put (s.hub.quiet.busAccess { m := m, addr := 0x4C008, size := 2, word := none })) ∧
      exec (.commit m mask) s = .next (s.put
        (s.hub.quiet.busAccess { m := m, addr := 0x40, size := 2, word := some (mask.setWidth 64) })) ∧
      exec (.snapshot m) s = .next (s.put (s.hub.quiet.busAccess { m := m, addr := 0x48, size := 2, word := some 1 }))))

/-- R399, R403: a 32-bit write of a register whose writable bits are all buffered goes to the shadow alone. The shadow takes the word in
those bits, the register's group becomes pending, and no active copy, no other shadow, no event, no counter and no unit changes. -/
def Obligations.BufferedWrite : Prop :=
  ∀ (s : State) (m : Master) (x : Nat) (i : RegInfo) (v : BitVec 64), x < 0x100000 → x % 4 = 0 →
    ¬ (0x40000 ≤ x ∧ x < 0x48000) → regInfo x = some i → i.rwb ≠ 0 → i.rw = 0 → i.sc = 0 → i.g = 0 → s.takes m x false →
    s.hub.lockedBits m x = 0 → s.hub.mgrBits x = 0 →
    ∃ t, exec (.registerWrite m x 2 v) s = .next t ∧
      t.hub.shd x = (s.hub.shd x &&& ~~~i.rwb) ||| (v.setWidth 32 &&& i.rwb) ∧ (∀ y, y ≠ x → t.hub.shd y = s.hub.shd y) ∧
      t.hub.glob.pending = s.hub.glob.pending ||| BitVec.twoPow 16 (s.hub.groupOf x) ∧
      t.hub.active = s.hub.active ∧ t.hub.evts = s.hub.evts ∧ t.hub.counters = s.hub.counters ∧ t.hub.tcs = s.hub.tcs ∧
      t.hub.pdes = s.hub.pdes ∧ t.hub.vbs = s.hub.vbs ∧ t.hub.bud = s.hub.bud ∧ t.hub.sched = s.hub.sched ∧
      t.hub.sec = s.hub.sec ∧ t.hub.csb = s.hub.csb ∧ t.hub.mbx = s.hub.mbx ∧ t.hub.nvm.ring = s.hub.nvm.ring ∧
      t.pending = s.pending

/-- R415: an access whose address is not a multiple of its size writes nothing and reads zero, a 64-bit read in both halves. It sets
ACC_FAULT, makes the capture while ACC_FAULT was clear, with SIZE and the address of the access, and counts once; no register
word, no other event, no FIFO, no companion word and no unit changes. -/
def Obligations.MisalignedAccess : Prop :=
  ∀ (s : State) (m : Master) (addr : Nat) (size : Fin 4) (v : BitVec 64), s.hub.held = .none → s.hub.mayAccess m = true →
    addr % 2 ^ size.val ≠ 0 →
    size.val = 3 ∨ (addr < 0x500000 ∧ regInfo (addr % 0x100000 - addr % 0x100000 % 4) ≠ none) →
    ∀ wr : Bool, ∃ t, exec (if wr then .registerWrite m addr size v else .registerRead m addr { size := size }) s = .next t ∧
      t.hub.out = (if wr then [] else if size.val = 3 then [.read 0, .read 0] else [.read 0]) ∧
      (t.hub.evtWord 0x60).getLsbD 1 = true ∧ (∀ b : Nat, b ≠ 1 → (t.hub.evtWord 0x60).getLsbD b = (s.hub.evtWord 0x60).getLsbD b) ∧
      (∀ y, y ≠ 0x60 → t.hub.evtWord y = s.hub.evtWord y) ∧
      t.hub.glob = { s.hub.glob with accCap := if (s.hub.evtWord 0x60).getLsbD 1 then s.hub.glob.accCap
                                               else some { addr := addr, master := m.val, size := size.val, write := wr } } ∧
      t.hub.cnt cntAcc = (s.hub.cnt cntAcc + 1) % 2 ^ 64 ∧ (∀ k, k ≠ cntAcc → t.hub.cnt k = s.hub.cnt k) ∧
      t = { s with hub := { s.hub with out := t.hub.out, evts := t.hub.evts, counters := t.hub.counters, glob := t.hub.glob } }

/-- R400: a read through the shadow view or an alias is a peek. Whatever register it reads, of whatever size, where it finds no
parity mismatch (R311) it puts out a word and changes nothing: no event bit is cleared, no FIFO popped, no VALID cleared and no companion word latched. The mailbox's status
commands change nothing either (R386). -/
def Obligations.PeeksChangeNothing : Prop :=
  (∀ (s : State) (m : Master) (addr : Nat) (size : Fin 4) (i : RegInfo), s.hub.held = .none → s.hub.mayAccess m = true → 0x100000 ≤ addr →
    addr < 0x500000 → addr % 2 ^ size.val = 0 → regInfo (addr % 0x100000 - addr % 0x100000 % 4) = some i → s.hub.secure m = true ∨ i.g = 0 →
    s.hub.secure m = true ∨ ¬ (0x40000 ≤ addr % 0x100000 ∧ addr % 0x100000 < 0x48000) → s.hub.accHeld m addr size.val = false → s.hub.domDark (domOf (addr % 0x100000 - addr % 0x100000 % 4)) = false →
    (size.val ≠ 3 → ∃ w, exec (.registerRead m addr { size := size }) s = .next (s.put (s.hub.quiet.emit (.read w)))) ∧
    (∀ j, size.val = 3 → regInfo (addr % 0x100000 + 4) = some j → s.hub.secure m = true ∨ j.g = 0 → s.hub.domDark (domOf (addr % 0x100000 + 4)) = false →
      ∃ a b, exec (.registerRead m addr { size := size }) s = .next (s.put ((s.hub.quiet.emit (.read a)).emit (.read b))))) ∧
  (∀ (h : Hub) (c : OpCtx), (opPortStatus h c).h = h ∧ (opOutletStatus h c).h = h ∧ (opBudgetStatus h c).h = h ∧ (opQueueStat h c).h = h ∧
    (opPolicerStat h c).h = h ∧ (opGateStatus h c).h = h ∧ (opDomStatus h c).h = h ∧ (opJournalInfo h c).h = h ∧
    (opFwStatus h c).h = h ∧ (opCascadeStatus h c).h = h ∧ (opWorkerStat h c).h = h ∧ (opRingStat h c).h = h ∧ (opCommitStat h c).h = h)

/-- R251, R294, R322, R460 to R465: reset, start-up and boot. Each cause of a reset holds the device shut, and MRAM keeps the journal and the
stored configuration; the end of the last cause starts the device with every domain ON and the straps of that edge; each
verified bank and Umuri's start move the boot on. -/
def Obligations.ResetCommands : Prop :=
  (∀ (s : State) (r1 r0 ref : Bool) (rail : Fin 10) (res : BootResult),
    (s.hub.held = .none →
      ∀ c k, (c, k) ∈ [(Instr.rstNFall, ({ rstLow := true } : Held)), (Instr.dieOvertemperature, { overTemp := true }),
          (Instr.vddHuskLoss, { powerOn := true }), (Instr.powerOnReset, { rstLow := true })] →
        ∃ t, exec c s = .next t ∧ t.hub.held = k ∧ t.hub.shut ∧ t.hub.nvm.ring = s.hub.quiet.storesFinish.nvm.ring ∧
          t.hub.nvm.stored = s.hub.quiet.storesFinish.nvm.stored ∧ t.pending = s.pending) ∧
    (s.hub.held = { rstLow := true } →
      ∃ t, exec (.rstNRise r1 r0 ref) s = .next t ∧ t.hub.held = .none ∧ t.hub.csb.strap = strapOf r1 r0 ∧
        t.hub.seq.fallback = !ref ∧ (∀ n, (t.hub.dom n).state = .on) ∧ (∀ p, t.hub.tc p = tcsReset[p]) ∧
        t.hub.nvm.ring = s.hub.nvm.ring ∧ t.pending = s.pending) ∧
    (s.hub.held.rstLow = false → exec (.rstNRise r1 r0 ref) s = .next (s.put s.hub.quiet)) ∧
    (s.hub.held = { overTemp := true } →
      exec .overtemperatureRelease s = .next { s with hub := { s.hub.quiet with held := .none }.startUp }) ∧
    (s.hub.held = .none →
      (s.hub.railMatters rail = true →
        exec (.supplyUndervoltage rail) s = .next (s.put s.hub.quiet.resetHold.startUp)) ∧
      (s.hub.railMatters rail = false → exec (.supplyUndervoltage rail) s = .next (s.put s.hub.quiet))) ∧
    (s.works domMp → s.hub.sec.eraseAtBoot = false →
      let read := s.hub.quiet.pllStart.mramRead res.mram
      (s.hub.sec.boot = .verify → res.ok = true → isUe res.mram.read = false → s.hub.sec.secVerMin ≤ res.secVer →
        exec (.bootVerifyDone res) s = .next (s.put (read.bootRun s.hub.nvm.active false res))) ∧
      (s.hub.sec.boot = .verify → res.ok = false ∨ isUe res.mram.read = true ∨ res.secVer < s.hub.sec.secVerMin →
        exec (.bootVerifyDone res) s = .next (s.put (read.modSec fun c => { c with boot := .second }))) ∧
      (s.hub.sec.boot = .second → res.ok = false ∨ isUe res.mram.read = true ∨ res.secVer < s.hub.sec.secVerMin →
        exec (.bootVerifyDone res) s = .next (s.put read.bootStuck))) ∧
    (s.works domMp → s.hub.sec.boot = .start → s.hub.sec.coldBoot = false → s.hub.csb.load.activating = false →
      exec .umuriInService s = .next (s.put
        (((s.hub.quiet.modSec fun c => { c with boot := .done, coldBoot := false }).modMbx fun x =>
          { x with umuriUp := true, restarting := false }).modNvm fun n => { n with inRestart := false })))) ∧
  (∀ (s : State),
    (let g := s.hub.quiet;
      exec .rstNFall s = .next { s with hub := g.holdReset fun k => { k with rstLow := true } } ∧
      exec .dieOvertemperature s = .next { s with hub := g.holdReset fun k => { k with overTemp := true } } ∧
      exec .vddHuskLoss s = .next { s with hub := g.holdReset fun k => { k with powerOn := true } } ∧
      exec .powerOnReset s = .next { s with hub := { (g.holdReset fun k => { k with rstLow := true }) with
        held := { (g.holdReset fun k => { k with rstLow := true }).held with powerOn := false, rstLow := true }, clk := 0, clkBase := 0 } } ∧
      (∀ r1 r0 ref : Bool, exec (.rstNRise r1 r0 ref) s = .next { s with hub := g.rstRise r1 r0 ref }) ∧
      (s.hub.held.overTemp = true →
        exec .overtemperatureRelease s = .next { s with hub := g.release fun k => { k with overTemp := false } }) ∧
      (s.hub.held.overTemp = false → exec .overtemperatureRelease s = .next { s with hub := g })) ∧
    (s.hub.held = .none →
      (∀ (rail : Fin 10), exec (.supplyUndervoltage rail) s = .next (s.put (s.hub.quiet.railReset rail)))) ∧
    (s.works domMp →
      (∀ (r : BootResult), exec (.bootVerifyDone r) s = .next (s.put (s.hub.quiet.bootVerified r))) ∧
      exec .umuriInService s = .next (s.put (s.hub.quiet.umuriStart))))

/-- R461, R424: right after reset nothing holds the device, every domain is ON, the pods are unattached or disabled, no gate is on, every
register word, event bit and counter is at its reset value, the timebase stands at 0, no command waits, and what is held by address
is in canonical form. -/
def Obligations.ResetState : Prop :=
  State.reset.hub.held = .none ∧ State.reset.resetSafe ∧ State.reset.hub.canonical = true ∧ State.reset.pending = [] ∧
  (∀ n, (State.reset.hub.dom n).state = .on) ∧ (∀ x, State.reset.hub.act x = regReset x ∧ State.reset.hub.shd x = regReset x) ∧
  (∀ x, State.reset.hub.evtWord x = 0 ∧ State.reset.hub.cnt x = 0) ∧ State.reset.hub.tb = 0 ∧
  (∀ p, (State.reset.hub.tc p).attached = false ∧ (State.reset.hub.pde p).state = .disabled) ∧
  (∀ x, (State.reset.hub.vb x).state = .off ∧ (State.reset.hub.vb x).gpre = false ∧ (State.reset.hub.vb x).gmain = false)

/-- R460, R463: every command answers a next state and leaves the waiting commands as they are, and none but those that bring or end a
reset changes what holds the device. On a device held in reset every other command has no effect but the end of VBUS's fall. -/
def Obligations.EveryCommandAnswers : Prop :=
  ∀ (c : Instr) (s : State), ∃ t, exec c s = .next t ∧ t.pending = s.pending ∧
    (actsInReset c = false → t.hub.held = s.hub.held) ∧
    (actsInReset c = false → s.hub.held ≠ .none → t.hub = s.hub.quiet)

/-- R9, R463: an invariant of every step: a device held in reset has every gate off, VCONN and SBU open and no termination on CC, and Umuri
does not run. -/
def Obligations.ResetSafeKept : Prop :=
  ∀ s t : State, s.resetSafe → step s = .next t → t.resetSafe

/-- The block's form: a step with a command at the front of the queue is that command's effect with the rest of the queue. -/
def Obligations.StepRunsFront : Prop :=
  ∀ (s : State) (c : Instr) (rest : List Instr), s.pending = c :: rest → step s = exec c { s with pending := rest }
end

