-- ==== Sys2Proof/Laws/State.lean ====
section
/-! SUPPORT. What each named update of the block changes, and that it changes nothing else. -/

namespace Sys2Proof.Machine

variable (h : Hub)

@[simp] theorem Hub.quiet_frame :
    h.quiet.clk = h.clk ∧ h.quiet.clkBase = h.clkBase ∧ h.quiet.tb = h.tb ∧ h.quiet.timing = h.timing ∧
    h.quiet.gates = h.gates ∧ h.quiet.active = h.active ∧ h.quiet.shadow = h.shadow ∧ h.quiet.evts = h.evts ∧
    h.quiet.counters = h.counters ∧ h.quiet.holding = h.holding ∧ h.quiet.tcs = h.tcs ∧ h.quiet.pdes = h.pdes ∧
    h.quiet.captures = h.captures ∧ h.quiet.links = h.links ∧ h.quiet.vbs = h.vbs ∧ h.quiet.outlets = h.outlets ∧
    h.quiet.bud = h.bud ∧ h.quiet.rl = h.rl ∧ h.quiet.upsel = h.upsel ∧ h.quiet.sched = h.sched ∧ h.quiet.nvm = h.nvm ∧
    h.quiet.doms = h.doms ∧ h.quiet.seq = h.seq ∧ h.quiet.csb = h.csb ∧ h.quiet.fwls = h.fwls ∧ h.quiet.sec = h.sec ∧
    h.quiet.mbx = h.mbx ∧ h.quiet.glob = h.glob ∧ h.quiet.held = h.held ∧ h.quiet.freeCtr = h.freeCtr := by
  repeat' constructor

@[simp] theorem Hub.modTc_frame (p : PodIx) (f : Tc → Tc) :
    (h.modTc p f).clk = h.clk ∧ (h.modTc p f).clkBase = h.clkBase ∧ (h.modTc p f).tb = h.tb ∧
    (h.modTc p f).timing = h.timing ∧ (h.modTc p f).gates = h.gates ∧ (h.modTc p f).active = h.active ∧
    (h.modTc p f).shadow = h.shadow ∧ (h.modTc p f).evts = h.evts ∧ (h.modTc p f).counters = h.counters ∧
    (h.modTc p f).holding = h.holding ∧ (h.modTc p f).pdes = h.pdes ∧ (h.modTc p f).captures = h.captures ∧
    (h.modTc p f).links = h.links ∧ (h.modTc p f).vbs = h.vbs ∧ (h.modTc p f).outlets = h.outlets ∧
    (h.modTc p f).bud = h.bud ∧ (h.modTc p f).rl = h.rl ∧ (h.modTc p f).upsel = h.upsel ∧ (h.modTc p f).sched = h.sched ∧
    (h.modTc p f).nvm = h.nvm ∧ (h.modTc p f).doms = h.doms ∧ (h.modTc p f).seq = h.seq ∧ (h.modTc p f).csb = h.csb ∧
    (h.modTc p f).fwls = h.fwls ∧ (h.modTc p f).sec = h.sec ∧ (h.modTc p f).mbx = h.mbx ∧ (h.modTc p f).glob = h.glob ∧
    (h.modTc p f).held = h.held ∧ (h.modTc p f).out = h.out ∧ (h.modTc p f).freeCtr = h.freeCtr := by
  repeat' constructor

@[simp] theorem Hub.modPde_frame (p : PodIx) (f : Pde → Pde) :
    (h.modPde p f).clk = h.clk ∧ (h.modPde p f).clkBase = h.clkBase ∧ (h.modPde p f).tb = h.tb ∧
    (h.modPde p f).timing = h.timing ∧ (h.modPde p f).gates = h.gates ∧ (h.modPde p f).active = h.active ∧
    (h.modPde p f).shadow = h.shadow ∧ (h.modPde p f).evts = h.evts ∧ (h.modPde p f).counters = h.counters ∧
    (h.modPde p f).holding = h.holding ∧ (h.modPde p f).tcs = h.tcs ∧ (h.modPde p f).captures = h.captures ∧
    (h.modPde p f).links = h.links ∧ (h.modPde p f).vbs = h.vbs ∧ (h.modPde p f).outlets = h.outlets ∧
    (h.modPde p f).bud = h.bud ∧ (h.modPde p f).rl = h.rl ∧ (h.modPde p f).upsel = h.upsel ∧
    (h.modPde p f).sched = h.sched ∧ (h.modPde p f).nvm = h.nvm ∧ (h.modPde p f).doms = h.doms ∧
    (h.modPde p f).seq = h.seq ∧ (h.modPde p f).csb = h.csb ∧ (h.modPde p f).fwls = h.fwls ∧ (h.modPde p f).sec = h.sec ∧
    (h.modPde p f).mbx = h.mbx ∧ (h.modPde p f).glob = h.glob ∧ (h.modPde p f).held = h.held ∧ (h.modPde p f).out = h.out ∧
    (h.modPde p f).freeCtr = h.freeCtr := by
  repeat' constructor

@[simp] theorem Hub.modCapture_frame (p : PodIx) (f : Capture → Capture) :
    (h.modCapture p f).clk = h.clk ∧ (h.modCapture p f).clkBase = h.clkBase ∧ (h.modCapture p f).tb = h.tb ∧
    (h.modCapture p f).timing = h.timing ∧ (h.modCapture p f).gates = h.gates ∧ (h.modCapture p f).active = h.active ∧
    (h.modCapture p f).shadow = h.shadow ∧ (h.modCapture p f).evts = h.evts ∧ (h.modCapture p f).counters = h.counters ∧
    (h.modCapture p f).holding = h.holding ∧ (h.modCapture p f).tcs = h.tcs ∧ (h.modCapture p f).pdes = h.pdes ∧
    (h.modCapture p f).links = h.links ∧ (h.modCapture p f).vbs = h.vbs ∧ (h.modCapture p f).outlets = h.outlets ∧
    (h.modCapture p f).bud = h.bud ∧ (h.modCapture p f).rl = h.rl ∧ (h.modCapture p f).upsel = h.upsel ∧
    (h.modCapture p f).sched = h.sched ∧ (h.modCapture p f).nvm = h.nvm ∧ (h.modCapture p f).doms = h.doms ∧
    (h.modCapture p f).seq = h.seq ∧ (h.modCapture p f).csb = h.csb ∧ (h.modCapture p f).fwls = h.fwls ∧
    (h.modCapture p f).sec = h.sec ∧ (h.modCapture p f).mbx = h.mbx ∧ (h.modCapture p f).glob = h.glob ∧
    (h.modCapture p f).held = h.held ∧ (h.modCapture p f).out = h.out ∧ (h.modCapture p f).freeCtr = h.freeCtr := by
  repeat' constructor

@[simp] theorem Hub.modLink_frame (p : PodIx) (f : Link → Link) :
    (h.modLink p f).clk = h.clk ∧ (h.modLink p f).clkBase = h.clkBase ∧ (h.modLink p f).tb = h.tb ∧
    (h.modLink p f).timing = h.timing ∧ (h.modLink p f).gates = h.gates ∧ (h.modLink p f).active = h.active ∧
    (h.modLink p f).shadow = h.shadow ∧ (h.modLink p f).evts = h.evts ∧ (h.modLink p f).counters = h.counters ∧
    (h.modLink p f).holding = h.holding ∧ (h.modLink p f).tcs = h.tcs ∧ (h.modLink p f).pdes = h.pdes ∧
    (h.modLink p f).captures = h.captures ∧ (h.modLink p f).vbs = h.vbs ∧ (h.modLink p f).outlets = h.outlets ∧
    (h.modLink p f).bud = h.bud ∧ (h.modLink p f).rl = h.rl ∧ (h.modLink p f).upsel = h.upsel ∧
    (h.modLink p f).sched = h.sched ∧ (h.modLink p f).nvm = h.nvm ∧ (h.modLink p f).doms = h.doms ∧
    (h.modLink p f).seq = h.seq ∧ (h.modLink p f).csb = h.csb ∧ (h.modLink p f).fwls = h.fwls ∧
    (h.modLink p f).sec = h.sec ∧ (h.modLink p f).mbx = h.mbx ∧ (h.modLink p f).glob = h.glob ∧
    (h.modLink p f).held = h.held ∧ (h.modLink p f).out = h.out ∧ (h.modLink p f).freeCtr = h.freeCtr := by
  repeat' constructor

@[simp] theorem Hub.modVb_frame (x : PathIx) (f : Efuse → Efuse) :
    (h.modVb x f).clk = h.clk ∧ (h.modVb x f).clkBase = h.clkBase ∧ (h.modVb x f).tb = h.tb ∧
    (h.modVb x f).timing = h.timing ∧ (h.modVb x f).gates = h.gates ∧ (h.modVb x f).active = h.active ∧
    (h.modVb x f).shadow = h.shadow ∧ (h.modVb x f).evts = h.evts ∧ (h.modVb x f).counters = h.counters ∧
    (h.modVb x f).holding = h.holding ∧ (h.modVb x f).tcs = h.tcs ∧ (h.modVb x f).pdes = h.pdes ∧
    (h.modVb x f).captures = h.captures ∧ (h.modVb x f).links = h.links ∧ (h.modVb x f).outlets = h.outlets ∧
    (h.modVb x f).bud = h.bud ∧ (h.modVb x f).rl = h.rl ∧ (h.modVb x f).upsel = h.upsel ∧ (h.modVb x f).sched = h.sched ∧
    (h.modVb x f).nvm = h.nvm ∧ (h.modVb x f).doms = h.doms ∧ (h.modVb x f).seq = h.seq ∧ (h.modVb x f).csb = h.csb ∧
    (h.modVb x f).fwls = h.fwls ∧ (h.modVb x f).sec = h.sec ∧ (h.modVb x f).mbx = h.mbx ∧ (h.modVb x f).glob = h.glob ∧
    (h.modVb x f).held = h.held ∧ (h.modVb x f).out = h.out ∧ (h.modVb x f).freeCtr = h.freeCtr := by
  repeat' constructor

@[simp] theorem Hub.modOut_frame (o : OutIx) (f : Outlet → Outlet) :
    (h.modOut o f).clk = h.clk ∧ (h.modOut o f).clkBase = h.clkBase ∧ (h.modOut o f).tb = h.tb ∧
    (h.modOut o f).timing = h.timing ∧ (h.modOut o f).gates = h.gates ∧ (h.modOut o f).active = h.active ∧
    (h.modOut o f).shadow = h.shadow ∧ (h.modOut o f).evts = h.evts ∧ (h.modOut o f).counters = h.counters ∧
    (h.modOut o f).holding = h.holding ∧ (h.modOut o f).tcs = h.tcs ∧ (h.modOut o f).pdes = h.pdes ∧
    (h.modOut o f).captures = h.captures ∧ (h.modOut o f).links = h.links ∧ (h.modOut o f).vbs = h.vbs ∧
    (h.modOut o f).bud = h.bud ∧ (h.modOut o f).rl = h.rl ∧ (h.modOut o f).upsel = h.upsel ∧
    (h.modOut o f).sched = h.sched ∧ (h.modOut o f).nvm = h.nvm ∧ (h.modOut o f).doms = h.doms ∧
    (h.modOut o f).seq = h.seq ∧ (h.modOut o f).csb = h.csb ∧ (h.modOut o f).fwls = h.fwls ∧ (h.modOut o f).sec = h.sec ∧
    (h.modOut o f).mbx = h.mbx ∧ (h.modOut o f).glob = h.glob ∧ (h.modOut o f).held = h.held ∧ (h.modOut o f).out = h.out ∧
    (h.modOut o f).freeCtr = h.freeCtr := by
  repeat' constructor

@[simp] theorem Hub.modBud_frame (f : Budget → Budget) :
    (h.modBud f).clk = h.clk ∧ (h.modBud f).clkBase = h.clkBase ∧ (h.modBud f).tb = h.tb ∧ (h.modBud f).timing = h.timing ∧
    (h.modBud f).gates = h.gates ∧ (h.modBud f).active = h.active ∧ (h.modBud f).shadow = h.shadow ∧
    (h.modBud f).evts = h.evts ∧ (h.modBud f).counters = h.counters ∧ (h.modBud f).holding = h.holding ∧
    (h.modBud f).tcs = h.tcs ∧ (h.modBud f).pdes = h.pdes ∧ (h.modBud f).captures = h.captures ∧
    (h.modBud f).links = h.links ∧ (h.modBud f).vbs = h.vbs ∧ (h.modBud f).outlets = h.outlets ∧ (h.modBud f).rl = h.rl ∧
    (h.modBud f).upsel = h.upsel ∧ (h.modBud f).sched = h.sched ∧ (h.modBud f).nvm = h.nvm ∧ (h.modBud f).doms = h.doms ∧
    (h.modBud f).seq = h.seq ∧ (h.modBud f).csb = h.csb ∧ (h.modBud f).fwls = h.fwls ∧ (h.modBud f).sec = h.sec ∧
    (h.modBud f).mbx = h.mbx ∧ (h.modBud f).glob = h.glob ∧ (h.modBud f).held = h.held ∧ (h.modBud f).out = h.out ∧
    (h.modBud f).freeCtr = h.freeCtr := by
  repeat' constructor

@[simp] theorem Hub.modRl_frame (f : Rlink → Rlink) :
    (h.modRl f).clk = h.clk ∧ (h.modRl f).clkBase = h.clkBase ∧ (h.modRl f).tb = h.tb ∧ (h.modRl f).timing = h.timing ∧
    (h.modRl f).gates = h.gates ∧ (h.modRl f).active = h.active ∧ (h.modRl f).shadow = h.shadow ∧
    (h.modRl f).evts = h.evts ∧ (h.modRl f).counters = h.counters ∧ (h.modRl f).holding = h.holding ∧
    (h.modRl f).tcs = h.tcs ∧ (h.modRl f).pdes = h.pdes ∧ (h.modRl f).captures = h.captures ∧ (h.modRl f).links = h.links ∧
    (h.modRl f).vbs = h.vbs ∧ (h.modRl f).outlets = h.outlets ∧ (h.modRl f).bud = h.bud ∧ (h.modRl f).upsel = h.upsel ∧
    (h.modRl f).sched = h.sched ∧ (h.modRl f).nvm = h.nvm ∧ (h.modRl f).doms = h.doms ∧ (h.modRl f).seq = h.seq ∧
    (h.modRl f).csb = h.csb ∧ (h.modRl f).fwls = h.fwls ∧ (h.modRl f).sec = h.sec ∧ (h.modRl f).mbx = h.mbx ∧
    (h.modRl f).glob = h.glob ∧ (h.modRl f).held = h.held ∧ (h.modRl f).out = h.out ∧ (h.modRl f).freeCtr = h.freeCtr := by
  repeat' constructor

@[simp] theorem Hub.modUpsel_frame (f : Upsel → Upsel) :
    (h.modUpsel f).clk = h.clk ∧ (h.modUpsel f).clkBase = h.clkBase ∧ (h.modUpsel f).tb = h.tb ∧
    (h.modUpsel f).timing = h.timing ∧ (h.modUpsel f).gates = h.gates ∧ (h.modUpsel f).active = h.active ∧
    (h.modUpsel f).shadow = h.shadow ∧ (h.modUpsel f).evts = h.evts ∧ (h.modUpsel f).counters = h.counters ∧
    (h.modUpsel f).holding = h.holding ∧ (h.modUpsel f).tcs = h.tcs ∧ (h.modUpsel f).pdes = h.pdes ∧
    (h.modUpsel f).captures = h.captures ∧ (h.modUpsel f).links = h.links ∧ (h.modUpsel f).vbs = h.vbs ∧
    (h.modUpsel f).outlets = h.outlets ∧ (h.modUpsel f).bud = h.bud ∧ (h.modUpsel f).rl = h.rl ∧
    (h.modUpsel f).sched = h.sched ∧ (h.modUpsel f).nvm = h.nvm ∧ (h.modUpsel f).doms = h.doms ∧
    (h.modUpsel f).seq = h.seq ∧ (h.modUpsel f).csb = h.csb ∧ (h.modUpsel f).fwls = h.fwls ∧ (h.modUpsel f).sec = h.sec ∧
    (h.modUpsel f).mbx = h.mbx ∧ (h.modUpsel f).glob = h.glob ∧ (h.modUpsel f).held = h.held ∧ (h.modUpsel f).out = h.out ∧
    (h.modUpsel f).freeCtr = h.freeCtr := by
  repeat' constructor

@[simp] theorem Hub.modSched_frame (f : Sched → Sched) :
    (h.modSched f).clk = h.clk ∧ (h.modSched f).clkBase = h.clkBase ∧ (h.modSched f).tb = h.tb ∧
    (h.modSched f).timing = h.timing ∧ (h.modSched f).gates = h.gates ∧ (h.modSched f).active = h.active ∧
    (h.modSched f).shadow = h.shadow ∧ (h.modSched f).evts = h.evts ∧ (h.modSched f).counters = h.counters ∧
    (h.modSched f).holding = h.holding ∧ (h.modSched f).tcs = h.tcs ∧ (h.modSched f).pdes = h.pdes ∧
    (h.modSched f).captures = h.captures ∧ (h.modSched f).links = h.links ∧ (h.modSched f).vbs = h.vbs ∧
    (h.modSched f).outlets = h.outlets ∧ (h.modSched f).bud = h.bud ∧ (h.modSched f).rl = h.rl ∧
    (h.modSched f).upsel = h.upsel ∧ (h.modSched f).nvm = h.nvm ∧ (h.modSched f).doms = h.doms ∧
    (h.modSched f).seq = h.seq ∧ (h.modSched f).csb = h.csb ∧ (h.modSched f).fwls = h.fwls ∧ (h.modSched f).sec = h.sec ∧
    (h.modSched f).mbx = h.mbx ∧ (h.modSched f).glob = h.glob ∧ (h.modSched f).held = h.held ∧ (h.modSched f).out = h.out ∧
    (h.modSched f).freeCtr = h.freeCtr := by
  repeat' constructor

@[simp] theorem Hub.modTiming_frame (f : Timing → Timing) :
    (h.modTiming f).clk = h.clk ∧ (h.modTiming f).clkBase = h.clkBase ∧ (h.modTiming f).tb = h.tb ∧
    (h.modTiming f).gates = h.gates ∧ (h.modTiming f).active = h.active ∧ (h.modTiming f).shadow = h.shadow ∧
    (h.modTiming f).evts = h.evts ∧ (h.modTiming f).counters = h.counters ∧ (h.modTiming f).holding = h.holding ∧
    (h.modTiming f).tcs = h.tcs ∧ (h.modTiming f).pdes = h.pdes ∧ (h.modTiming f).captures = h.captures ∧
    (h.modTiming f).links = h.links ∧ (h.modTiming f).vbs = h.vbs ∧ (h.modTiming f).outlets = h.outlets ∧
    (h.modTiming f).bud = h.bud ∧ (h.modTiming f).rl = h.rl ∧ (h.modTiming f).upsel = h.upsel ∧
    (h.modTiming f).sched = h.sched ∧ (h.modTiming f).nvm = h.nvm ∧ (h.modTiming f).doms = h.doms ∧
    (h.modTiming f).seq = h.seq ∧ (h.modTiming f).csb = h.csb ∧ (h.modTiming f).fwls = h.fwls ∧
    (h.modTiming f).sec = h.sec ∧ (h.modTiming f).mbx = h.mbx ∧ (h.modTiming f).glob = h.glob ∧
    (h.modTiming f).held = h.held ∧ (h.modTiming f).out = h.out ∧ (h.modTiming f).freeCtr = h.freeCtr := by
  repeat' constructor

@[simp] theorem Hub.modGate_frame (d : DirIx) (f : Gate → Gate) :
    (h.modGate d f).clk = h.clk ∧ (h.modGate d f).clkBase = h.clkBase ∧ (h.modGate d f).tb = h.tb ∧
    (h.modGate d f).timing = h.timing ∧ (h.modGate d f).active = h.active ∧ (h.modGate d f).shadow = h.shadow ∧
    (h.modGate d f).evts = h.evts ∧ (h.modGate d f).counters = h.counters ∧ (h.modGate d f).holding = h.holding ∧
    (h.modGate d f).tcs = h.tcs ∧ (h.modGate d f).pdes = h.pdes ∧ (h.modGate d f).captures = h.captures ∧
    (h.modGate d f).links = h.links ∧ (h.modGate d f).vbs = h.vbs ∧ (h.modGate d f).outlets = h.outlets ∧
    (h.modGate d f).bud = h.bud ∧ (h.modGate d f).rl = h.rl ∧ (h.modGate d f).upsel = h.upsel ∧
    (h.modGate d f).sched = h.sched ∧ (h.modGate d f).nvm = h.nvm ∧ (h.modGate d f).doms = h.doms ∧
    (h.modGate d f).seq = h.seq ∧ (h.modGate d f).csb = h.csb ∧ (h.modGate d f).fwls = h.fwls ∧
    (h.modGate d f).sec = h.sec ∧ (h.modGate d f).mbx = h.mbx ∧ (h.modGate d f).glob = h.glob ∧
    (h.modGate d f).held = h.held ∧ (h.modGate d f).out = h.out ∧ (h.modGate d f).freeCtr = h.freeCtr := by
  repeat' constructor

@[simp] theorem Hub.modNvm_frame (f : Nvm → Nvm) :
    (h.modNvm f).clk = h.clk ∧ (h.modNvm f).clkBase = h.clkBase ∧ (h.modNvm f).tb = h.tb ∧ (h.modNvm f).timing = h.timing ∧
    (h.modNvm f).gates = h.gates ∧ (h.modNvm f).active = h.active ∧ (h.modNvm f).shadow = h.shadow ∧
    (h.modNvm f).evts = h.evts ∧ (h.modNvm f).counters = h.counters ∧ (h.modNvm f).holding = h.holding ∧
    (h.modNvm f).tcs = h.tcs ∧ (h.modNvm f).pdes = h.pdes ∧ (h.modNvm f).captures = h.captures ∧
    (h.modNvm f).links = h.links ∧ (h.modNvm f).vbs = h.vbs ∧ (h.modNvm f).outlets = h.outlets ∧ (h.modNvm f).bud = h.bud ∧
    (h.modNvm f).rl = h.rl ∧ (h.modNvm f).upsel = h.upsel ∧ (h.modNvm f).sched = h.sched ∧ (h.modNvm f).doms = h.doms ∧
    (h.modNvm f).seq = h.seq ∧ (h.modNvm f).csb = h.csb ∧ (h.modNvm f).fwls = h.fwls ∧ (h.modNvm f).sec = h.sec ∧
    (h.modNvm f).mbx = h.mbx ∧ (h.modNvm f).glob = h.glob ∧ (h.modNvm f).held = h.held ∧ (h.modNvm f).out = h.out ∧
    (h.modNvm f).freeCtr = h.freeCtr := by
  repeat' constructor

@[simp] theorem Hub.modDom_frame (n : DomIx) (f : Dom → Dom) :
    (h.modDom n f).clk = h.clk ∧ (h.modDom n f).clkBase = h.clkBase ∧ (h.modDom n f).tb = h.tb ∧
    (h.modDom n f).timing = h.timing ∧ (h.modDom n f).gates = h.gates ∧ (h.modDom n f).active = h.active ∧
    (h.modDom n f).shadow = h.shadow ∧ (h.modDom n f).evts = h.evts ∧ (h.modDom n f).counters = h.counters ∧
    (h.modDom n f).holding = h.holding ∧ (h.modDom n f).tcs = h.tcs ∧ (h.modDom n f).pdes = h.pdes ∧
    (h.modDom n f).captures = h.captures ∧ (h.modDom n f).links = h.links ∧ (h.modDom n f).vbs = h.vbs ∧
    (h.modDom n f).outlets = h.outlets ∧ (h.modDom n f).bud = h.bud ∧ (h.modDom n f).rl = h.rl ∧
    (h.modDom n f).upsel = h.upsel ∧ (h.modDom n f).sched = h.sched ∧ (h.modDom n f).nvm = h.nvm ∧
    (h.modDom n f).seq = h.seq ∧ (h.modDom n f).csb = h.csb ∧ (h.modDom n f).fwls = h.fwls ∧ (h.modDom n f).sec = h.sec ∧
    (h.modDom n f).mbx = h.mbx ∧ (h.modDom n f).glob = h.glob ∧ (h.modDom n f).held = h.held ∧ (h.modDom n f).out = h.out ∧
    (h.modDom n f).freeCtr = h.freeCtr := by
  repeat' constructor

@[simp] theorem Hub.modSeq_frame (f : Seq → Seq) :
    (h.modSeq f).clk = h.clk ∧ (h.modSeq f).clkBase = h.clkBase ∧ (h.modSeq f).tb = h.tb ∧ (h.modSeq f).timing = h.timing ∧
    (h.modSeq f).gates = h.gates ∧ (h.modSeq f).active = h.active ∧ (h.modSeq f).shadow = h.shadow ∧
    (h.modSeq f).evts = h.evts ∧ (h.modSeq f).counters = h.counters ∧ (h.modSeq f).holding = h.holding ∧
    (h.modSeq f).tcs = h.tcs ∧ (h.modSeq f).pdes = h.pdes ∧ (h.modSeq f).captures = h.captures ∧
    (h.modSeq f).links = h.links ∧ (h.modSeq f).vbs = h.vbs ∧ (h.modSeq f).outlets = h.outlets ∧ (h.modSeq f).bud = h.bud ∧
    (h.modSeq f).rl = h.rl ∧ (h.modSeq f).upsel = h.upsel ∧ (h.modSeq f).sched = h.sched ∧ (h.modSeq f).nvm = h.nvm ∧
    (h.modSeq f).doms = h.doms ∧ (h.modSeq f).csb = h.csb ∧ (h.modSeq f).fwls = h.fwls ∧ (h.modSeq f).sec = h.sec ∧
    (h.modSeq f).mbx = h.mbx ∧ (h.modSeq f).glob = h.glob ∧ (h.modSeq f).held = h.held ∧ (h.modSeq f).out = h.out ∧
    (h.modSeq f).freeCtr = h.freeCtr := by
  repeat' constructor

@[simp] theorem Hub.modCsb_frame (f : Csb → Csb) :
    (h.modCsb f).clk = h.clk ∧ (h.modCsb f).clkBase = h.clkBase ∧ (h.modCsb f).tb = h.tb ∧ (h.modCsb f).timing = h.timing ∧
    (h.modCsb f).gates = h.gates ∧ (h.modCsb f).active = h.active ∧ (h.modCsb f).shadow = h.shadow ∧
    (h.modCsb f).evts = h.evts ∧ (h.modCsb f).counters = h.counters ∧ (h.modCsb f).holding = h.holding ∧
    (h.modCsb f).tcs = h.tcs ∧ (h.modCsb f).pdes = h.pdes ∧ (h.modCsb f).captures = h.captures ∧
    (h.modCsb f).links = h.links ∧ (h.modCsb f).vbs = h.vbs ∧ (h.modCsb f).outlets = h.outlets ∧ (h.modCsb f).bud = h.bud ∧
    (h.modCsb f).rl = h.rl ∧ (h.modCsb f).upsel = h.upsel ∧ (h.modCsb f).sched = h.sched ∧ (h.modCsb f).nvm = h.nvm ∧
    (h.modCsb f).doms = h.doms ∧ (h.modCsb f).seq = h.seq ∧ (h.modCsb f).fwls = h.fwls ∧ (h.modCsb f).sec = h.sec ∧
    (h.modCsb f).mbx = h.mbx ∧ (h.modCsb f).glob = h.glob ∧ (h.modCsb f).held = h.held ∧ (h.modCsb f).out = h.out ∧
    (h.modCsb f).freeCtr = h.freeCtr := by
  repeat' constructor

@[simp] theorem Hub.modFwl_frame (p : PodIx) (f : Fwl → Fwl) :
    (h.modFwl p f).clk = h.clk ∧ (h.modFwl p f).clkBase = h.clkBase ∧ (h.modFwl p f).tb = h.tb ∧
    (h.modFwl p f).timing = h.timing ∧ (h.modFwl p f).gates = h.gates ∧ (h.modFwl p f).active = h.active ∧
    (h.modFwl p f).shadow = h.shadow ∧ (h.modFwl p f).evts = h.evts ∧ (h.modFwl p f).counters = h.counters ∧
    (h.modFwl p f).holding = h.holding ∧ (h.modFwl p f).tcs = h.tcs ∧ (h.modFwl p f).pdes = h.pdes ∧
    (h.modFwl p f).captures = h.captures ∧ (h.modFwl p f).links = h.links ∧ (h.modFwl p f).vbs = h.vbs ∧
    (h.modFwl p f).outlets = h.outlets ∧ (h.modFwl p f).bud = h.bud ∧ (h.modFwl p f).rl = h.rl ∧
    (h.modFwl p f).upsel = h.upsel ∧ (h.modFwl p f).sched = h.sched ∧ (h.modFwl p f).nvm = h.nvm ∧
    (h.modFwl p f).doms = h.doms ∧ (h.modFwl p f).seq = h.seq ∧ (h.modFwl p f).csb = h.csb ∧ (h.modFwl p f).sec = h.sec ∧
    (h.modFwl p f).mbx = h.mbx ∧ (h.modFwl p f).glob = h.glob ∧ (h.modFwl p f).held = h.held ∧ (h.modFwl p f).out = h.out ∧
    (h.modFwl p f).freeCtr = h.freeCtr := by
  repeat' constructor

@[simp] theorem Hub.modSec_frame (f : Sec → Sec) :
    (h.modSec f).clk = h.clk ∧ (h.modSec f).clkBase = h.clkBase ∧ (h.modSec f).tb = h.tb ∧ (h.modSec f).timing = h.timing ∧
    (h.modSec f).gates = h.gates ∧ (h.modSec f).active = h.active ∧ (h.modSec f).shadow = h.shadow ∧
    (h.modSec f).evts = h.evts ∧ (h.modSec f).counters = h.counters ∧ (h.modSec f).holding = h.holding ∧
    (h.modSec f).tcs = h.tcs ∧ (h.modSec f).pdes = h.pdes ∧ (h.modSec f).captures = h.captures ∧
    (h.modSec f).links = h.links ∧ (h.modSec f).vbs = h.vbs ∧ (h.modSec f).outlets = h.outlets ∧ (h.modSec f).bud = h.bud ∧
    (h.modSec f).rl = h.rl ∧ (h.modSec f).upsel = h.upsel ∧ (h.modSec f).sched = h.sched ∧ (h.modSec f).nvm = h.nvm ∧
    (h.modSec f).doms = h.doms ∧ (h.modSec f).seq = h.seq ∧ (h.modSec f).csb = h.csb ∧ (h.modSec f).fwls = h.fwls ∧
    (h.modSec f).mbx = h.mbx ∧ (h.modSec f).glob = h.glob ∧ (h.modSec f).held = h.held ∧ (h.modSec f).out = h.out ∧
    (h.modSec f).freeCtr = h.freeCtr := by
  repeat' constructor

@[simp] theorem Hub.modMbx_frame (f : Mbx → Mbx) :
    (h.modMbx f).clk = h.clk ∧ (h.modMbx f).clkBase = h.clkBase ∧ (h.modMbx f).tb = h.tb ∧ (h.modMbx f).timing = h.timing ∧
    (h.modMbx f).gates = h.gates ∧ (h.modMbx f).active = h.active ∧ (h.modMbx f).shadow = h.shadow ∧
    (h.modMbx f).evts = h.evts ∧ (h.modMbx f).counters = h.counters ∧ (h.modMbx f).holding = h.holding ∧
    (h.modMbx f).tcs = h.tcs ∧ (h.modMbx f).pdes = h.pdes ∧ (h.modMbx f).captures = h.captures ∧
    (h.modMbx f).links = h.links ∧ (h.modMbx f).vbs = h.vbs ∧ (h.modMbx f).outlets = h.outlets ∧ (h.modMbx f).bud = h.bud ∧
    (h.modMbx f).rl = h.rl ∧ (h.modMbx f).upsel = h.upsel ∧ (h.modMbx f).sched = h.sched ∧ (h.modMbx f).nvm = h.nvm ∧
    (h.modMbx f).doms = h.doms ∧ (h.modMbx f).seq = h.seq ∧ (h.modMbx f).csb = h.csb ∧ (h.modMbx f).fwls = h.fwls ∧
    (h.modMbx f).sec = h.sec ∧ (h.modMbx f).glob = h.glob ∧ (h.modMbx f).held = h.held ∧ (h.modMbx f).out = h.out ∧
    (h.modMbx f).freeCtr = h.freeCtr := by
  repeat' constructor

@[simp] theorem Hub.modGlob_frame (f : Glob → Glob) :
    (h.modGlob f).clk = h.clk ∧ (h.modGlob f).clkBase = h.clkBase ∧ (h.modGlob f).tb = h.tb ∧
    (h.modGlob f).timing = h.timing ∧ (h.modGlob f).gates = h.gates ∧ (h.modGlob f).active = h.active ∧
    (h.modGlob f).shadow = h.shadow ∧ (h.modGlob f).evts = h.evts ∧ (h.modGlob f).counters = h.counters ∧
    (h.modGlob f).holding = h.holding ∧ (h.modGlob f).tcs = h.tcs ∧ (h.modGlob f).pdes = h.pdes ∧
    (h.modGlob f).captures = h.captures ∧ (h.modGlob f).links = h.links ∧ (h.modGlob f).vbs = h.vbs ∧
    (h.modGlob f).outlets = h.outlets ∧ (h.modGlob f).bud = h.bud ∧ (h.modGlob f).rl = h.rl ∧
    (h.modGlob f).upsel = h.upsel ∧ (h.modGlob f).sched = h.sched ∧ (h.modGlob f).nvm = h.nvm ∧
    (h.modGlob f).doms = h.doms ∧ (h.modGlob f).seq = h.seq ∧ (h.modGlob f).csb = h.csb ∧ (h.modGlob f).fwls = h.fwls ∧
    (h.modGlob f).sec = h.sec ∧ (h.modGlob f).mbx = h.mbx ∧ (h.modGlob f).held = h.held ∧ (h.modGlob f).out = h.out ∧
    (h.modGlob f).freeCtr = h.freeCtr := by
  repeat' constructor

@[simp] theorem Hub.drawn_frame :
    h.drawn.clk = h.clk ∧ h.drawn.clkBase = h.clkBase ∧ h.drawn.tb = h.tb ∧ h.drawn.timing = h.timing ∧
    h.drawn.gates = h.gates ∧ h.drawn.active = h.active ∧ h.drawn.shadow = h.shadow ∧ h.drawn.evts = h.evts ∧
    h.drawn.counters = h.counters ∧ h.drawn.holding = h.holding ∧ h.drawn.tcs = h.tcs ∧ h.drawn.pdes = h.pdes ∧
    h.drawn.captures = h.captures ∧ h.drawn.links = h.links ∧ h.drawn.vbs = h.vbs ∧ h.drawn.outlets = h.outlets ∧
    h.drawn.bud = h.bud ∧ h.drawn.rl = h.rl ∧ h.drawn.upsel = h.upsel ∧ h.drawn.sched = h.sched ∧ h.drawn.nvm = h.nvm ∧
    h.drawn.doms = h.doms ∧ h.drawn.seq = h.seq ∧ h.drawn.csb = h.csb ∧ h.drawn.fwls = h.fwls ∧ h.drawn.sec = h.sec ∧
    h.drawn.mbx = h.mbx ∧ h.drawn.glob = h.glob ∧ h.drawn.held = h.held ∧ h.drawn.out = h.out := by
  repeat' constructor

@[simp] theorem Hub.emit_frame (o : Output) :
    (h.emit o).clk = h.clk ∧ (h.emit o).clkBase = h.clkBase ∧ (h.emit o).tb = h.tb ∧ (h.emit o).timing = h.timing ∧
    (h.emit o).gates = h.gates ∧ (h.emit o).active = h.active ∧ (h.emit o).shadow = h.shadow ∧ (h.emit o).evts = h.evts ∧
    (h.emit o).counters = h.counters ∧ (h.emit o).holding = h.holding ∧ (h.emit o).tcs = h.tcs ∧ (h.emit o).pdes = h.pdes ∧
    (h.emit o).captures = h.captures ∧ (h.emit o).links = h.links ∧ (h.emit o).vbs = h.vbs ∧
    (h.emit o).outlets = h.outlets ∧ (h.emit o).bud = h.bud ∧ (h.emit o).rl = h.rl ∧ (h.emit o).upsel = h.upsel ∧
    (h.emit o).sched = h.sched ∧ (h.emit o).nvm = h.nvm ∧ (h.emit o).doms = h.doms ∧ (h.emit o).seq = h.seq ∧
    (h.emit o).csb = h.csb ∧ (h.emit o).fwls = h.fwls ∧ (h.emit o).sec = h.sec ∧ (h.emit o).mbx = h.mbx ∧
    (h.emit o).glob = h.glob ∧ (h.emit o).held = h.held ∧ (h.emit o).freeCtr = h.freeCtr := by
  repeat' constructor

@[simp] theorem Hub.setAct_frame (off : Nat) (w : Word) :
    (h.setAct off w).clk = h.clk ∧ (h.setAct off w).clkBase = h.clkBase ∧ (h.setAct off w).tb = h.tb ∧
    (h.setAct off w).timing = h.timing ∧ (h.setAct off w).gates = h.gates ∧ (h.setAct off w).shadow = h.shadow ∧
    (h.setAct off w).evts = h.evts ∧ (h.setAct off w).counters = h.counters ∧ (h.setAct off w).holding = h.holding ∧
    (h.setAct off w).tcs = h.tcs ∧ (h.setAct off w).pdes = h.pdes ∧ (h.setAct off w).captures = h.captures ∧
    (h.setAct off w).links = h.links ∧ (h.setAct off w).vbs = h.vbs ∧ (h.setAct off w).outlets = h.outlets ∧
    (h.setAct off w).bud = h.bud ∧ (h.setAct off w).rl = h.rl ∧ (h.setAct off w).upsel = h.upsel ∧
    (h.setAct off w).sched = h.sched ∧ (h.setAct off w).nvm = h.nvm ∧ (h.setAct off w).doms = h.doms ∧
    (h.setAct off w).seq = h.seq ∧ (h.setAct off w).csb = h.csb ∧ (h.setAct off w).fwls = h.fwls ∧
    (h.setAct off w).sec = h.sec ∧ (h.setAct off w).mbx = h.mbx ∧ (h.setAct off w).glob = h.glob ∧
    (h.setAct off w).held = h.held ∧ (h.setAct off w).out = h.out ∧ (h.setAct off w).freeCtr = h.freeCtr := by
  repeat' constructor

@[simp] theorem Hub.setShd_frame (off : Nat) (w : Word) :
    (h.setShd off w).clk = h.clk ∧ (h.setShd off w).clkBase = h.clkBase ∧ (h.setShd off w).tb = h.tb ∧
    (h.setShd off w).timing = h.timing ∧ (h.setShd off w).gates = h.gates ∧ (h.setShd off w).active = h.active ∧
    (h.setShd off w).evts = h.evts ∧ (h.setShd off w).counters = h.counters ∧ (h.setShd off w).holding = h.holding ∧
    (h.setShd off w).tcs = h.tcs ∧ (h.setShd off w).pdes = h.pdes ∧ (h.setShd off w).captures = h.captures ∧
    (h.setShd off w).links = h.links ∧ (h.setShd off w).vbs = h.vbs ∧ (h.setShd off w).outlets = h.outlets ∧
    (h.setShd off w).bud = h.bud ∧ (h.setShd off w).rl = h.rl ∧ (h.setShd off w).upsel = h.upsel ∧
    (h.setShd off w).sched = h.sched ∧ (h.setShd off w).nvm = h.nvm ∧ (h.setShd off w).doms = h.doms ∧
    (h.setShd off w).seq = h.seq ∧ (h.setShd off w).csb = h.csb ∧ (h.setShd off w).fwls = h.fwls ∧
    (h.setShd off w).sec = h.sec ∧ (h.setShd off w).mbx = h.mbx ∧ (h.setShd off w).glob = h.glob ∧
    (h.setShd off w).held = h.held ∧ (h.setShd off w).out = h.out ∧ (h.setShd off w).freeCtr = h.freeCtr := by
  repeat' constructor

@[simp] theorem Hub.evt_frame (off bit : Nat) :
    (h.evt off bit).clk = h.clk ∧ (h.evt off bit).clkBase = h.clkBase ∧ (h.evt off bit).tb = h.tb ∧
    (h.evt off bit).timing = h.timing ∧ (h.evt off bit).gates = h.gates ∧ (h.evt off bit).active = h.active ∧
    (h.evt off bit).shadow = h.shadow ∧ (h.evt off bit).counters = h.counters ∧ (h.evt off bit).holding = h.holding ∧
    (h.evt off bit).tcs = h.tcs ∧ (h.evt off bit).pdes = h.pdes ∧ (h.evt off bit).captures = h.captures ∧
    (h.evt off bit).links = h.links ∧ (h.evt off bit).vbs = h.vbs ∧ (h.evt off bit).outlets = h.outlets ∧
    (h.evt off bit).bud = h.bud ∧ (h.evt off bit).rl = h.rl ∧ (h.evt off bit).upsel = h.upsel ∧
    (h.evt off bit).sched = h.sched ∧ (h.evt off bit).nvm = h.nvm ∧ (h.evt off bit).doms = h.doms ∧
    (h.evt off bit).seq = h.seq ∧ (h.evt off bit).csb = h.csb ∧ (h.evt off bit).fwls = h.fwls ∧
    (h.evt off bit).sec = h.sec ∧ (h.evt off bit).mbx = h.mbx ∧ (h.evt off bit).glob = h.glob ∧
    (h.evt off bit).held = h.held ∧ (h.evt off bit).out = h.out ∧ (h.evt off bit).freeCtr = h.freeCtr := by
  repeat' constructor

@[simp] theorem Hub.bumpBy_frame (slot n : Nat) :
    (h.bumpBy slot n).clk = h.clk ∧ (h.bumpBy slot n).clkBase = h.clkBase ∧ (h.bumpBy slot n).tb = h.tb ∧
    (h.bumpBy slot n).timing = h.timing ∧ (h.bumpBy slot n).gates = h.gates ∧ (h.bumpBy slot n).active = h.active ∧
    (h.bumpBy slot n).shadow = h.shadow ∧ (h.bumpBy slot n).evts = h.evts ∧ (h.bumpBy slot n).holding = h.holding ∧
    (h.bumpBy slot n).tcs = h.tcs ∧ (h.bumpBy slot n).pdes = h.pdes ∧ (h.bumpBy slot n).captures = h.captures ∧
    (h.bumpBy slot n).links = h.links ∧ (h.bumpBy slot n).vbs = h.vbs ∧ (h.bumpBy slot n).outlets = h.outlets ∧
    (h.bumpBy slot n).bud = h.bud ∧ (h.bumpBy slot n).rl = h.rl ∧ (h.bumpBy slot n).upsel = h.upsel ∧
    (h.bumpBy slot n).sched = h.sched ∧ (h.bumpBy slot n).nvm = h.nvm ∧ (h.bumpBy slot n).doms = h.doms ∧
    (h.bumpBy slot n).seq = h.seq ∧ (h.bumpBy slot n).csb = h.csb ∧ (h.bumpBy slot n).fwls = h.fwls ∧
    (h.bumpBy slot n).sec = h.sec ∧ (h.bumpBy slot n).mbx = h.mbx ∧ (h.bumpBy slot n).glob = h.glob ∧
    (h.bumpBy slot n).held = h.held ∧ (h.bumpBy slot n).out = h.out ∧ (h.bumpBy slot n).freeCtr = h.freeCtr := by
  repeat' constructor

@[simp] theorem Hub.bump_frame (slot : Nat) :
    (h.bump slot).clk = h.clk ∧ (h.bump slot).clkBase = h.clkBase ∧ (h.bump slot).tb = h.tb ∧
    (h.bump slot).timing = h.timing ∧ (h.bump slot).gates = h.gates ∧ (h.bump slot).active = h.active ∧
    (h.bump slot).shadow = h.shadow ∧ (h.bump slot).evts = h.evts ∧ (h.bump slot).holding = h.holding ∧
    (h.bump slot).tcs = h.tcs ∧ (h.bump slot).pdes = h.pdes ∧ (h.bump slot).captures = h.captures ∧
    (h.bump slot).links = h.links ∧ (h.bump slot).vbs = h.vbs ∧ (h.bump slot).outlets = h.outlets ∧
    (h.bump slot).bud = h.bud ∧ (h.bump slot).rl = h.rl ∧ (h.bump slot).upsel = h.upsel ∧ (h.bump slot).sched = h.sched ∧
    (h.bump slot).nvm = h.nvm ∧ (h.bump slot).doms = h.doms ∧ (h.bump slot).seq = h.seq ∧ (h.bump slot).csb = h.csb ∧
    (h.bump slot).fwls = h.fwls ∧ (h.bump slot).sec = h.sec ∧ (h.bump slot).mbx = h.mbx ∧ (h.bump slot).glob = h.glob ∧
    (h.bump slot).held = h.held ∧ (h.bump slot).out = h.out ∧ (h.bump slot).freeCtr = h.freeCtr := by
  repeat' constructor

/-! #### The updated part itself, and the other parts of its kind -/

@[simp] theorem Hub.modTc_tc (p : PodIx) (f : Tc → Tc) : (h.modTc p f).tc p = f (h.tc p) := by
  simp [Hub.modTc, Hub.tc]

theorem Hub.modTc_congr {p : PodIx} {f k : Tc → Tc} (e : f (h.tc p) = k (h.tc p)) : h.modTc p f = h.modTc p k := by
  simp_all [Hub.modTc, Hub.tc]

theorem Hub.modTc_tc_ne {p q : PodIx} (f : Tc → Tc) (hne : p ≠ q) : (h.modTc p f).tc q = h.tc q := by
  have : p.val ≠ q.val := fun e => hne (Fin.ext e)
  simp [Hub.modTc, Hub.tc, this]

@[simp] theorem Hub.modPde_pde (p : PodIx) (f : Pde → Pde) : (h.modPde p f).pde p = f (h.pde p) := by
  simp [Hub.modPde, Hub.pde]

theorem Hub.modPde_congr {p : PodIx} {f k : Pde → Pde} (e : f (h.pde p) = k (h.pde p)) : h.modPde p f = h.modPde p k := by
  simp_all [Hub.modPde, Hub.pde]

theorem Hub.modPde_pde_ne {p q : PodIx} (f : Pde → Pde) (hne : p ≠ q) : (h.modPde p f).pde q = h.pde q := by
  have : p.val ≠ q.val := fun e => hne (Fin.ext e)
  simp [Hub.modPde, Hub.pde, this]

@[simp] theorem Hub.modCapture_capture (p : PodIx) (f : Capture → Capture) : (h.modCapture p f).capture p = f (h.capture p) := by
  simp [Hub.modCapture, Hub.capture]

theorem Hub.modCapture_congr {p : PodIx} {f k : Capture → Capture} (e : f (h.capture p) = k (h.capture p)) : h.modCapture p f = h.modCapture p k := by
  simp_all [Hub.modCapture, Hub.capture]

theorem Hub.modCapture_capture_ne {p q : PodIx} (f : Capture → Capture) (hne : p ≠ q) : (h.modCapture p f).capture q = h.capture q := by
  have : p.val ≠ q.val := fun e => hne (Fin.ext e)
  simp [Hub.modCapture, Hub.capture, this]

@[simp] theorem Hub.modLink_link (p : PodIx) (f : Link → Link) : (h.modLink p f).link p = f (h.link p) := by
  simp [Hub.modLink, Hub.link]

theorem Hub.modLink_congr {p : PodIx} {f k : Link → Link} (e : f (h.link p) = k (h.link p)) : h.modLink p f = h.modLink p k := by
  simp_all [Hub.modLink, Hub.link]

theorem Hub.modLink_link_ne {p q : PodIx} (f : Link → Link) (hne : p ≠ q) : (h.modLink p f).link q = h.link q := by
  have : p.val ≠ q.val := fun e => hne (Fin.ext e)
  simp [Hub.modLink, Hub.link, this]

@[simp] theorem Hub.modVb_vb (x : PathIx) (f : Efuse → Efuse) : (h.modVb x f).vb x = f (h.vb x) := by
  simp [Hub.modVb, Hub.vb]

theorem Hub.modVb_congr {x : PathIx} {f k : Efuse → Efuse} (e : f (h.vb x) = k (h.vb x)) : h.modVb x f = h.modVb x k := by
  simp_all [Hub.modVb, Hub.vb]

theorem Hub.modVb_vb_ne {x q : PathIx} (f : Efuse → Efuse) (hne : x ≠ q) : (h.modVb x f).vb q = h.vb q := by
  have : x.val ≠ q.val := fun e => hne (Fin.ext e)
  simp [Hub.modVb, Hub.vb, this]

@[simp] theorem Hub.modOut_outlet (o : OutIx) (f : Outlet → Outlet) : (h.modOut o f).outlet o = f (h.outlet o) := by
  simp [Hub.modOut, Hub.outlet]

theorem Hub.modOut_congr {o : OutIx} {f k : Outlet → Outlet} (e : f (h.outlet o) = k (h.outlet o)) : h.modOut o f = h.modOut o k := by
  simp_all [Hub.modOut, Hub.outlet]

theorem Hub.modOut_outlet_ne {o q : OutIx} (f : Outlet → Outlet) (hne : o ≠ q) : (h.modOut o f).outlet q = h.outlet q := by
  have : o.val ≠ q.val := fun e => hne (Fin.ext e)
  simp [Hub.modOut, Hub.outlet, this]

@[simp] theorem Hub.modGate_gate (d : DirIx) (f : Gate → Gate) : (h.modGate d f).gate d = f (h.gate d) := by
  simp [Hub.modGate, Hub.gate]

theorem Hub.modGate_congr {d : DirIx} {f k : Gate → Gate} (e : f (h.gate d) = k (h.gate d)) : h.modGate d f = h.modGate d k := by
  simp_all [Hub.modGate, Hub.gate]

theorem Hub.modGate_gate_ne {d q : DirIx} (f : Gate → Gate) (hne : d ≠ q) : (h.modGate d f).gate q = h.gate q := by
  have : d.val ≠ q.val := fun e => hne (Fin.ext e)
  simp [Hub.modGate, Hub.gate, this]

@[simp] theorem Hub.modDom_dom (n : DomIx) (f : Dom → Dom) : (h.modDom n f).dom n = f (h.dom n) := by
  simp [Hub.modDom, Hub.dom]

theorem Hub.modDom_congr {n : DomIx} {f k : Dom → Dom} (e : f (h.dom n) = k (h.dom n)) : h.modDom n f = h.modDom n k := by
  simp_all [Hub.modDom, Hub.dom]

theorem Hub.modDom_dom_ne {n q : DomIx} (f : Dom → Dom) (hne : n ≠ q) : (h.modDom n f).dom q = h.dom q := by
  have : n.val ≠ q.val := fun e => hne (Fin.ext e)
  simp [Hub.modDom, Hub.dom, this]

@[simp] theorem Hub.modFwl_fwl (p : PodIx) (f : Fwl → Fwl) : (h.modFwl p f).fwl p = f (h.fwl p) := by
  simp [Hub.modFwl, Hub.fwl]

theorem Hub.modFwl_congr {p : PodIx} {f k : Fwl → Fwl} (e : f (h.fwl p) = k (h.fwl p)) : h.modFwl p f = h.modFwl p k := by
  simp_all [Hub.modFwl, Hub.fwl]

theorem Hub.modFwl_fwl_ne {p q : PodIx} (f : Fwl → Fwl) (hne : p ≠ q) : (h.modFwl p f).fwl q = h.fwl q := by
  have : p.val ≠ q.val := fun e => hne (Fin.ext e)
  simp [Hub.modFwl, Hub.fwl, this]

@[simp] theorem Hub.modClink_clink (p : PodIx) (f : CsbLink → CsbLink) : (h.modClink p f).clink p = f (h.clink p) := by
  simp [Hub.modClink, Hub.clink, Hub.modCsb]

theorem Hub.modClink_congr {p : PodIx} {f k : CsbLink → CsbLink} (e : f (h.clink p) = k (h.clink p)) : h.modClink p f = h.modClink p k := by
  simp_all [Hub.modClink, Hub.clink, Hub.modCsb]

theorem Hub.modClink_clink_ne {p q : PodIx} (f : CsbLink → CsbLink) (hne : p ≠ q) : (h.modClink p f).clink q = h.clink q := by
  have : p.val ≠ q.val := fun e => hne (Fin.ext e)
  simp [Hub.modClink, Hub.clink, Hub.modCsb, this]

@[simp] theorem Hub.modWorker_worker (w : HubId) (f : Worker → Worker) : (h.modWorker w f).worker w = f (h.worker w) := by
  simp [Hub.modWorker, Hub.worker, Hub.modCsb]

theorem Hub.modWorker_congr {w : HubId} {f k : Worker → Worker} (e : f (h.worker w) = k (h.worker w)) : h.modWorker w f = h.modWorker w k := by
  simp_all [Hub.modWorker, Hub.worker, Hub.modCsb]

theorem Hub.modWorker_worker_ne {w q : HubId} (f : Worker → Worker) (hne : w ≠ q) : (h.modWorker w f).worker q = h.worker q := by
  have : w.val ≠ q.val := fun e => hne (Fin.ext e)
  simp [Hub.modWorker, Hub.worker, Hub.modCsb, this]

@[simp] theorem Hub.modUq_uq (n : QueueIx) (f : Uq → Uq) : (h.modUq n f).uq n = f (h.uq n) := by
  simp [Hub.modUq, Hub.uq, Hub.modSched]

theorem Hub.modUq_congr {n : QueueIx} {f k : Uq → Uq} (e : f (h.uq n) = k (h.uq n)) : h.modUq n f = h.modUq n k := by
  simp_all [Hub.modUq, Hub.uq, Hub.modSched]

theorem Hub.modUq_uq_ne {n q : QueueIx} (f : Uq → Uq) (hne : n ≠ q) : (h.modUq n f).uq q = h.uq q := by
  have : n.val ≠ q.val := fun e => hne (Fin.ext e)
  simp [Hub.modUq, Hub.uq, Hub.modSched, this]

@[simp] theorem Hub.modPq_pq (n : QueueIx) (f : Pq → Pq) : (h.modPq n f).pq n = f (h.pq n) := by
  simp [Hub.modPq, Hub.pq, Hub.modSched]

theorem Hub.modPq_congr {n : QueueIx} {f k : Pq → Pq} (e : f (h.pq n) = k (h.pq n)) : h.modPq n f = h.modPq n k := by
  simp_all [Hub.modPq, Hub.pq, Hub.modSched]

theorem Hub.modPq_pq_ne {n q : QueueIx} (f : Pq → Pq) (hne : n ≠ q) : (h.modPq n f).pq q = h.pq q := by
  have : n.val ≠ q.val := fun e => hne (Fin.ext e)
  simp [Hub.modPq, Hub.pq, Hub.modSched, this]

@[simp] theorem Hub.modPol_policer (m : PolIx) (f : Policer → Policer) : (h.modPol m f).policer m = f (h.policer m) := by
  simp [Hub.modPol, Hub.policer, Hub.modSched]

theorem Hub.modPol_congr {m : PolIx} {f k : Policer → Policer} (e : f (h.policer m) = k (h.policer m)) : h.modPol m f = h.modPol m k := by
  simp_all [Hub.modPol, Hub.policer, Hub.modSched]

theorem Hub.modPol_policer_ne {m q : PolIx} (f : Policer → Policer) (hne : m ≠ q) : (h.modPol m f).policer q = h.policer q := by
  have : m.val ≠ q.val := fun e => hne (Fin.ext e)
  simp [Hub.modPol, Hub.policer, Hub.modSched, this]

@[simp] theorem Hub.modRing_ring (r : RingIx) (f : Ring → Ring) : (h.modRing r f).ring r = f (h.ring r) := by
  simp [Hub.modRing, Hub.ring, Hub.modMbx]

theorem Hub.modRing_congr {r : RingIx} {f k : Ring → Ring} (e : f (h.ring r) = k (h.ring r)) : h.modRing r f = h.modRing r k := by
  simp_all [Hub.modRing, Hub.ring, Hub.modMbx]

theorem Hub.modRing_ring_ne {r q : RingIx} (f : Ring → Ring) (hne : r ≠ q) : (h.modRing r f).ring q = h.ring q := by
  have : r.val ≠ q.val := fun e => hne (Fin.ext e)
  simp [Hub.modRing, Hub.ring, Hub.modMbx, this]

@[simp] theorem Hub.modCons_cons (x : PathIx) (f : Consumer → Consumer) : (h.modCons x f).cons x = f (h.cons x) := by
  simp [Hub.modCons, Hub.cons, Hub.modBud]

theorem Hub.modCons_congr {x : PathIx} {f k : Consumer → Consumer} (e : f (h.cons x) = k (h.cons x)) : h.modCons x f = h.modCons x k := by
  simp_all [Hub.modCons, Hub.cons, Hub.modBud]

theorem Hub.modCons_cons_ne {x q : PathIx} (f : Consumer → Consumer) (hne : x ≠ q) : (h.modCons x f).cons q = h.cons q := by
  have : x.val ≠ q.val := fun e => hne (Fin.ext e)
  simp [Hub.modCons, Hub.cons, Hub.modBud, this]

@[simp] theorem Hub.modBud_bud (f : Budget → Budget) : (h.modBud f).bud = f h.bud := rfl

@[simp] theorem Hub.modRl_rl (f : Rlink → Rlink) : (h.modRl f).rl = f h.rl := rfl

@[simp] theorem Hub.modUpsel_upsel (f : Upsel → Upsel) : (h.modUpsel f).upsel = f h.upsel := rfl

@[simp] theorem Hub.modSched_sched (f : Sched → Sched) : (h.modSched f).sched = f h.sched := rfl

@[simp] theorem Hub.modTiming_timing (f : Timing → Timing) : (h.modTiming f).timing = f h.timing := rfl

@[simp] theorem Hub.modNvm_nvm (f : Nvm → Nvm) : (h.modNvm f).nvm = f h.nvm := rfl

@[simp] theorem Hub.modSeq_seq (f : Seq → Seq) : (h.modSeq f).seq = f h.seq := rfl

@[simp] theorem Hub.modCsb_csb (f : Csb → Csb) : (h.modCsb f).csb = f h.csb := rfl

@[simp] theorem Hub.modSec_sec (f : Sec → Sec) : (h.modSec f).sec = f h.sec := rfl

@[simp] theorem Hub.modMbx_mbx (f : Mbx → Mbx) : (h.modMbx f).mbx = f h.mbx := rfl

@[simp] theorem Hub.modGlob_glob (f : Glob → Glob) : (h.modGlob f).glob = f h.glob := rfl

@[simp] theorem Hub.quiet_tc (p : PodIx) : h.quiet.tc p = h.tc p := rfl

@[simp] theorem Hub.quiet_pde (p : PodIx) : h.quiet.pde p = h.pde p := rfl

@[simp] theorem Hub.quiet_capture (p : PodIx) : h.quiet.capture p = h.capture p := rfl

@[simp] theorem Hub.quiet_link (p : PodIx) : h.quiet.link p = h.link p := rfl

@[simp] theorem Hub.quiet_vb (x : PathIx) : h.quiet.vb x = h.vb x := rfl

@[simp] theorem Hub.quiet_outlet (o : OutIx) : h.quiet.outlet o = h.outlet o := rfl

@[simp] theorem Hub.quiet_outletOf (x : PathIx) : h.quiet.outletOf x = h.outletOf x := rfl

@[simp] theorem Hub.quiet_gate (d : DirIx) : h.quiet.gate d = h.gate d := rfl

@[simp] theorem Hub.quiet_dom (n : DomIx) : h.quiet.dom n = h.dom n := rfl

@[simp] theorem Hub.quiet_fwl (p : PodIx) : h.quiet.fwl p = h.fwl p := rfl

@[simp] theorem Hub.quiet_clink (p : PodIx) : h.quiet.clink p = h.clink p := rfl

@[simp] theorem Hub.quiet_worker (w : HubId) : h.quiet.worker w = h.worker w := rfl

@[simp] theorem Hub.quiet_uq (n : QueueIx) : h.quiet.uq n = h.uq n := rfl

@[simp] theorem Hub.quiet_pq (n : QueueIx) : h.quiet.pq n = h.pq n := rfl

@[simp] theorem Hub.quiet_policer (m : PolIx) : h.quiet.policer m = h.policer m := rfl

@[simp] theorem Hub.quiet_ring (r : RingIx) : h.quiet.ring r = h.ring r := rfl

@[simp] theorem Hub.quiet_cons (x : PathIx) : h.quiet.cons x = h.cons x := rfl

@[simp] theorem Hub.quiet_act (off : Nat) : h.quiet.act off = h.act off := rfl

@[simp] theorem Hub.quiet_shd (off : Nat) : h.quiet.shd off = h.shd off := rfl

@[simp] theorem Hub.quiet_evtWord (off : Nat) : h.quiet.evtWord off = h.evtWord off := rfl

@[simp] theorem Hub.quiet_cnt (slot : Nat) : h.quiet.cnt slot = h.cnt slot := rfl

@[simp] theorem Hub.quiet_domOn (n : DomIx) : h.quiet.domOn n = h.domOn n := rfl

@[simp] theorem Hub.quiet_domRuns (n : DomIx) : h.quiet.domRuns n = h.domRuns n := rfl

@[simp] theorem Hub.quiet_peRuns : h.quiet.peRuns = h.peRuns := rfl

@[simp] theorem Hub.quiet_out : h.quiet.out = [] := rfl

@[simp] theorem Hub.emit_out (o : Output) : (h.emit o).out = h.out ++ [o] := rfl

@[simp] theorem State.put_pending (s : State) : (s.put h).pending = s.pending := rfl

@[simp] theorem State.put_held (s : State) : (s.put h).hub.held = s.hub.held := rfl

end Sys2Proof.Machine
end

