-- ==== Sys2Proof/Laws/Ops.lean ====
section
/-! SUPPORT. What the sparse maps, the event bits, the counters and the performing of a command do. -/

namespace Sys2Proof.Machine

/-! #### Sparse maps -/

theorem smWf_mono {α : Type} [DecidableEq α] {d : Nat → α} {m : List (Nat × α)} {a b : Nat} (hle : a ≤ b)
    (hm : smWf d b m = true) : smWf d a m = true := by
  cases m with
  | nil => rfl
  | cons x rest =>
    simp only [smWf, Bool.and_eq_true, decide_eq_true_eq] at *
    exact ⟨⟨by omega, hm.1.2⟩, hm.2⟩

theorem smDel_wf {α : Type} [DecidableEq α] (d : Nat → α) {m : List (Nat × α)} {lo : Nat} (k : Nat) (hm : smWf d lo m = true) :
    smWf d lo (smDel m k) = true := by
  induction m generalizing lo with
  | nil => rfl
  | cons x rest ih =>
    simp only [smWf, Bool.and_eq_true, decide_eq_true_eq] at hm
    obtain ⟨⟨h1, h2⟩, h3⟩ := hm
    simp only [smDel]
    split
    · exact smWf_mono (by omega) (ih h3)
    · simp [smWf, h1, h2, ih h3]

/-- Putting a key that is not listed in its place keeps the canonical form. -/
theorem smIns_wf {α : Type} [DecidableEq α] (d : Nat → α) {m : List (Nat × α)} {lo k : Nat} (v : α) (hk : lo ≤ k) (hv : v ≠ d k)
    (hm : smWf d lo m = true) : smWf d lo (smIns (smDel m k) k v) = true := by
  induction m generalizing lo with
  | nil => simp [smDel, smIns, smWf, hv, hk]
  | cons x rest ih =>
    simp only [smWf, Bool.and_eq_true, decide_eq_true_eq] at hm
    obtain ⟨⟨h1, h2⟩, h3⟩ := hm
    simp only [smDel]
    split
    · exact smWf_mono (Nat.le_refl lo) (ih hk (smWf_mono (by omega) h3))
    · next hne =>
      simp only [smIns]
      split
      · next hlt => simp [smWf, h1, h2, ih hlt h3]
      · next hge =>
        simp [smWf, hk, hv, h2, smDel_wf d k h3]
        omega

/-- A write keeps the canonical form. -/
theorem smSet_wf {α : Type} [DecidableEq α] (d : Nat → α) {m : List (Nat × α)} {lo k : Nat} (v : α) (hk : lo ≤ k)
    (hm : smWf d lo m = true) : smWf d lo (smSet d m k v) = true := by
  unfold smSet
  split
  · exact smDel_wf d k hm
  · next hv => exact smIns_wf d v hk hv hm

theorem smGet_smDel {α : Type} (d : Nat → α) (m : List (Nat × α)) (k j : Nat) :
    smGet d (smDel m k) j = if j = k then d j else smGet d m j := by
  induction m with
  | nil => by_cases h : j = k <;> simp [smDel, smGet, h]
  | cons x rest ih =>
    simp only [smDel]
    split
    · next e =>
      rw [ih]
      by_cases h : j = k
      · simp [h]
      · rw [if_neg h, if_neg h, smGet, if_neg (by omega)]
    · next e =>
      simp only [smGet, ih]
      by_cases h : j = k
      · subst h; simp [e]
      · simp [h]

theorem smGet_smIns {α : Type} (d : Nat → α) (m : List (Nat × α)) (k j : Nat) (v : α) :
    smGet d (smIns (smDel m k) k v) j = if j = k then v else smGet d (smDel m k) j := by
  induction m with
  | nil =>
    by_cases h : j = k
    · simp [smDel, smIns, smGet, h]
    · simp [smDel, smIns, smGet, h, Ne.symm h]
  | cons x rest ih =>
    simp only [smDel]
    split
    · exact ih
    · next e =>
      simp only [smIns]
      split
      · simp only [smGet, ih]
        by_cases h : j = k
        · rw [if_neg (by omega), if_pos h, if_pos h]
        · simp [h]
      · by_cases h : j = k
        · simp [smGet, h]
        · rw [smGet, if_neg (Ne.symm h), if_neg h]

/-- A read after a write: the value written, and at every other key what stood there. -/
theorem smGet_smSet {α : Type} [DecidableEq α] (d : Nat → α) (m : List (Nat × α)) (k j : Nat) (v : α) :
    smGet d (smSet d m k v) j = if j = k then v else smGet d m j := by
  unfold smSet
  split
  · next hv =>
    rw [smGet_smDel]
    by_cases h : j = k <;> simp [h, hv]
  · rw [smGet_smIns, smGet_smDel]
    by_cases h : j = k <;> simp [h]

/-! #### Performing a command -/

/-- Not held in reset, a command acts. -/
theorem perform_run {s : State} (hs : s.hub.held = .none) (f : Hub → Hub) : perform s f = .next (s.put (f s.hub.quiet)) := by
  simp [perform, hs]

/-- Held in reset, a command changes nothing. -/
theorem perform_held {s : State} (hs : s.hub.held ≠ .none) (f : Hub → Hub) : perform s f = .next (s.put s.hub.quiet) := by
  simp [perform, hs]

/-- Every command that goes through `perform` keeps the waiting commands and what holds the device in reset. -/
theorem perform_next (s : State) (f : Hub → Hub) :
    ∃ t, perform s f = .next t ∧ t.pending = s.pending ∧ t.hub.held = s.hub.held := ⟨_, rfl, rfl, rfl⟩

/-- In a domain that works the command acts. -/
theorem Hub.inDom_run {h : Hub} {n : DomIx} (hn : h.domRuns n = true) (f : Hub → Hub) : h.inDom n f = f h := by
  simp [Hub.inDom, hn]

/-- The data path acts while CLK_PE runs. -/
theorem Hub.inPe_run {h : Hub} (hn : h.peRuns = true) (f : Hub → Hub) : h.inPe f = f h := by simp [Hub.inPe, hn]

theorem onPod_run {s : State} {p : PodIx} (hs : s.hub.held = .none) (hp : s.hub.domRuns (podDom p) = true) (f : Hub → Hub) :
    onPod s p f = .next (s.put (f s.hub.quiet)) := by
  simp [onPod, perform_run hs, Hub.inDom_run (h := s.hub.quiet) (by simpa using hp)]

theorem onPath_run {s : State} {x : PathIx} (hs : s.hub.held = .none) (hx : s.hub.domRuns (pathDom x) = true) (f : Hub → Hub) :
    onPath s x f = .next (s.put (f s.hub.quiet)) := by
  simp [onPath, perform_run hs, Hub.inDom_run (h := s.hub.quiet) (by simpa using hx)]

theorem onPe_run {s : State} (hs : s.hub.held = .none) (hp : s.hub.peRuns = true) (f : Hub → Hub) :
    onPe s f = .next (s.put (f s.hub.quiet)) := by
  simp [onPe, perform_run hs, Hub.inPe_run (h := s.hub.quiet) (by simpa using hp)]

end Sys2Proof.Machine
end

