-- ==== Sys2Proof/Laws/Commands.lean ====
section
/-! SUPPORT. How a command acts where its conditions hold: its domain works, the register takes the write. -/

namespace Sys2Proof.Machine

/-- Putting a record among others adds it and nothing else. -/
theorem recInsert_perm (r : Rec) (l : List Rec) : (recInsert r l).Perm (r :: l) := by
  induction l with
  | nil => exact .refl _
  | cons x l ih =>
    simp only [recInsert]
    split
    · exact .refl _
    · exact (ih.cons x).trans (.swap r x l)

/-- Of the records raised, one is new. -/
theorem Hub.raise_raised (h : Hub) (src code sev : Nat) (data : List Nat) :
    ∃ r : Rec, r.code = code ∧ r.src = src ∧ r.sev = sev ∧ (h.raise src code sev data).nvm.raised.Perm (r :: h.nvm.raised) := by
  refine ⟨{ tb := if !h.domOn domPe && !h.domOn domNvm then 0 else h.tb, devId := 0, src := src, code := code, sev := sev
            flags := if h.timing.unsync || (!h.domOn domPe && !h.domOn domNvm) then 2 else 0
            data := if !h.domOn domPe && !h.domOn domNvm then data ++ List.replicate (12 - data.length) 0 ++ le32 h.huskTime
              else data }, rfl, rfl, rfl, ?_⟩
  simp only [Hub.raise, Hub.raiseAt, Hub.modNvm]
  split
  · exact recInsert_perm _ _
  · exact List.perm_append_singleton _ _

/-- Raising a record changes nothing but the records raised. -/
@[simp] theorem Hub.raise_frame (h : Hub) (src code sev : Nat) (data : List Nat) :
    (h.raise src code sev data).clk = h.clk ∧ (h.raise src code sev data).tb = h.tb ∧ (h.raise src code sev data).timing = h.timing ∧
    (h.raise src code sev data).gates = h.gates ∧ (h.raise src code sev data).active = h.active ∧
    (h.raise src code sev data).shadow = h.shadow ∧ (h.raise src code sev data).evts = h.evts ∧
    (h.raise src code sev data).counters = h.counters ∧ (h.raise src code sev data).tcs = h.tcs ∧
    (h.raise src code sev data).pdes = h.pdes ∧ (h.raise src code sev data).captures = h.captures ∧
    (h.raise src code sev data).links = h.links ∧ (h.raise src code sev data).vbs = h.vbs ∧
    (h.raise src code sev data).outlets = h.outlets ∧ (h.raise src code sev data).bud = h.bud ∧
    (h.raise src code sev data).rl = h.rl ∧ (h.raise src code sev data).upsel = h.upsel ∧
    (h.raise src code sev data).sched = h.sched ∧ (h.raise src code sev data).doms = h.doms ∧
    (h.raise src code sev data).seq = h.seq ∧ (h.raise src code sev data).csb = h.csb ∧
    (h.raise src code sev data).fwls = h.fwls ∧ (h.raise src code sev data).sec = h.sec ∧
    (h.raise src code sev data).mbx = h.mbx ∧ (h.raise src code sev data).glob = h.glob ∧
    (h.raise src code sev data).held = h.held ∧ (h.raise src code sev data).out = h.out ∧
    (h.raise src code sev data).freeCtr = h.freeCtr := by
  repeat' constructor

/-! #### Two changes of one part are one change -/

theorem Hub.modTc_modTc (h : Hub) (p : PodIx) (f g : Tc → Tc) : (h.modTc p f).modTc p g = h.modTc p (fun t => g (f t)) := by
  simp [Hub.modTc]

theorem Hub.modPde_modPde (h : Hub) (p : PodIx) (f g : Pde → Pde) :
    (h.modPde p f).modPde p g = h.modPde p (fun t => g (f t)) := by
  simp [Hub.modPde]

theorem Hub.modVb_modVb (h : Hub) (x : PathIx) (f g : Efuse → Efuse) : (h.modVb x f).modVb x g = h.modVb x (fun t => g (f t)) := by
  simp [Hub.modVb]

theorem Hub.modLink_modLink (h : Hub) (p : PodIx) (f g : Link → Link) :
    (h.modLink p f).modLink p g = h.modLink p (fun t => g (f t)) := by
  simp [Hub.modLink]

theorem Hub.modDom_modDom (h : Hub) (n : DomIx) (f g : Dom → Dom) : (h.modDom n f).modDom n g = h.modDom n (fun t => g (f t)) := by
  simp [Hub.modDom]

theorem Hub.modRing_modRing (h : Hub) (r : RingIx) (f g : Ring → Ring) :
    (h.modRing r f).modRing r g = h.modRing r (fun x => g (f x)) := by
  simp [Hub.modRing, Hub.modMbx]

/-! #### The domains a command acts in -/

theorem onCsb_run {s : State} (hs : s.works domCsb) (f : Hub → Hub) : onCsb s f = .next (s.put (f s.hub.quiet)) := by
  simp [onCsb, perform_run hs.1, Hub.inDom_run (h := s.hub.quiet) (by simpa using hs.2)]

theorem onSec_run {s : State} (hs : s.works domSec) (f : Hub → Hub) : onSec s f = .next (s.put (f s.hub.quiet)) := by
  simp [onSec, perform_run hs.1, Hub.inDom_run (h := s.hub.quiet) (by simpa using hs.2)]

theorem onMbx_run {s : State} (hs : s.works domBus) (f : Hub → Hub) : onMbx s f = .next (s.put (f s.hub.quiet)) := by
  rw [onMbx, perform_run hs.1, Hub.inDom_run (by exact hs.2)]

/-! #### Command bits -/

/-- A command bit that the master may write acts, after the write was noted for its register (R297, R342, R408, R417). -/
theorem Hub.cmdBit_run {h : Hub} {m : Master} {off : Nat} {guarded : Bool} (hm : h.mayAccess m = true)
    (hg : guarded = true → h.secure m = true) (hd : h.domDark (domOf off) = false) (f : Hub → Hub) :
    h.cmdBit m off guarded f = f (h.laneReached off) := by
  simp only [Hub.cmdBit, hm, hd]
  cases guarded <;> simp_all

/-- A guarded command bit written by a master that does not reach guarded locations does nothing but count the denial (R297,
R417). -/
theorem Hub.cmdBit_denied {h : Hub} {m : Master} {off : Nat} (hm : h.mayAccess m = true) (h0 : h.secure m = false)
    (f : Hub → Hub) : h.cmdBit m off true f = h.denyAcc m off true := by
  simp [Hub.cmdBit, hm, h0]

/-- No access waits where no domain is being entered (R334, R336). -/
theorem Hub.accHeld_none {h : Hub} (hd : ∀ n, h.domHolds n = false) (m : Master) (addr size : Nat) : h.accHeld m addr size = false := by
  simp [Hub.accHeld, hd]

/-- A command bit addressed to a domain that is not being entered is written at once (R334, R408). -/
theorem Hub.masterCommand_now {h : Hub} {m : Master} {off bit : Nat} {guarded : Bool} (ha : h.accHeld m off 2 = false)
    (f : Hub → Hub) : h.masterCommand m off bit guarded f = h.cmdBit m off guarded fun h => f (h.cmdWritten off) := by
  simp [Hub.masterCommand, Hub.command, ha]

/-- A command bit that the register takes acts on the hub as written (R408, R416). -/
theorem Hub.masterCommand_run {s : State} {m : Master} {off bit : Nat} {guarded : Bool} (hs : s.takes m off guarded)
    (f : Hub → Hub) : s.hub.quiet.masterCommand m off bit guarded f = f (s.hub.quiet.written off) := by
  obtain ⟨_, hm, hg, hd, ha⟩ := hs
  rw [Hub.masterCommand_now (by exact ha), Hub.cmdBit_run (by exact hm) (by exact hg) (by exact hd)]
  rfl

/-- A write that reaches a register's block changes none of the block's units. -/
theorem Hub.laneReached_frame (h : Hub) (off : Nat) :
    (h.laneReached off).clk = h.clk ∧ (h.laneReached off).tb = h.tb ∧ (h.laneReached off).timing = h.timing ∧
    (h.laneReached off).gates = h.gates ∧ (h.laneReached off).active = h.active ∧ (h.laneReached off).tcs = h.tcs ∧
    (h.laneReached off).pdes = h.pdes ∧ (h.laneReached off).captures = h.captures ∧ (h.laneReached off).links = h.links ∧
    (h.laneReached off).vbs = h.vbs ∧ (h.laneReached off).outlets = h.outlets ∧ (h.laneReached off).bud = h.bud ∧
    (h.laneReached off).rl = h.rl ∧ (h.laneReached off).upsel = h.upsel ∧ (h.laneReached off).sched = h.sched ∧
    (h.laneReached off).doms = h.doms ∧ (h.laneReached off).seq = h.seq ∧ (h.laneReached off).csb = h.csb ∧
    (h.laneReached off).fwls = h.fwls ∧ (h.laneReached off).sec = h.sec ∧ (h.laneReached off).mbx = h.mbx ∧
    (h.laneReached off).out = h.out := by
  unfold Hub.laneReached
  split
  · simp
  · split <;> simp

@[simp] theorem Hub.laneReached_tc (h : Hub) (off : Nat) (p : PodIx) : (h.laneReached off).tc p = h.tc p := by
  simp [Hub.tc, Hub.laneReached_frame]

@[simp] theorem Hub.laneReached_pde (h : Hub) (off : Nat) (p : PodIx) : (h.laneReached off).pde p = h.pde p := by
  simp [Hub.pde, Hub.laneReached_frame]

@[simp] theorem Hub.laneReached_vb (h : Hub) (off : Nat) (x : PathIx) : (h.laneReached off).vb x = h.vb x := by
  simp [Hub.vb, Hub.laneReached_frame]

@[simp] theorem Hub.laneReached_gate (h : Hub) (off : Nat) (d : DirIx) : (h.laneReached off).gate d = h.gate d := by
  simp [Hub.gate, Hub.laneReached_frame]

@[simp] theorem Hub.laneReached_capture (h : Hub) (off : Nat) (p : PodIx) : (h.laneReached off).capture p = h.capture p := by
  simp [Hub.capture, Hub.laneReached_frame]

/-! #### Words, event bits and counters read back -/

theorem Hub.act_setAct (h : Hub) (off y : Nat) (w : Word) : (h.setAct off w).act y = if y = off then w else h.act y :=
  smGet_smSet _ _ off y w

theorem Hub.shd_setShd (h : Hub) (off y : Nat) (w : Word) : (h.setShd off w).shd y = if y = off then w else h.shd y :=
  smGet_smSet _ _ off y w

/-- Setting an event bit sets it in its own word and leaves every other word (R406). -/
theorem Hub.evtWord_evt (h : Hub) (off bit y : Nat) :
    (h.evt off bit).evtWord y = if y = off then h.evtWord off ||| BitVec.twoPow 32 bit else h.evtWord y :=
  smGet_smSet _ _ off y _

/-- A counter counts, and no other does (R419). -/
theorem Hub.cnt_bump (h : Hub) (slot k : Nat) :
    (h.bump slot).cnt k = if k = slot then (h.cnt slot + 1) % 2 ^ 64 else h.cnt k :=
  smGet_smSet _ _ slot k _

end Sys2Proof.Machine
end

