-- ==== Sys2Proof/Laws/Budget.lean ====
section
/-! SUPPORT. The passes of the budget recomputation with nothing over B. -/

namespace Sys2Proof.Machine

/-- With nothing over B no consumer is cut (R155). -/
theorem budCut_none (xs : List PathIx) (h : Hub) (o : Int) (ho : o ≤ 0) : xs.foldl Hub.budCut (h, o) = (h, o) := by
  induction xs with
  | nil => rfl
  | cons x xs ih =>
    simp only [List.foldl]
    rw [show Hub.budCut (h, o) x = (h, o) by simp [Hub.budCut]; intro; omega]
    exact ih

/-- With nothing over B no pod is chosen for a shed (R155). -/
theorem budShedPick_none (h : Hub) (l : List PathIx) (xs : List PathIx) (o : Int) (ho : o ≤ 0) :
    xs.foldl h.budShedPick (l, o) = (l, o) := by
  induction xs with
  | nil => rfl
  | cons x xs ih =>
    simp only [List.foldl]
    rw [show h.budShedPick (l, o) x = (l, o) by simp [Hub.budShedPick]; intro; omega]
    exact ih

/-- A shed of no consumer changes nothing. -/
theorem budShedAll_none (h : Hub) (cause : Nat) (pick : PathIx → Bool) (none : ∀ x, pick x = false) :
    h.budShedAll cause pick = h := by
  simp [Hub.budShedAll, none]

end Sys2Proof.Machine
end

