-- ==== Sys2Proof/Laws/Cascade.lean ====
section
/-! SUPPORT. What the receipt of a cascade frame does, whom it reaches, and the sum of the manager's targets. -/

namespace Sys2Proof.Machine

/-- What a stall counts touches the ring's counters and the ring alone (R365, R398). -/
theorem Hub.stallEval_frame (h : Hub) (r : RingIx) :
    (h.stallEval r).csb = h.csb ∧ (h.stallEval r).bud = h.bud ∧ (h.stallEval r).sec = h.sec ∧ (h.stallEval r).nvm = h.nvm := by
  refine ⟨?_, ?_, ?_, ?_⟩ <;>
    · dsimp only [Hub.stallEval]
      repeat' split
      all_goals rfl

/-- An acknowledged report changes that it is due, and nothing else. -/
theorem Hub.csbTold_frame (h : Hub) (xs : List CsbSent) :
    (h.csbTold xs).csb.joined = h.csb.joined ∧ (h.csbTold xs).csb.role = h.csb.role ∧ (h.csbTold xs).csb.myId = h.csb.myId ∧
    (h.csbTold xs).csb.workers = h.csb.workers ∧ (h.csbTold xs).csb.mgrLost = h.csb.mgrLost ∧
    (h.csbTold xs).csb.jcolSent = h.csb.jcolSent ∧ (h.csbTold xs).csb.jcolAcks = h.csb.jcolAcks ∧
    (h.csbTold xs).csb.dist = h.csb.dist ∧ (h.csbTold xs).csb.links = h.csb.links ∧
    (h.csbTold xs).csb.load = { h.csb.load with report := (h.csbTold xs).csb.load.report } ∧ (h.csbTold xs).bud = h.bud ∧ (h.csbTold xs).sec = h.sec ∧ (h.csbTold xs).nvm = h.nvm := by
  unfold Hub.csbTold
  split <;> simp

theorem Hub.csbMbxAcked_frame (h : Hub) (x : CsbSent) :
    (h.csbMbxAcked x).csb = h.csb ∧ (h.csbMbxAcked x).bud = h.bud ∧ (h.csbMbxAcked x).sec = h.sec ∧ (h.csbMbxAcked x).nvm = h.nvm := by
  unfold Hub.csbMbxAcked
  split
  · split <;> simp [Hub.stallEval_frame, Hub.modRing, Hub.modMbx]
  · simp

theorem Hub.csbMbxAcked_foldl (xs : List CsbSent) : ∀ h : Hub,
    (xs.foldl (fun h x => h.csbMbxAcked x) h).csb = h.csb ∧ (xs.foldl (fun h x => h.csbMbxAcked x) h).bud = h.bud ∧
    (xs.foldl (fun h x => h.csbMbxAcked x) h).sec = h.sec ∧ (xs.foldl (fun h x => h.csbMbxAcked x) h).nvm = h.nvm := by
  induction xs with
  | nil => intro h; simp
  | cons x xs ih =>
    intro h
    simp only [List.foldl_cons]
    obtain ⟨a, b, c, d⟩ := ih (h.csbMbxAcked x)
    obtain ⟨a', b', c', d'⟩ := h.csbMbxAcked_frame x
    exact ⟨a.trans a', b.trans b', c.trans c', d.trans d'⟩

/-- The header of a frame changes its own link, and that the report of the running version was told: the hub's role, the workers,
the grant, the journal and the security unit stand. -/
theorem Hub.csbSeen_frame (h : Hub) (p : PodIx) (hd : CsbHdr) (reliable : Bool) :
    let k := h.csbSeen p hd reliable
    k.csb.joined = h.csb.joined ∧ k.csb.role = h.csb.role ∧ k.csb.myId = h.csb.myId ∧ k.csb.workers = h.csb.workers ∧
    k.csb.mgrLost = h.csb.mgrLost ∧ k.csb.jcolSent = h.csb.jcolSent ∧ k.csb.jcolAcks = h.csb.jcolAcks ∧ k.csb.load = { h.csb.load with report := k.csb.load.report } ∧
    k.csb.dist = h.csb.dist ∧ k.bud = h.bud ∧ k.sec = h.sec ∧ k.nvm = h.nvm ∧ (k.clink p).isParent = (h.clink p).isParent ∧
    (k.clink p).state = (h.clink p).state := by
  intro k
  simp only [k]
  unfold Hub.csbSeen Hub.csbAcked
  by_cases ha : hd.ackValid
  · simp only [ha, ↓reduceIte, Hub.modClink, Hub.modCsb, Hub.clink]
    refine ⟨?_, ?_, ?_, ?_, ?_, ?_, ?_, ?_, ?_, ?_, ?_, ?_, ?_, ?_⟩
    case refine_8 =>
      simp only [Hub.csbMbxAcked_foldl]
      exact (Hub.csbTold_frame _ _).2.2.2.2.2.2.2.2.2.1
    all_goals simp [Hub.csbMbxAcked_foldl, Hub.csbTold_frame]
  · simp [ha, Hub.modClink, Hub.modCsb, Hub.clink]

/-- A frame on a link that is up acts, if its type is not reliable or it arrives in order, and then hands the turn on. -/
theorem frameAt_run {s : State} {p : PodIx} {hd : CsbHdr} {b : CsbBody} (hs : s.frameAt p)
    (ho : b.reliable = true → (s.hub.clink p).inOrder hd.seq = true) (f : Hub → Hub) :
    (onCsb s fun h => h.csbRx p hd b f) = .next (s.put ((f (s.hub.quiet.csbSeen p hd b.reliable)).csbTurn p hd)) := by
  obtain ⟨a, c⟩ := hs
  rw [onCsb_run a]
  unfold Hub.csbRx
  cases hb : b.reliable
  · simp [c]
  · simp [c, ho hb]

/-- A frame without the turn hands none on. -/
theorem Hub.csbTurn_none (h : Hub) (p : PodIx) {hd : CsbHdr} (ht : hd.turn = false) : h.csbTurn p hd = h := by
  simp [Hub.csbTurn, ht]

/-- A frame from above that names this worker acts here and goes no further. -/
theorem toWorker_run {s : State} {p : PodIx} {hd : CsbHdr} {b : CsbBody} (hs : s.toWorker p hd) (f : Hub → Hub) (r : Bool) :
    (s.hub.quiet.csbSeen p hd r).csbDownward p hd b f = f (s.hub.quiet.csbSeen p hd r) := by
  obtain ⟨_, _, c, d, e, g⟩ := hs
  unfold Hub.csbDownward
  simp [Hub.csbSeen_frame, c, g, d, ← e]

/-- A frame from below reaches the manager. -/
theorem toManager_run {s : State} {p : PodIx} {hd : CsbHdr} {b : CsbBody} (hs : s.toManager p hd) (f : Hub → Hub) (r : Bool) :
    (s.hub.quiet.csbSeen p hd r).csbUpward p hd b f = f (s.hub.quiet.csbSeen p hd r) := by
  obtain ⟨_, _, c, d, e⟩ := hs
  unfold Hub.csbUpward
  simp [Hub.csbSeen_frame, c, d, e]

theorem sumBy_foldl {α : Type} (f : α → Nat) (xs : List α) (n : Nat) :
    xs.foldl (fun a x => a + f x) n = n + sumBy f xs := by
  unfold sumBy
  induction xs generalizing n with
  | nil => rfl
  | cons x xs ih => rw [List.foldl_cons, List.foldl_cons, ih (n + f x), ih (0 + f x)]; omega

theorem sumBy_cons {α : Type} (f : α → Nat) (x : α) (xs : List α) : sumBy f (x :: xs) = f x + sumBy f xs := by
  conv => lhs; unfold sumBy
  rw [List.foldl_cons, sumBy_foldl, Nat.zero_add]

/-- The minima given out and what is left are together what there was (R265). -/
theorem Hub.shareMins_sum (h : Hub) : ∀ ws av, sumBy Share.t (h.shareMins ws av).1 + (h.shareMins ws av).2 = av := by
  intro ws
  induction ws with
  | nil => intro av; simp [Hub.shareMins, sumBy]
  | cons w ws ih =>
    intro av
    have e := ih (av - min (min (h.wMin w) (h.wMax w)) av)
    have e2 := Nat.min_le_right (min (h.wMin w) (h.wMax w)) av
    simp only [Hub.shareMins, sumBy_cons]
    omega

end Sys2Proof.Machine
end

