-- ==== Sys2Proof/Laws/Domains.lean ====
section
/-! SUPPORT. A wake or a request of a domain leaves the rings of the mailbox alone: a command that wakes the MP keeps its place. -/

namespace Sys2Proof.Machine

/-- A fold keeps what each of its steps keeps. -/
theorem foldl_rings {α : Type} (f : Hub → α → Hub) (hf : ∀ h a, (f h a).mbx.rings = h.mbx.rings) (l : List α) (h : Hub) :
    (l.foldl f h).mbx.rings = h.mbx.rings := by
  induction l generalizing h with
  | nil => rfl
  | cons a l ih => rw [List.foldl_cons, ih, hf]

@[simp] theorem jobEnd_rings (h : Hub) (j : Fin 8) (o : Outcome) : (h.jobEnd j o).mbx.rings = h.mbx.rings := rfl

@[simp] theorem wakeItem_rings (h : Hub) (a b : Nat) : (h.wakeItem a b).mbx.rings = h.mbx.rings := by
  unfold Hub.wakeItem Hub.huskEvt
  dsimp only
  split
  · rfl
  · split <;> rfl

@[simp] theorem domJobsEnd_rings (h : Hub) (n : DomIx) (ok : Bool) : (h.domJobsEnd n ok).mbx.rings = h.mbx.rings := by
  show (List.foldl _ _ _ : Hub).mbx.rings = _
  apply foldl_rings
  intros; rfl

@[simp] theorem planJobsEnd_rings (h : Hub) : h.planJobsEnd.mbx.rings = h.mbx.rings := by
  show (List.foldl _ _ _ : Hub).mbx.rings = _
  apply foldl_rings
  intros; rfl

@[simp] theorem planStop_rings (h : Hub) (n : DomIx) : (h.planStop n).mbx.rings = h.mbx.rings := by
  simp only [Hub.planStop, planJobsEnd_rings]
  refine (foldl_rings _ ?_ _ _).trans rfl
  intros; rfl

@[simp] theorem rlRequest_rings (h : Hub) (o : Nat) (k : RlKind) : (h.rlRequest o k).mbx.rings = h.mbx.rings := by
  unfold Hub.rlRequest Hub.rlEnqueue Hub.rlFailNow
  dsimp only
  split
  · rfl
  · split <;> simp [Hub.modSlot]

@[simp] theorem exitRailFail_rings (h : Hub) (n : DomIx) (r : Fin 10) : (h.exitRailFail n r).mbx.rings = h.mbx.rings := by
  unfold Hub.exitRailFail
  dsimp only
  split
  · rfl
  · simp [Hub.domEvt]

@[simp] theorem railsRequestOn_rings (h : Hub) (n : DomIx) : (h.railsRequestOn n).mbx.rings = h.mbx.rings :=
  foldl_rings _ (fun h r => by dsimp only; (repeat' split) <;> simp) _ _

@[simp] theorem railsKeep_rings (h : Hub) (n : DomIx) : (h.railsKeep n).mbx.rings = h.mbx.rings := rfl

@[simp] theorem domExitOne_rings (h : Hub) (src : Nat) (n : DomIx) : (h.domExitOne src n).mbx.rings = h.mbx.rings := by
  unfold Hub.domExitOne
  dsimp only
  split
  · split <;> simp
  · rfl

@[simp] theorem domExit_rings (h : Hub) (src : Nat) (n : DomIx) : (h.domExit src n).mbx.rings = h.mbx.rings :=
  foldl_rings _ (fun _ _ => domExitOne_rings _ _ _) _ _

@[simp] theorem exitAll_rings (h : Hub) (src : Nat) (set : List DomIx) : (h.exitAll src set).mbx.rings = h.mbx.rings :=
  foldl_rings _ (fun _ _ => domExit_rings _ _ _) _ _

@[simp] theorem busTakes_rings (h : Hub) : h.busTakes.mbx.rings = h.mbx.rings := by
  unfold Hub.busTakes
  split <;> rfl

@[simp] theorem domBack_rings (h : Hub) (n : DomIx) (src : Nat) : (h.domBack n src).mbx.rings = h.mbx.rings := by
  unfold Hub.domBack
  dsimp only
  (repeat' split) <;> simp [Hub.stageFlush]

@[simp] theorem refuseNote_rings (h : Hub) (n : DomIx) (a b c : Nat) : (h.refuseNote n a b c).mbx.rings = h.mbx.rings := by
  unfold Hub.refuseNote
  dsimp only
  split <;> simp [Hub.domEvt, Hub.raise_frame]

@[simp] theorem domRefuse_rings (h : Hub) (n : DomIx) (a b c : Nat) : (h.domRefuse n a b c).mbx.rings = h.mbx.rings := by
  unfold Hub.domRefuse
  split <;> simp

@[simp] theorem domEnter_rings (h : Hub) (n : DomIx) (t : DomTgt) : (h.domEnter n t).mbx.rings = h.mbx.rings := by
  unfold Hub.domEnter
  dsimp only
  (repeat' split) <;> simp

@[simp] theorem domTake_rings (h : Hub) (n : DomIx) (t : DomTgt) : (h.domTake n t).mbx.rings = h.mbx.rings := by
  unfold Hub.domTake
  (repeat' split) <;> simp

@[simp] theorem queuedRun_rings (h : Hub) (n : DomIx) (pl : Bool) : (h.queuedRun n pl).mbx.rings = h.mbx.rings := by
  unfold Hub.queuedRun
  simp

@[simp] theorem turnOf_rings (h : Hub) (n : DomIx) : (h.turnOf n).mbx.rings = h.mbx.rings := by
  unfold Hub.turnOf
  (repeat' split) <;> simp

@[simp] theorem domNext_rings (h : Hub) : h.domNext.mbx.rings = h.mbx.rings := by
  have a : (planOrder.foldl Hub.turnOf h).mbx.rings = h.mbx.rings := foldl_rings _ turnOf_rings _ _
  unfold Hub.domNext
  dsimp only
  split <;> simp [a]

@[simp] theorem wakeRun_rings (h : Hub) (src : Nat) (set : List DomIx) (ty : Nat) : (h.wakeRun src set ty).mbx.rings = h.mbx.rings := by
  have a : ∀ (l : List DomIx) (g : Hub), (l.foldl (fun h e => h.domRefuse e 4 1 src) g).mbx.rings = g.mbx.rings :=
    fun l g => foldl_rings _ (fun h n => by simp) l g
  unfold Hub.wakeRun
  dsimp only
  (repeat' split) <;> simp [a]

@[simp] theorem wakeSource_rings (h : Hub) (s : Nat) : (h.wakeSource s).mbx.rings = h.mbx.rings := by
  unfold Hub.wakeSource
  split <;> simp

@[simp] theorem reqDrop_rings (h : Hub) (n : DomIx) : (h.reqDrop n).mbx.rings = h.mbx.rings := rfl

@[simp] theorem domWait_rings (h : Hub) (n : DomIx) (t : DomTgt) : (h.domWait n t).mbx.rings = h.mbx.rings := rfl

@[simp] theorem domRetarget_rings (h : Hub) (n : DomIx) (t : DomTgt) : (h.domRetarget n t).mbx.rings = h.mbx.rings := by
  unfold Hub.domRetarget
  dsimp only
  split <;> rfl

@[simp] theorem domRun_rings (h : Hub) (n : DomIx) (t : DomTgt) : (h.domRun n t).mbx.rings = h.mbx.rings := by
  unfold Hub.domRun
  (repeat' split) <;> simp

@[simp] theorem domRequest_rings (h : Hub) (n : DomIx) (t : DomTgt) (hold : Bool) : (h.domRequest n t hold).mbx.rings = h.mbx.rings := by
  unfold Hub.domRequest
  dsimp only
  (repeat' split) <;> simp

/-- HUSK, DOM or CLK leaves its safe response (R313, R314). -/
theorem safeEnd_rings (h : Hub) (b : Nat) (hb : b ≤ 3 ∧ b ≠ 0) : (h.safeEnd b).mbx.rings = h.mbx.rings := by
  unfold Hub.safeEnd Hub.safeLeft
  split
  · rfl
  · split
    · rfl
    · rw [dif_neg (by omega), dif_neg (by omega), if_neg (by omega), if_neg (by omega), if_neg (by omega)]
      simp

/-- A write of a register of HUSK, DOM or CLK, the end of a parity fault there included. -/
theorem parWritten_rings (h : Hub) (off : Nat) (hb : blockOf off ≤ 3 ∧ blockOf off ≠ 0) :
    (h.parWritten off false).mbx.rings = h.mbx.rings := by
  have all : ∀ (l : List Nat) (g : Hub), (∀ b ∈ l, b = blockOf off) → (l.foldl (fun h b => h.safeEnd b) g).mbx.rings = g.mbx.rings := by
    intro l
    induction l with
    | nil => intro g _; rfl
    | cons b l ih =>
      intro g hl
      rw [List.foldl_cons, ih _ fun x hx => hl x (List.mem_cons_of_mem _ hx),
        safeEnd_rings g b (by rw [hl b List.mem_cons_self]; exact hb)]
  unfold Hub.parWritten Hub.parEndIf
  dsimp only
  rw [if_neg (by simp), all]
  · rfl
  · intro b hb
    obtain ⟨f, hf, e⟩ := List.any_eq_true.mp (List.mem_filter.mp hb).2
    have := (List.mem_filter.mp hf).2
    simp_all

/-- A command stored while the MP is not ON wakes it and stays in its slot (R10). -/
@[simp] theorem mpWanted_rings (h : Hub) (r : RingIx) : (h.mpWanted r).mbx.rings = h.mbx.rings := by
  unfold Hub.mpWanted
  (repeat' split) <;> simp [parWritten_rings _ 0x2240 (by decide)]

@[simp] theorem mpWanted_ring (h : Hub) (r k : RingIx) : (h.mpWanted r).ring k = h.ring k := by
  simp [Hub.ring]

end Sys2Proof.Machine
end

