-- ==== Sys2Proof/Laws/Mailbox.lean ====
section
/-! SUPPORT. A mailbox command that can start: it is stored, starts, runs with its meaning, and its response is stored. -/

namespace Sys2Proof.Machine

theorem Hub.running_active (h : Hub) (r : RingIx) (m : Msg) : (h.running r m).active = h.active := by
  simp [Hub.running, Hub.modRing]

theorem Hub.running_nvm (h : Hub) (r : RingIx) (m : Msg) : (h.running r m).nvm = h.nvm := by
  simp [Hub.running, Hub.modRing]

theorem Hub.running_jobs (h : Hub) (r : RingIx) (m : Msg) : (h.running r m).mbx.jobs = h.mbx.jobs := by
  simp [Hub.running, Hub.modRing, Hub.modMbx]

theorem Hub.running_classes (h : Hub) (r : RingIx) (m : Msg) : (h.running r m).classes r = h.classes r := by
  simp only [Hub.classes, Hub.cfg, Hub.act, Hub.running_active, Hub.running_nvm]

theorem Hub.running_freeJob (h : Hub) (r : RingIx) (m : Msg) : (h.running r m).freeJob = h.freeJob := by
  simp only [Hub.freeJob, Hub.running_jobs]

/-- Where one ring alone can start, it is next (R381). -/
theorem Hub.nextRing_only (h : Hub) (r : RingIx) (only : ∀ q, h.canStart q = decide (q = r)) : h.nextRing = some r := by
  have : h.canStart = fun q => decide (q = r) := funext only
  simp only [Hub.nextRing, Hub.leastServed, this]
  fin_cases r <;> rfl

/-- A command that arrives on a ring where it can start runs at once (R362, R365, R382). -/
theorem Hub.opRow_ran {s : State} {r : RingIx} {op : Nat} {tag : BitVec 16} {arg : List (BitVec 8)} (hs : s.startsOn r op tag arg) (reads : List EccRead) :
    s.hub.quiet.opRow r op tag arg reads = s.hub.quiet.ran r op tag arg reads opMeaning := by
  obtain ⟨⟨a1, a2⟩, b, c, d, e, f, g, i, j, k, ⟨cls, l, m⟩, o⟩ := hs
  generalize hq : s.hub.quiet = q
  have c : q.tagUsed r tag = false := by rw [← hq]; exact c
  have d : (q.ring r).cmds = [] := by rw [← hq]; exact d
  have e : (q.ring r).running = none := by rw [← hq]; exact e
  have f : (q.ring r).stalled = false := by rw [← hq]; exact f
  have g : (q.ring r).resps.length < 8 := by rw [← hq]; exact g
  have i : q.serving = true := by rw [← hq]; exact i
  have j : q.mbx.bootRomOnly = false := by rw [← hq]; exact j
  have k : q.needsJob op arg = true → q.freeJob.isSome = true := by rw [← hq]; exact k
  have m : (q.classes r).testBit cls = true := by rw [← hq]; exact m
  have o : ∀ x, x ≠ r → q.canStart x = false := by rw [← hq]; exact o
  clear hq
  have rs : q.mbx.restarting = false := by simp only [Hub.serving, Hub.umuriRuns] at i; simp_all
  have on : q.domOn domMp = true := by simp only [Hub.serving] at i; simp_all
  have nb : ¬ 240 < arg.length := by omega
  have fu : q.cmdFull r = false := by simp [Hub.cmdFull, d]
  have rb : ∀ n, (q.bump n).ring r = q.ring r := fun _ => rfl
  have st : q.cmdStore r { opcode := op, tag := tag, payload := arg } = (q.bump (cntRing r 0)).modRing r fun g => { g with cmds := [{ opcode := op, tag := tag, payload := arg }] } := by
    simp only [Hub.cmdStore]
    rw [if_neg (by simp [Hub.bump, Hub.bumpBy, rs])]
    rw [show ((q.bump (cntRing r 0)).modRing r fun g => { g with cmds := g.cmds ++ [{ opcode := op, tag := tag, payload := arg }] }) = (q.bump (cntRing r 0)).modRing r fun g => { g with cmds := [{ opcode := op, tag := tag, payload := arg }] } from Hub.modRing_congr _ (by simp [rb, d])]
    simp only [Hub.mpWanted]
    rw [if_pos (by simp only [Hub.stallEval]; split <;> (try split) <;> exact on)]
    simp [Hub.stallEval, Hub.respFree, rb, e, f, g]
  generalize hB : q.bump (cntRing r 0) = B at st
  have Br : B.ring r = q.ring r := by rw [← hB]; rfl
  have nj : ∀ F, (B.modRing r F).needsJob op arg = q.needsJob op arg := by intro F; rw [← hB]; rfl
  have fj : ∀ F, (B.modRing r F).freeJob = q.freeJob := by intro F; rw [← hB]; rfl
  have sv : ∀ F, (B.modRing r F).serving = q.serving := by intro F; rw [← hB]; rfl
  simp only [Hub.opRow, nb, c, fu, d, st, sv, i, if_false]
  have cs : (B.modRing r fun g => { g with cmds := [{ opcode := op, tag := tag, payload := arg }] }).canStart r = true := by
    simp only [Hub.canStart, Hub.modRing_ring, Hub.respFree, nj, fj]
    simp [Br, e, g]
    by_cases h : q.needsJob op arg = true
    · simp [k h]
    · simp [h]
  have nx : (B.modRing r fun g => { g with cmds := [{ opcode := op, tag := tag, payload := arg }] }).nextRing = some r := by
    refine Hub.nextRing_only _ _ fun x => ?_
    by_cases hx : x = r
    · subst hx; simp [cs]
    · rw [show Hub.canStart _ x = q.canStart x from ?_]
      · simp [o x hx, hx]
      · have hrx : (B.modRing r fun g => { g with cmds := [{ opcode := op, tag := tag, payload := arg }] }).ring x = q.ring x := by
          rw [Hub.modRing_ring_ne _ _ (Ne.symm hx), ← hB]; rfl
        simp only [Hub.canStart, hrx, Hub.respFree, fj]
        rw [← hB]; rfl
  simp only [nx]
  simp only [Hub.startRing, Hub.modRing_ring]
  have fl : (B.modRing r fun g => { g with cmds := [{ opcode := op, tag := tag, payload := arg }] }).cmdFull r = false := by simp [Hub.cmdFull]
  simp only [Hub.freeSlots, fl, Bool.false_and, if_false, Bool.false_eq_true, Hub.modRing_modRing, Hub.runCmd]
  simp only [opGate, l]
  have rn : (q.running r { opcode := op, tag := tag, payload := arg }) = (((B.modRing r fun x => { x with cmds := [], running := some { opcode := op, tag := tag, payload := arg }, dropRun := false }).modMbx fun x => { x with taken := x.taken + 1 }).modRing r fun g => { g with served := q.mbx.taken + 1 }) := by
    rw [Hub.running, hB]
  simp only [Hub.ran, rn]
  have tk : ∀ F, ((B.modRing r F).modMbx fun x => { x with taken := x.taken + 1 }).mbx.taken = q.mbx.taken + 1 := by intro F; rw [← hB]; rfl
  simp only [Bool.false_and, Bool.and_true, List.isEmpty_nil, if_false, Bool.false_eq_true, Hub.modRing_modRing, tk]
  rw [← rn]
  have rnb : (q.running r { opcode := op, tag := tag, payload := arg }).mbx.bootRomOnly = false := by rw [← j]; rfl
  have rnc : (q.running r { opcode := op, tag := tag, payload := arg }).classes r = q.classes r := Hub.running_classes ..
  have rnj : (q.running r { opcode := op, tag := tag, payload := arg }).freeJob = q.freeJob := Hub.running_freeJob ..
  have rnm : ∀ F, (B.modRing r F).ringMaster r = q.ringMaster r := by intro F; rw [← hB]; rfl
  simp only [rnb, rnc, m, rnj, rnm, Bool.false_and, if_true, if_false, Bool.false_eq_true]
  generalize hx : opMeaning _ _ = x
  simp only [beq_self_eq_true]
  by_cases z : (x.h.ring r).running.isNone <;> simp [z]

/-- The row of an opcode that can start runs its command whole. -/
theorem onRow_ran {s : State} {r : RingIx} {op : Nat} {tag : BitVec 16} {arg : List (BitVec 8)} (hs : s.startsOn r op tag arg) (reads : List EccRead) :
    onRow s r op tag arg reads = .next (s.put (s.hub.quiet.ran r op tag arg reads opMeaning)) := by
  rw [onRow, perform_run hs.1.1, Hub.inDom_run (by exact hs.1.2), Hub.opRow_ran hs]

end Sys2Proof.Machine
end

