-- ==== Sys2Proof/Laws/Pd.lean ====
section
/-! SUPPORT. What the receipt of a PD message does before its answer. -/

namespace Sys2Proof.Machine

theorem Hub.capturePush_frame (h : Hub) (p : PodIx) (ty : Nat) (body : List Word) :
    (h.capturePush p ty body).pdes = h.pdes ∧ (h.capturePush p ty body).tcs = h.tcs ∧ (h.capturePush p ty body).active = h.active ∧
    (h.capturePush p ty body).vbs = h.vbs ∧ (h.capturePush p ty body).bud = h.bud ∧ (h.capturePush p ty body).nvm = h.nvm ∧
    (h.capturePush p ty body).sec = h.sec ∧ (h.capturePush p ty body).doms = h.doms := by
  unfold Hub.capturePush
  split
  · dsimp only
    split
    · simp
    · split <;> simp
  · simp

theorem Hub.captureMsg_frame (h : Hub) (p : PodIx) (ty sop : Nat) (crc : Bool) (retries : Nat) (head : BitVec 16)
    (ws : List Word) : let k := h.captureMsg p ty sop crc retries head ws
    k.pdes = h.pdes ∧ k.tcs = h.tcs ∧ k.active = h.active ∧ k.vbs = h.vbs ∧ k.bud = h.bud ∧ k.nvm = h.nvm ∧ k.sec = h.sec ∧
      k.doms = h.doms := by
  intro k
  simp only [k]
  unfold Hub.captureMsg
  split
  · exact Hub.capturePush_frame ..
  · simp

theorem Hub.captureGoodCrc_frame (h : Hub) (p : PodIx) (ty sop : Nat) (hdr : BitVec 16) : let k := h.captureGoodCrc p ty sop hdr
    k.pdes = h.pdes ∧ k.tcs = h.tcs ∧ k.active = h.active ∧ k.vbs = h.vbs ∧ k.bud = h.bud ∧ k.nvm = h.nvm ∧ k.sec = h.sec ∧
      k.doms = h.doms := by
  intro k
  simp only [k]
  unfold Hub.captureGoodCrc
  split
  · exact Hub.captureMsg_frame ..
  · simp

/-- A received message is counted and captured; it changes no pod's connection, no register, no path and no record. -/
theorem Hub.pdRx_frame (h : Hub) (p : PodIx) (f : PdFrame) (cable : Bool) :
    (h.pdRx p f cable).tcs = h.tcs ∧ (h.pdRx p f cable).active = h.active ∧ (h.pdRx p f cable).vbs = h.vbs ∧
    (h.pdRx p f cable).bud = h.bud ∧ (h.pdRx p f cable).nvm = h.nvm ∧ (h.pdRx p f cable).sec = h.sec ∧
    (h.pdRx p f cable).doms = h.doms := by
  unfold Hub.pdRx
  have e := Hub.captureMsg_frame (h.bump (cntPd p 0)) p 0x20 (if cable then 1 else 0) true f.retries f.header f.words
  have g := Hub.captureGoodCrc_frame ((h.bump (cntPd p 0)).captureMsg p 0x20 (if cable then 1 else 0) true f.retries f.header f.words)
    p 0x21 (if cable then 1 else 0) f.header
  simp only [e] at g
  simp only
  generalize Hub.captureGoodCrc _ p 0x21 (if cable then 1 else 0) f.header = k at g ⊢
  replace e := g
  by_cases hc : (cable || (k.pde p).revKnown) = true
  · simp only [hc, if_true]; simp [e]
  · simp only [hc]; simp [e]

/-- Of the engine itself it settles the revision alone (R70). -/
theorem Hub.pdRx_pde (h : Hub) (p : PodIx) (f : PdFrame) (cable : Bool) (q : PodIx) :
    ∃ a b, (h.pdRx p f cable).pde q = { h.pde q with revKnown := a, rev3 := b } := by
  unfold Hub.pdRx
  have e := Hub.captureMsg_frame (h.bump (cntPd p 0)) p 0x20 (if cable then 1 else 0) true f.retries f.header f.words
  have g := Hub.captureGoodCrc_frame ((h.bump (cntPd p 0)).captureMsg p 0x20 (if cable then 1 else 0) true f.retries f.header f.words)
    p 0x21 (if cable then 1 else 0) f.header
  simp only [e] at g
  simp only
  generalize Hub.captureGoodCrc _ p 0x21 (if cable then 1 else 0) f.header = k at g ⊢
  replace e := g
  have e2 : ∀ q, k.pde q = h.pde q := by
    intro q
    simp [Hub.pde, e]
  by_cases hc : (cable || (k.pde p).revKnown) = true
  · simp only [hc, if_true]
    exact ⟨_, _, by rw [e2]⟩
  · simp only [hc]
    by_cases hq : q = p
    · subst hq
      exact ⟨_, _, by simp only [Bool.false_eq_true, if_false, Hub.modPde_pde, e2]; rfl⟩
    · exact ⟨_, _, by simp only [Bool.false_eq_true, if_false, Hub.modPde_pde_ne k _ (Ne.symm hq), e2]; rfl⟩

theorem Hub.pdRx_tc (h : Hub) (p : PodIx) (f : PdFrame) (cable : Bool) (q : PodIx) : (h.pdRx p f cable).tc q = h.tc q := by
  simp [Hub.tc, Hub.pdRx_frame]

/-- The engine hears: the message is counted and captured, then answered. -/
theorem hears_run {s : State} {p : PodIx} {f : PdFrame} (hs : s.hears p) (act : Hub → Hub) :
    (onPod s p fun h => h.pdOn p f act) = .next (s.put (act (s.hub.quiet.pdRx p f false))) := by
  obtain ⟨⟨a, b⟩, c⟩ := hs
  rw [onPod_run a b]
  have c' : s.hub.quiet.pdActive p = true := c
  have : (s.hub.quiet.pde p).state ≠ .disabled := by
    intro e
    unfold Hub.pdActive at c'
    rw [e] at c'
    simp at c'
  unfold Hub.pdOn
  rw [if_neg this]
  simp [c']

end Sys2Proof.Machine
end

