-- ==== Sys2Proof/Laws/Reset.lean ====
section
/-! SUPPORT. What the stored configuration changes at reset, and that a held device is shut. -/

namespace Sys2Proof.Machine

/-- Loading the stored configuration changes register words alone. -/
theorem Hub.loadStored_frame (h : Hub) :
    h.loadStored.tcs = h.tcs ∧ h.loadStored.vbs = h.vbs ∧ h.loadStored.pdes = h.pdes ∧ h.loadStored.mbx = h.mbx ∧
    h.loadStored.held = h.held := by
  unfold Hub.loadStored
  suffices ∀ (l : List (Nat × Word)) (k : Hub),
      (l.foldl (fun h x => (h.setAct x.1 x.2).setShd x.1 x.2) k).tcs = k.tcs ∧
      (l.foldl (fun h x => (h.setAct x.1 x.2).setShd x.1 x.2) k).vbs = k.vbs ∧
      (l.foldl (fun h x => (h.setAct x.1 x.2).setShd x.1 x.2) k).pdes = k.pdes ∧
      (l.foldl (fun h x => (h.setAct x.1 x.2).setShd x.1 x.2) k).mbx = k.mbx ∧
      (l.foldl (fun h x => (h.setAct x.1 x.2).setShd x.1 x.2) k).held = k.held from this _ _
  intro l
  induction l with
  | nil => intro k; simp
  | cons a l ih => intro k; simp only [List.foldl_cons]; exact ih _

/-- The device as a reset holds it has every gate off and every switch open (R463). -/
theorem Hub.resetHold_shut (h : Hub) (f : Held) : ({ h.resetHold with held := f } : Hub).shut := by
  unfold Hub.shut
  refine ⟨?_, ?_, ?_⟩
  · intro x
    simp [Hub.resetHold, Hub.vb]
  · intro p
    refine ⟨?_, ?_, ?_, ?_⟩
    · simp [Hub.resetHold, Hub.tc]
    · simp [Hub.resetHold, Hub.tc]
    · simp [Hub.resetHold, Hub.tc]
    · have hp : h.resetHold.pdes = Hub.reset.pdes := (Hub.loadStored_frame _).2.2.1
      show (h.resetHold.pdes[p]).state = .disabled
      simp only [hp]
      simp [Hub.reset]
  · have hm : h.resetHold.mbx = Hub.reset.mbx := (Hub.loadStored_frame _).2.2.2.1
    show h.resetHold.mbx.umuriUp = false
    rw [hm]
    rfl

end Sys2Proof.Machine
end

