-- ==== Sys2Proof/Laws/Shell.lean ====
section
/-! SUPPORT. What an answer of the MF or of the hub leaves alone: it is put into UQ_0, and may direct the upstream link to U0. -/

namespace Sys2Proof.Machine

/-- A D pod is no upstream pod. -/
theorem upPod_ne {q : PodIx} (hq : isD q = true) (u : UpIx) : q ≠ upPod u := by
  revert hq; revert u q; decide

theorem upWake_frame (h : Hub) {q : PodIx} (hq : isD q = true) :
    h.upWake.link q = h.link q ∧ h.upWake.tcs = h.tcs ∧ h.upWake.upsel = h.upsel := by
  unfold Hub.upWake
  split
  · exact ⟨rfl, rfl, rfl⟩
  · next u _ =>
    dsimp only
    split
    · refine ⟨?_, by simp, by simp⟩
      simpa [Hub.link] using h.modLink_link_ne _ (Ne.symm (upPod_ne hq u))
    · exact ⟨rfl, rfl, rfl⟩

theorem upPut_frame (h : Hub) (n : QueueIx) (x : UpPkt) {q : PodIx} (hq : isD q = true) :
    (h.upPut n x).link q = h.link q ∧ (h.upPut n x).tcs = h.tcs ∧ (h.upPut n x).upsel = h.upsel := by
  unfold Hub.upPut
  exact upWake_frame _ hq

theorem uq0Put_frame (h : Hub) (x : UpPkt) {q : PodIx} (hq : isD q = true) :
    (h.uq0Put x).link q = h.link q ∧ (h.uq0Put x).tcs = h.tcs ∧ (h.uq0Put x).upsel = h.upsel := by
  unfold Hub.uq0Put Hub.notePool
  dsimp only
  split
  · simpa [Hub.shellEvt, Hub.link] using upPut_frame h 0 _ hq
  · exact upPut_frame h 0 _ hq

/-- An answer of the MF or the hub changes no downstream port and no connector. -/
theorem answer_frame (h : Hub) (src ep rank mx bytes : Nat) (o : Output) {q : PodIx} (hq : isD q = true) :
    (h.answer src ep rank mx bytes o).link q = h.link q ∧ (h.answer src ep rank mx bytes o).tcs = h.tcs
      ∧ (h.answer src ep rank mx bytes o).upsel = h.upsel := by
  have fold : ∀ (l : List (Nat × Nat)) (g : Hub) (f : Nat × Nat → UpPkt),
      (l.foldl (fun h k => h.uq0Put (f k)) g).link q = g.link q ∧ (l.foldl (fun h k => h.uq0Put (f k)) g).tcs = g.tcs
        ∧ (l.foldl (fun h k => h.uq0Put (f k)) g).upsel = g.upsel := by
    intro l
    induction l with
    | nil => intro g f; exact ⟨rfl, rfl, rfl⟩
    | cons x l ih =>
      intro g f
      have a := ih (g.uq0Put (f x)) f
      have b := uq0Put_frame g (f x) hq
      exact ⟨a.1.trans b.1, a.2.1.trans b.2.1, a.2.2.trans b.2.2⟩
  unfold Hub.answer
  split
  · simp [Hub.link]
  · dsimp only
    split
    · exact fold _ h _
    · exact uq0Put_frame h _ hq

theorem hubReply_frame (h : Hub) (ws : List Word) {q : PodIx} (hq : isD q = true) :
    (h.hubReply ws).link q = h.link q ∧ (h.hubReply ws).tcs = h.tcs ∧ (h.hubReply ws).upsel = h.upsel := answer_frame h _ _ _ _ _ _ hq

/-- An answer of the MF or the hub leaves the mailbox alone. -/
@[simp] theorem uq0Put_mbx (h : Hub) (x : UpPkt) : (h.uq0Put x).mbx = h.mbx := by
  have up : ∀ (n : QueueIx) (y : UpPkt), (h.upPut n y).mbx = h.mbx := by
    intro n y
    unfold Hub.upPut Hub.upWake
    dsimp only
    split
    · rfl
    · split <;> rfl
  unfold Hub.uq0Put Hub.notePool
  dsimp only
  split
  · exact up 0 _
  · exact up 0 _

@[simp] theorem answer_mbx (h : Hub) (src ep rank mx bytes : Nat) (o : Output) : (h.answer src ep rank mx bytes o).mbx = h.mbx := by
  have fold : ∀ (l : List (Nat × Nat)) (g : Hub) (f : Nat × Nat → UpPkt), (l.foldl (fun h k => h.uq0Put (f k)) g).mbx = g.mbx := by
    intro l
    induction l with
    | nil => intro g f; rfl
    | cons x l ih => intro g f; rw [List.foldl_cons, ih, uq0Put_mbx]
  unfold Hub.answer
  split
  · rfl
  · dsimp only
    split
    · exact fold _ h _
    · exact uq0Put_mbx h _

@[simp] theorem mfSay_mbx (h : Hub) (r : RingIx) (o : Output) : (h.mfSay r o).mbx = h.mbx := answer_mbx ..

end Sys2Proof.Machine
end

