-- ==== Sys2Proof/WellFormed.lean ====
section
/-! DEFINITION. The commands the block can be given: each check refuses an operand no link, pin or sensor of the part can carry. -/

namespace Sys2Proof

/-- Readings of the moisture check: codes of 16 bits, in 100 ohm units (R64). -/
def moistOk (rs : List Nat) : Bool := rs.all fun r => decide (r < 65536)

/-- Measurements of a path: a sense voltage of -25 mV to +100 mV in uV (R115) and 12-bit voltages in 10 mV units (R146). -/
def senseOk (uv : Int) (vbus vsrc : Nat) : Bool :=
  decide (-25000 ≤ uv) && decide (uv ≤ 100000) && decide (vbus < 4096) && decide (vsrc < 4096)

/-- VIN_SNS: a 10-bit reading in 2 mV units (R168, R457). -/
def vinOk (vin : Nat) : Bool := decide (vin < 1024)

/-- HOLDUP: 0 to 1.8 V in mV (R457). -/
def holdupOk (mv : Nat) : Bool := decide (mv ≤ 1800)

/-- FRC in kHz over 17 bits, LRC in Hz over 16 bits (R357). -/
def clocksOk (frc lrc : Nat) : Bool := decide (frc < 131072) && decide (lrc < 65536)

/-- The payload of a USB packet: at most 1,024 bytes (R173). -/
def payloadOk (bytes : Nat) : Bool := decide (bytes ≤ 1024)

/-- A mailbox message: a header of 16 bytes and up to 240 bytes of payload (R360). -/
def msgOk (bytes : List (BitVec 8)) : Bool := decide (bytes.length ≤ 256)

/-- What one bulk packet to the MF carries: at most 1,024 bytes (R370). -/
def packetOk (bytes : List (BitVec 8)) : Bool := decide (bytes.length ≤ 1024)

/-- The argument of a command: at most the 240 bytes of a payload (R360). -/
def argOk (arg : List (BitVec 8)) : Bool := decide (arg.length ≤ 240)

/-- A Block Write: 1 to 255 bytes (R373). -/
def blockOk (bytes : List (BitVec 8)) : Bool := decide (1 ≤ bytes.length) && decide (bytes.length ≤ 255)

/-- One message or chunk on CC: at most 7 words after the header (R98). -/
def frameOk (f : PdFrame) : Bool := decide (f.words.length ≤ 7)

/-- A CSB frame's addresses and sequence numbers (R255): 0 the manager, 1-63 a worker, 0x7E the neighbour, 0x7F broadcast. -/
def hdrOk (hd : CsbHdr) : Bool :=
  (decide (hd.dst < 64) || hd.dst == 0x7E || hd.dst == 0x7F) && (decide (hd.src < 64) || hd.src == 0x7E) && decide (hd.seq < 256)
    && decide (hd.ack < 256)

/-- An FW_BLOCK carries at most 240 bytes of the image (R269). -/
def blockDataOk (data : List (BitVec 8)) : Bool := decide (data.length ≤ 240)

/-- A JOURNAL frame carries at most 8 records of 32 bytes (R255, R268). -/
def recsOk (recs : List Rec) : Bool := decide (recs.length ≤ 8)

/-- A power in a frame: 16 bits, in 0.25 W units (R266). -/
def powerOk (w : Nat) : Bool := decide (w < 65536)

/-- A register address as the interconnect carries it: 24 bits; from 0x50_0000 on it reads zero (R399). -/
def addrOk (addr : Nat) : Bool := decide (addr < 0x1000000)

/-- An index of the Seedbank (R315). -/
def recordOk (idx : Nat) : Bool := decide (idx < 16384)

/-- The command can be given to the block. -/
def Instr.wf (c : Instr) : Bool :=
  match c with
  | .powerOnReset | .rstNRise _ _ _ | .rstNFall | .supplyUndervoltage _ | .dieOvertemperature | .bootVerifyDone _
    | .umuriInService | .tcTerminationSeen _ _ _ | .chatterQuietExpiry _ | .drpToggle _ | .tCcDebounceExpiry _ _
    | .tPdDebounceExpiry _ _ | .tDrpTryExpiry _ | .tDrpTryWaitExpiry _ | .partnerVbusPresent _ | .sinkVbusDisconnect _
    | .vbusBelow0v8 _ | .vbusPresentTimeout _ | .tErrorRecoveryExpiry _ | .wetRecheck _ | .lockoutExpiry _ | .lockoutClr _ _
    | .forceDetach _ _ | .rebase _ _ | .vconnOcTrip _ | .huskAttachSense _ _ _ | .linkUp _ _ | .dataLinkLoss _
    | .bounceHoldRecover _ _ | .bounceHoldExpiry _ | .drSwapResponseTimeout _ | .drSwapWaitRetry _ | .upstreamFsRelease _
    | .upstreamLinkLoss _ | .upstreamRecovered _ _ | .tFailExpiry | .switch _ | .reconnectConnect | .portPowerRequest _ _
    | .portResetRequest _ _ | .getPortStatus _ | .srcTransitionExpiry _ | .regulatorConfirmTimeout _ | .reofferTimer _
    | .sinkTxExpiry _ | .ppsTimeout _ | .eprKeepaliveTimeout _ | .cableDiscoveryStart _ | .cableDiscoveryTimeout _
    | .cableDiscoveryRetry _ | .vconnSwapTimeout _ | .vconnSwapSend _ | .vconnSwapWaitRetry _ | .vconnCollisionRetry _
    | .hardResetReceived _ | .psHardResetExpiry _ | .srcRecoverExpiry _ | .sinkVbusReturnTimeout _ | .softResetAcceptTimeout _
    | .sendSourceCapTimer _ | .noRequestTimeout _ | .transmitFailure _ _ | .violQuietExpiry _ | .cableResetReceived _
    | .enterModeAckGoodcrc _ | .vdmBusyRetry _ | .vdmResponseTimeout _ | .sendCaps _ _ | .softRst _ _ | .hardRst _ _
    | .vconnSwap _ _ | .casExit _ _ | .eprExit _ _ | .capDataRead _ _ | .capFlush _ _ _ | .t0vExpiry _ | .windowQualified _
    | .tWinExpiry _ | .tInsExpiry _ | .prechargeReached _ | .tPreExpiry _ | .rampComplete _ | .tRampExpiry _ | .fastTrip _
    | .overcurrentTrip _ | .ovTrip _ | .uvTrip _ | .reverseTrip _ | .gatesOffConfirmed _ | .backoffExpiry _ | .coolDownEnd _
    | .tStableExpiry _ | .latchClr _ _ | .retryClr _ _ | .dischargeTimeout _ | .voltageTransitionEnd _
    | .outletPresenceChange _ _ | .budgetRecompute | .rpChargeLower _ | .failShed | .ewShed | .boResolve | .restoreClass _
    | .rlinkRequestStart _ _ _ | .rlinkStatusPoll _ _ _ | .rlinkRequestDone _ _ | .rlinkRequestTimeout _ _ | .rlinkAlert _ _
    | .rlinkMonitorRead _ _ | .hostInRequest _ _ _ _ | .deviceDataPacket _ _ _ _ _ _ _ | .deviceTransactionPacket _ _ _ _ _
    | .reservationIdleTimeout _ _ _ | .creditHoldExpiry | .hostHeaderPacket _ _ _ _ | .itpReceived _ _ | .startOpportunity _ _
    | .packetTxComplete _ _ _ | .ttCompleteSplit _ _ _ _ _ | .clearTtBuffer _ _ _ _ | .resetTt _ | .getTtState _ | .stopTt _
    | .linkIdleTimeout _ _ | .lgoReceived _ _ _ | .portLinkStateU3 _ | .upstreamU3Entry | .upstreamU3Exit | .usb2IdleSuspend
    | .portSuspend _ | .deviceRemoteWake _ _ _ | .snoopTransferComplete _ _ _ _ _ _ | .babble _ _ _ | .mapEntryWrite _ _ _ _
    | .paceRelease _ | .paceDeferExpiry _ _ _ | .pacePassExpiry _ _ | .tbHoldoverTimeout | .gateSwitch _ | .gateEntryAdvance _
    | .cancel _ _ | .autoWaitExpiry | .csbBadFrame _ | .csbRepeatTimeout _ | .csbTurnGrant _ | .csbTurnLapse _ | .helloRetry
    | .syncInterval _ | .demandInterval | .grantRefresh | .grantAckTimeout _ | .journalForward | .journalRepeat
    | .fwActivateTimeout _ | .linkSilence _ | .managerLoss | .grantHoldExpiry | .workerSilence _ | .workerHoldExpiry _
    | .signatureDone _ | .authTimeout _ | .release _ _ | .reauth _ _ | .utcBaseHiWrite _ _ | .mfAuthRequest _ | .dbgReq _ _
    | .extest | .shellScrub _ _ | .mpScrub _ | .parityScan _ | .journalRecord | .mramStoreComplete | .mpWatchdogExpiry
    | .mpException | .mpEccError _ | .restart _ | .tgt _ _ _ _ | .planGo _ | .domainDrained _ | .tDrainExpiry _
    | .domainCommitPoint _ | .domainEntryComplete _ | .wake _ | .domainExitComplete _ _ | .exitRailRetry _ | .smbusWakeMatch
    | .tStretchExpiry | .huskTimer | .huskFifoDataRead _ | .fifoFlush _ _ | .mpClk _ _ | .refclkLost | .refclkBack
    | .mfResponseIn _ | .mfEp0Rewind _ | .mfEp0Clear _ | .mfEp0RingStat _ | .smbDiscardAssembly | .smbBlockRead _ _
    | .smbCursorReset | .smbAckTag _ _ | .smbAckHead _ | .smbRingStatus | .smbAssemblyTimeout _ | .commandStart _
    | .jobCompletion | .forwardTimeout _ | .clear _ _ | .rewind _ _ | .commit _ _ | .snapshot _ | .timeTbLoRead _
    | .ccTerminationLost _ _ _ | .currentAboveILim _ _ | .vbusOutsideWindow _ _ _ | .tokenAccrual | .pllUnlock | .vddHuskLoss
    | .overtemperatureRelease | .deviceConnect _ _ => true
  | .moistureCheckDone _ r0 r1 r2 r3 _ => moistOk [r0, r1, r2, r3]
  | .liveSbuCheck _ r2 r3 | .liveSbuConfirm _ ⟨r2, r3⟩ _ => moistOk [r2, r3]
  | .pdRequestReceived _ f _ | .eprModeReceived _ f _ | .eprKeepaliveReceived _ f | .sourceCapabilitiesReceived _ f _
    | .cableIdentityResponse _ f _ | .vconnSwapReceived _ f | .softResetReceived _ f | .pdCrcError _ f | .malformedMessage _ f
    | .unexpectedMessage _ f | .unsupportedMessageReceived _ f | .acceptReceived _ f | .rejectReceived _ f | .waitReceived _ f
    | .pingReceived _ f | .psRdyReceived _ f | .getSourceCapReceived _ f | .getSinkCapReceived _ f | .drSwapReceived _ f
    | .prSwapReceived _ f | .notSupportedReceived _ f | .getSourceCapExtendedReceived _ f | .getStatusReceived _ f
    | .getPpsStatusReceived _ f | .getSinkCapExtendedReceived _ f | .getSourceInfoReceived _ f | .getRevisionReceived _ f
    | .getManufacturerInfoReceived _ f | .bistReceived _ f _ | .sinkCapabilitiesReceived _ f | .alertReceived _ f
    | .replyMessageReceived _ ⟨f, _⟩ | .eprGetSourceCapReceived _ f | .securityRequestReceived _ f _
    | .securityResponseReceived _ f _ | .vdmDiscoverIdentityReceived _ f | .vdmDiscoverSvidsReceived _ f
    | .vdmDiscoverModesReceived _ f _ | .vdmEnterModeReceived _ f _ _ | .vdmExitModeReceived _ f | .vdmAttentionReceived _ f
    | .vdmSvidCommandReceived _ f | .vdmResponseReceived _ f _ => frameOk f
  | .thermalModelUpdate _ uv vbus vsrc ⟨_, vin⟩ => senseOk uv vbus vsrc && vinOk vin
  | .vinWarningAssert vin | .vinFailAssert vin | .vinWarningClear vin => vinOk vin
  | .hostOutData _ _ _ bytes _ | .ttStartSplit _ _ _ _ _ ⟨bytes, _, _⟩ => payloadOk bytes
  | .csbNull _ hd | .csbPoll _ hd | .csbHello _ hd _ | .csbAssign _ hd _ | .csbLink _ hd _ | .csbSync _ hd _
    | .csbDelayReq _ hd | .csbDelayResp _ hd _ | .csbDemand _ hd _ | .csbGrantAck _ hd _ | .csbJournalAck _ hd _
    | .csbFwOffer _ hd _ | .csbFwStatus _ hd _ | .csbFwActivate _ hd => hdrOk hd
  | .csbGrant _ hd w => hdrOk hd && powerOk w
  | .csbMbx _ hd bytes => hdrOk hd && msgOk bytes
  | .csbJournal _ hd _ recs => hdrOk hd && recsOk recs
  | .csbFwBlock _ hd _ _ data => hdrOk hd && blockDataOk data
  | .holdupMeasurement pinMv => holdupOk pinMv
  | .rdIdx _ idx _ => recordOk idx
  | .clockMeasurement frcKhz lrcHz => clocksOk frcKhz lrcHz
  | .mfCommand _ bytes => packetOk bytes
  | .smbBlockWrite _ bytes _ => blockOk bytes
  | .infoGetVersion _ _ arg | .infoGetCaps _ _ arg | .infoRespAck _ _ arg | .infoRingStat _ _ arg | .infoEcho _ _ arg
    | .infoJobStat _ _ arg | .regRead _ _ arg | .regWrite _ _ arg | .regWriteMasked _ _ arg | .regReadMulti _ _ arg
    | .mbxCommit _ _ arg | .mbxCommitStat _ _ arg | .snapshotTake _ _ arg | .snapshotRead _ _ arg | .portStatus _ _ arg
    | .portOutletStatus _ _ arg | .portEnable _ _ arg | .portDetach _ _ arg | .portLockoutClear _ _ arg
    | .portLatchClear _ _ arg | .portRetryClear _ _ arg | .portRebase _ _ arg | .portOutletSet _ _ arg
    | .portUpstreamSwitch _ _ arg | .pdAction _ _ arg | .pdCaptureCtrl _ _ arg | .pdCaptureRead _ _ arg
    | .budgetStatus _ _ arg | .budgetSet _ _ arg | .budgetSetClass _ _ arg | .schedQueueStat _ _ arg | .schedShape _ _ arg
    | .schedPolice _ _ arg | .schedPolicerStat _ _ arg | .schedMapWrite _ _ arg | .schedMapRead _ _ arg
    | .schedMapFlip _ _ arg | .gateLoad _ _ arg | .gateApply _ _ arg | .gateCancel _ _ arg | .gateStatus _ _ arg
    | .secAttest _ _ arg | .secPolicyLoad _ _ arg | .secPolicyApply _ _ arg | .secFwlRelease _ _ arg | .secReauth _ _ arg
    | .secRootSet _ _ arg | .secKeyGenerate _ _ arg | .secKeyImport _ _ arg | .secKeyErase _ _ arg | .secCertStore _ _ arg
    | .secVerRaise _ _ arg | .secDebugOpen _ _ arg | .secUtcSet _ _ arg | .domRequest _ _ arg | .domPlanGo _ _ arg
    | .domStatus _ _ arg | .journalInfo _ _ arg | .journalRead _ _ arg _ | .journalSetMinSev _ _ arg | .fwStatus _ _ arg
    | .fwBegin _ _ arg | .fwWrite _ _ arg | .fwVerify _ _ arg | .fwActivate _ _ arg | .fwRestart _ _ arg
    | .cascadeStatus _ _ arg | .cascadeWorkerStat _ _ arg | .cascadeForward _ _ arg | .cascadeSetLimits _ _ arg
    | .cascadeFwDistribute _ _ arg | .cascadeForget _ _ arg => argOk arg
  | .rcRead _ addr _ | .measRead _ addr _ | .registerWrite _ addr _ _ | .registerRead _ addr _ => addrOk addr

end Sys2Proof
end

