-- ==== Sys2Proof/Tests/Slice0.lean ====
section
/-! SUPPORT. The smoke test of the well-formedness checks, a few steps, and the witnesses that the statements' hypotheses can be
met. -/

set_option linter.unusedTactic false
set_option linter.unreachableTactic false
set_option linter.unnecessarySeqFocus false

namespace Sys2Proof.Machine

/-- The state after reset with the block changed. -/
def onReset (f : Hub → Hub) : State := { State.reset with hub := f State.reset.hub }

/-- The state after a command. -/
def after (c : Instr) (s : State) : State :=
  match exec c s with
  | .next t => t
  | _ => s

/-- A PD frame with this many words. -/
def frameOf (n : Nat) : PdFrame := { header := 0, words := List.replicate n 0 }

/-- A CSB header to this address. -/
def hdrTo (dst : Nat) : CsbHdr := { dst := dst, src := 0, turn := false, ackValid := false, seq := 0, ack := 0 }

/-! #### Well-formedness: one ill-formed command for each check -/

theorem test_wf_moist : (Instr.liveSbuCheck 0 65535 0).wf = true ∧ (Instr.liveSbuCheck 0 65536 0).wf = false := by decide
theorem test_wf_sense :
    (Instr.thermalModelUpdate 0 (-25000) 4095 0 ⟨25, 1023⟩).wf = true ∧ (Instr.thermalModelUpdate 0 100001 0 0 ⟨25, 1023⟩).wf = false := by decide
theorem test_wf_vin : (Instr.vinFailAssert 1023).wf = true ∧ (Instr.vinFailAssert 1024).wf = false := by decide
theorem test_wf_holdup : (Instr.holdupMeasurement 1800).wf = true ∧ (Instr.holdupMeasurement 1801).wf = false := by decide
theorem test_wf_clocks : (Instr.clockMeasurement 131071 65535).wf = true ∧ (Instr.clockMeasurement 131072 0).wf = false := by decide
theorem test_wf_payload :
    (Instr.hostOutData 3 9 1 1024 .good).wf = true ∧ (Instr.hostOutData 3 9 1 1025 .good).wf = false := by decide
theorem test_wf_frame : (Instr.pingReceived 0 (frameOf 7)).wf = true ∧ (Instr.pingReceived 0 (frameOf 8)).wf = false := by decide
theorem test_wf_hdr : (Instr.csbPoll 0 (hdrTo 63)).wf = true ∧ (Instr.csbPoll 0 (hdrTo 64)).wf = false := by decide
theorem test_wf_power : (Instr.csbGrant 0 (hdrTo 5) 65535).wf = true ∧ (Instr.csbGrant 0 (hdrTo 5) 65536).wf = false := by decide
theorem test_wf_recs : (Instr.csbJournal 0 (hdrTo 0) 0 (List.replicate 9 {})).wf = false := by decide
set_option maxRecDepth 8000 in
theorem test_wf_lists :
    (Instr.csbMbx 0 (hdrTo 5) (List.replicate 257 0)).wf = false ∧ (Instr.csbFwBlock 0 (hdrTo 5) 0 0 (List.replicate 241 0)).wf = false ∧
    (Instr.infoEcho 0 7 (List.replicate 241 0)).wf = false ∧ (Instr.smbBlockWrite false [] true).wf = false ∧
    (Instr.smbBlockWrite false (List.replicate 256 0) true).wf = false ∧ (Instr.smbBlockWrite false [1] true).wf = true := by decide
theorem test_wf_packet : (Instr.mfCommand false (List.replicate 1025 0)).wf = false := by
  show decide ((List.replicate 1025 (0 : BitVec 8)).length ≤ 1024) = false
  rw [List.length_replicate]
  rfl
theorem test_wf_record : (Instr.rdIdx 1 16383 .clean).wf = true ∧ (Instr.rdIdx 1 16384 .clean).wf = false := by decide
theorem test_wf_addr : (Instr.registerRead 1 0xFFFFFF { size := 2 }).wf = true ∧ (Instr.registerRead 1 0x1000000 { size := 2 }).wf = false := by decide

/-! #### Steps; the expected values are the rules' own -/

/-- No row of the table has bits. -/
theorem test_no_words : decodeTableWord 16 0x0100 = none := rfl

/-- R415: a misaligned read gives zero and sets ACC_FAULT. -/
theorem test_misaligned_read :
    (after (.registerRead 1 0x2 { size := 2 }) State.reset).hub.out = [.read 0] ∧
    ((after (.registerRead 1 0x2 { size := 2 }) State.reset).hub.evtWord 0x60).getLsbD 1 = true := by decide

/-- R399, R403: the set alias writes the shadow; the active copy follows at the commit of the group. -/
theorem test_commit_moves_shadow :
    let s := after (.registerWrite 1 0x220044 2 0x800000) State.reset
    (s.hub.act 0x20044).getLsbD 23 = false ∧ (s.hub.shd 0x20044).getLsbD 23 = true ∧
    ((after (.commit 1 0xFFFF) s).hub.act 0x20044).getLsbD 23 = true := by decide

/-- R406: a read clears the event bits it returns. -/
theorem test_read_clears :
    let s := after (.rcRead 1 0x60 { size := 2 }) (onReset fun h => h.globEvt 1)
    s.hub.out = [.read 2] ∧ s.hub.evtWord 0x60 = 0 := by decide

/-- R407: TIME_TB_LO gives the low word and latches the high one. -/
theorem test_time_latch :
    let s := after (.timeTbLoRead 1) (onReset fun h => { h with tb := 0x500000009 })
    s.hub.out = [.read 9] ∧ s.hub.timing.hiLatch = 5 := by decide

/-- R296, R417: only master 0, which runs a verified image, writes SEC_UTC_BASE_HI. -/
theorem test_utc_guarded :
    let run := onReset fun h => h.modSec fun c => { c with boot := .done }
    (after (.utcBaseHiWrite 1 5) run).hub.sec.utcValid = false ∧ (after (.utcBaseHiWrite 0 5) State.reset).hub.sec.utcValid = false ∧
    (after (.utcBaseHiWrite 0 5) run).hub.sec.utcValid = true := by decide

/-- R463: RST_N low holds the device, and Umuri stops. -/
theorem test_reset_holds :
    let s := after .rstNFall (onReset fun h => h.modMbx fun x => { x with umuriUp := true })
    s.hub.held = { rstLow := true } ∧ s.hub.mbx.umuriUp = false ∧ s.hub.tc 3 = { state := .disabled } := ⟨rfl, rfl, rfl⟩

/-- R127: the fast trip in VB.RAMP has code 1 and turns both gates off. -/
theorem test_fast_trip :
    let s := after (.fastTrip 17) (onReset fun h => h.modVb 17 fun e => { e with state := .ramp, gpre := true, gmain := true })
    (s.hub.vb 17).state = .tripped ∧ (s.hub.vb 17).lastTrip = 1 ∧ (s.hub.vb 17).gmain = false := by decide

/-- R163: 5.00 V and 3.00 A as the regulators take them. -/
theorem test_linear : uLinear16 0x17 500 = 2560 ∧ linear11 300 = 24 * 2048 + 768 := by decide

/-- With no command waiting, one tick. -/
theorem test_tick : (match step State.reset with | .next t => t.hub.clk | _ => 0) = 1 := by decide

/-- A command at the front runs and leaves the queue. -/
theorem test_front :
    (match step { State.reset with pending := [.snapshot 1, .snapshot 2] } with | .next t => (t.pending, t.hub.glob.snapSeq) | _ => ([], 0))
      = ([.snapshot 2], 1) := by decide

/-- Umuri serves, every class is permitted on the MF, nothing waits. -/
def serving : State := onReset fun h => (h.modMbx fun x => { x with umuriUp := true }).setAct 0x7C004 0xFFF

theorem startsOn_serving {op : Nat} (hc : (cmdClass op []).any (fun c => (serving.hub.classes 0).testBit c) = true)
    (hj : serving.hub.freeJob.isSome = true) : serving.startsOn 0 op 7 [] := by
  refine ⟨⟨rfl, rfl⟩, by decide, rfl, rfl, rfl, rfl, by decide, rfl, rfl, fun _ => hj, ?_, by decide⟩
  obtain ⟨c, h⟩ := Option.any_eq_true _ _ |>.mp hc
  exact ⟨c, h⟩

/-- R362, R387: ECHO returns its payload in the response slot. -/
theorem test_echo :
    ((after (.infoEcho 0 7 [1, 2, 3]) serving).hub.ring 0).resps.map (fun x => x.tag) = [7] ∧
    ((after (.infoEcho 0 7 [1, 2, 3]) serving).hub.ring 0).resps.map (fun x => x.payload.drop 4) = [[1, 2, 3]] := by decide

/-! #### Witnesses: the hypotheses of each clause of each statement, met together -/

theorem test_witness_UpstreamEvents :
    (∃ (s : State) (u : UpIx), s.works (podDom (upPod u)) ∧ s.hub.upsel.active = some u ∧ s.hub.upsel.lostAt = none) ∧
    (∃ (s : State) (u : UpIx) (sp : Speed), s.works (podDom (upPod u)) ∧ s.hub.upsel.active = some u ∧ s.hub.upsel.lostAt ≠ none ∧
      s.hub.upUfp u = true ∧ speedOk (upPod u) sp = true ∧ s.hub.upsel.timing = true) ∧
    (∃ (s : State) (u : UpIx), s.works (podDom (upPod u)) ∧ s.hub.upsel.active = some u ∧ s.hub.upsel.seq = none) ∧
    (∃ (s : State) (u : UpIx), s.hub.held = .none ∧ s.hub.upsel.active = some u ∧ s.hub.upsel.timing = true ∧
      s.hub.upReady (upOther u) = true ∧ s.hub.failEn = true ∧ s.hub.upsel.detached = true) ∧
    (∃ (s : State) (u : UpIx), s.hub.held = .none ∧ s.hub.upsel.active = some u ∧ s.hub.upsel.timing = true ∧
      s.hub.upReady (upOther u) = false ∧ s.hub.failEn = false ∧ s.hub.upsel.detached = false) ∧
    (∃ (s : State) (u : UpIx) (m : Master), s.takes m 0x107C4 false ∧ (s.hub.quiet.written 0x107C4).upsel.active = some u ∧
      (s.hub.quiet.written 0x107C4).upSwitchOk = true) ∧
    (∃ (s : State) (q : _), s.hub.held = .none ∧ s.hub.upsel.seq = some q ∧ s.hub.upStillReady q.new = true ∧ q.failover = true) :=
  ⟨⟨onReset fun h => (h.modUpsel fun u => { u with active := some 0 }), 0, by (repeat' apply And.intro) <;> first | rfl | decide⟩,
   ⟨onReset fun h => (h.modUpsel fun u => { u with active := some 0, lostAt := some 5, timing := true }).modTc 0 fun t => { t with state := .attachedSnk }, 0, .high,
       by (repeat' apply And.intro) <;> first | rfl | decide⟩,
   ⟨onReset fun h => (h.modUpsel fun u => { u with active := some 0 }), 0, by (repeat' apply And.intro) <;> first | rfl | decide⟩,
   ⟨onReset fun h => ((h.modUpsel fun u => { u with active := some 0, timing := true, detached := true }).modTc 1 fun t => { t with state := .attachedSnk }).setAct 0x107C0 3, 0,
       by (repeat' apply And.intro) <;> first | rfl | decide⟩,
   ⟨onReset fun h => (h.modUpsel fun u => { u with active := some 0, timing := true }).setAct 0x107C0 0, 0,
       by (repeat' apply And.intro) <;> first | rfl | decide⟩,
   ⟨onReset fun h => (h.modUpsel fun u => { u with active := some 0 }).modTc 1 fun t => { t with state := .attachedSnk }, 0, 1,
       by (repeat' apply And.intro) <;> first | with_reducible exact Hub.accHeld_none (by decide) _ _ _ | rfl | decide⟩,
   ⟨onReset fun h => (h.modUpsel fun u => { u with seq := some { old := none, new := 1, cause := 0, failover := true, lossUs := 0, discard := 0 } }).modTc 1 fun t => { t with state := .attachedSnk }, _,
       by (repeat' apply And.intro) <;> first | rfl | decide⟩⟩

theorem test_witness_ConnectionTimersAndCommands :
    (∃ (s : State) (p : PodIx), s.works (podDom p)) ∧
    (∃ (s : State) (p : PodIx), s.works (podDom p) ∧ (s.hub.tc p).drp = true ∧ (s.hub.tc p).state = .unattachedSrc) ∧
    (∃ (s : State) (p : PodIx), s.works (podDom p) ∧ (s.hub.tc p).drp = true ∧ (s.hub.tc p).state = .unattachedSnk) ∧
    (∃ (s : State) (p : PodIx), s.works (podDom p) ∧ (s.hub.tc p).state = .trySrc) ∧
    (∃ (s : State) (p : PodIx), s.works (podDom p) ∧ (s.hub.tc p).state = .tryWaitSnk) ∧
    (∃ (s : State) (p : PodIx), s.works (podDom p) ∧ (s.hub.tc p).state = .errorRecovery) ∧
    (∃ (s : State) (p : PodIx), s.works (podDom p) ∧ (s.hub.tc p).state = .lockout) ∧
    (∃ (s : State) (p : PodIx), s.works (podDom p) ∧ (s.hub.tc p).state = .wet ∧ (s.hub.tc p).checking = false ∧ s.hub.moistEn p = true) ∧
    (∃ (s : State) (p : PodIx), s.works (podDom p) ∧ (s.hub.tc p).state = .attachWaitSrc ∧ (s.hub.tc p).debounced = true ∧
      (s.hub.tc p).vbusCounted = false) ∧
    (∃ (s : State) (m : Master) (p : PodIx), s.takes m (podBase p) false ∧ (s.hub.tc p).state = .lockout) ∧
    (∃ (s : State) (m : Master) (p : PodIx), s.takes m (podBase p) false ∧ (s.hub.tc p).ccOpen = false ∧ (s.hub.tc p).attached = false) ∧
    (∃ (s : State) (m : Master) (p : PodIx), s.takes m (podBase p + 0x10) false) :=
  ⟨⟨State.reset, 3, by (repeat' apply And.intro) <;> first | rfl | decide⟩,
   ⟨onReset fun h => h.modTc 3 fun t => { t with state := .unattachedSrc, role := 0 }, 3,
       by (repeat' apply And.intro) <;> first | rfl | decide⟩,
   ⟨onReset fun h => h.modTc 3 fun t => { t with state := .unattachedSnk, role := 3 }, 3,
       by (repeat' apply And.intro) <;> first | rfl | decide⟩,
   ⟨onReset fun h => h.modTc 3 fun t => { t with state := .trySrc }, 3, by (repeat' apply And.intro) <;> first | rfl | decide⟩,
   ⟨onReset fun h => h.modTc 3 fun t => { t with state := .tryWaitSnk }, 3, by (repeat' apply And.intro) <;> first | rfl | decide⟩,
   ⟨onReset fun h => h.modTc 3 fun t => { t with state := .errorRecovery }, 3, by (repeat' apply And.intro) <;> first | rfl | decide⟩,
   ⟨onReset fun h => h.modTc 3 fun t => { t with state := .lockout }, 3, by (repeat' apply And.intro) <;> first | rfl | decide⟩,
   ⟨onReset fun h => h.modTc 3 fun t => { t with state := .wet, checking := false }, 3,
       by (repeat' apply And.intro) <;> first | rfl | decide⟩,
   ⟨onReset fun h => h.modTc 3 fun t => { t with state := .attachWaitSrc, debounced := true }, 3,
       by (repeat' apply And.intro) <;> first | rfl | decide⟩,
   ⟨onReset fun h => h.modTc 3 fun t => { t with state := .lockout }, 1, 3,
       by (repeat' apply And.intro) <;> first | with_reducible exact Hub.accHeld_none (by decide) _ _ _ | rfl | decide⟩,
   ⟨State.reset, 1, 3, by (repeat' apply And.intro) <;> first | with_reducible exact Hub.accHeld_none (by decide) _ _ _ | rfl | decide⟩,
   ⟨State.reset, 1, 3, by (repeat' apply And.intro) <;> first | with_reducible exact Hub.accHeld_none (by decide) _ _ _ | rfl | decide⟩⟩

theorem test_witness_AttachEvents :
    (∃ (s : State) (p : PodIx) (c1 : Term) (c2 : Term), s.works (podDom p) ∧ (s.hub.tc p).state = .unattachedSrc ∧
      s.hub.domOn (podDom p) = true ∧ accessoryPair true c1 c2 = false ∧ wanted true c1 c2 = true) ∧
    (∃ (s : State) (p : PodIx), s.works (podDom p) ∧ (s.hub.tc p).ccOpen = false ∧ s.hub.domOn (podDom p) = true ∧
      (s.hub.tc p).unattached = true) ∧
    (∃ (s : State) (p : PodIx) (c1 : Term) (c2 : Term), s.works (podDom p) ∧ (s.hub.tc p).state = .attachedSrc ∧
      s.hub.domOn (podDom p) = true ∧ (s.hub.tc p).rdStays c1 c2 = false) ∧
    (∃ (s : State) (p : PodIx), s.works (podDom p) ∧ (s.hub.tc p).state = .attachedSnk ∧ s.hub.domOn (podDom p) = true) ∧
    (∃ (s : State) (p : PodIx), s.works (podDom p) ∧ (((s.hub.tc p).state = .attachWaitSrc ∨ (s.hub.tc p).state = .attachWaitSnk)) ∧
      (s.hub.tc p).lost = false ∧ (s.hub.tc p).checking = false ∧ (s.hub.tc p).debounced = false ∧
      wanted (s.hub.tc p).actsSrc (s.hub.tc p).cc1 (s.hub.tc p).cc2 = true) ∧
    (∃ (s : State) (p : PodIx), s.works (podDom p) ∧ (s.hub.tc p).checking = true) ∧
    (∃ (s : State) (p : PodIx), s.works (podDom p) ∧ (s.hub.tc p).srcAttached = true ∧ (s.hub.tc p).lost = true) ∧
    (∃ (s : State) (p : PodIx), s.works (podDom p) ∧ (((s.hub.tc p).state = .attachWaitSrc ∨ (s.hub.tc p).state = .attachWaitSnk)) ∧
      (s.hub.tc p).lost = true ∧ (s.hub.tc p).cc1 ≠ .open) ∧
    (∃ (s : State) (p : PodIx), s.works (podDom p) ∧ (s.hub.tc p).state = .attachWaitSnk ∧ (s.hub.tc p).debounced = true ∧
      (s.hub.tc p).lost = false ∧ wanted false (s.hub.tc p).cc1 (s.hub.tc p).cc2 = true) ∧
    (∃ (s : State) (p : PodIx) (mv : Nat), s.works (podDom p) ∧ (s.hub.tc p).state = .attachedSnk ∧ s.hub.pdHardResetRecovery p = false ∧
      mv < (s.hub.pde p).sinkThreshold) ∧
    (∃ (s : State) (p : PodIx), s.works (podDom p) ∧ (s.hub.tc p).attached = true ∧ s.hub.sbuLive p = true ∧ (s.hub.tc p).sbuCsb = false) ∧
    (∃ (s : State) (p : PodIx), s.works (podDom p) ∧ (s.hub.tc p).attached = true ∧ s.hub.sbuLive p = true ∧ (s.hub.tc p).sbuCsb = false ∧
      (s.hub.tc p).liveWet = true) ∧
    (∃ (s : State) (p : PodIx), s.works (podDom p) ∧ (s.hub.tc p).vconnOn = true) ∧
    (∃ (s : State) (p : PodIx), s.works (podDom p)) ∧
    (∃ (s : State) (p : PodIx), s.works (podDom p) ∧ (s.hub.tc p).attached = true) ∧
    (∃ (s : State) (p : PodIx), s.works (podDom p) ∧ (s.hub.tc p).attached = true ∧ (s.hub.tc p).vconnOn = true) ∧
    (∃ (s : State) (p : PodIx), s.works (podDom p) ∧ (s.hub.tc p).attached = true ∧ (s.hub.tc p).sbuCsb = true) :=
  ⟨⟨onReset fun h => h.modTc 3 fun t => { t with state := .unattachedSrc }, 3, .rd, .open,
      by (repeat' apply And.intro) <;> first | rfl | decide⟩,
   ⟨onReset fun h => h.modTc 3 fun t => { t with state := .unattachedSrc }, 3, by (repeat' apply And.intro) <;> first | rfl | decide⟩,
   ⟨onReset fun h => h.modTc 3 fun t => { t with state := .attachedSrc, cc1 := .rd }, 3, .open, .open,
       by (repeat' apply And.intro) <;> first | rfl | decide⟩,
   ⟨onReset fun h => h.modTc 3 fun t => { t with state := .attachedSnk }, 3, by (repeat' apply And.intro) <;> first | rfl | decide⟩,
   ⟨onReset fun h => h.modTc 3 fun t => { t with state := .attachWaitSrc, cc1 := .rd }, 3,
       by exact ⟨⟨rfl, rfl⟩, Or.inl rfl, rfl, rfl, rfl, rfl⟩⟩,
   ⟨onReset fun h => h.modTc 3 fun t => { t with checking := true }, 3, by (repeat' apply And.intro) <;> first | rfl | decide⟩,
   ⟨onReset fun h => h.modTc 3 fun t => { t with state := .attachedSrc, lost := true, cc1 := .rd }, 3,
       by (repeat' apply And.intro) <;> first | rfl | decide⟩,
   ⟨onReset fun h => h.modTc 3 fun t => { t with state := .attachWaitSrc, lost := true, cc1 := .rd }, 3, by exact ⟨⟨rfl, rfl⟩, Or.inl rfl, rfl,
       by decide⟩⟩,
   ⟨onReset fun h => h.modTc 3 fun t => { t with state := .attachWaitSnk, debounced := true, cc1 := .rp 0 }, 3,
       by (repeat' apply And.intro) <;> first | rfl | decide⟩,
   ⟨onReset fun h => h.modTc 3 fun t => { t with state := .attachedSnk }, 3, 3000, by (repeat' apply And.intro) <;> first | rfl | decide⟩,
   ⟨onReset fun h => (h.modTc 3 fun t => { t with state := .attachedSrc }).setAct 0x13010 0x20000000, 3,
       by (repeat' apply And.intro) <;> first | rfl | decide⟩,
   ⟨onReset fun h => (h.modTc 3 fun t => { t with state := .attachedSrc, liveWet := true }).setAct 0x13010 0x20000000, 3,
       by (repeat' apply And.intro) <;> first | rfl | decide⟩,
   ⟨onReset fun h => h.modTc 3 fun t => { t with vconnOn := true }, 3, by (repeat' apply And.intro) <;> first | rfl | decide⟩,
   ⟨State.reset, 3, by (repeat' apply And.intro) <;> first | rfl | decide⟩,
   ⟨onReset fun h => h.modTc 3 fun t => { t with state := .attachedSrc }, 3, by (repeat' apply And.intro) <;> first | rfl | decide⟩,
   ⟨onReset fun h => h.modTc 3 fun t => { t with state := .attachedSrc, vconnOn := true }, 3,
       by (repeat' apply And.intro) <;> first | rfl | decide⟩,
   ⟨onReset fun h => h.modTc 3 fun t => { t with state := .attachedSrc, sbuCsb := true }, 3,
       by (repeat' apply And.intro) <;> first | rfl | decide⟩⟩

theorem test_witness_HoldAndSense :
    (∃ (s : State) (p : PodIx), s.works (podDom p) ∧ isD p = true ∧ (s.hub.link p).speed ≠ .none ∧ (s.hub.tc p).state = .attachedSrc ∧
      s.hub.bhWin p ≠ 0 ∧ (s.hub.tc p).hold = none ∧ (s.hub.tc p).bhAvail = true ∧ (s.hub.tc p).lost = false ∧
      s.hub.vbOn (podPath p) = true ∧ (s.hub.link p).losable = true) ∧
    (∃ (s : State) (p : PodIx), s.works (podDom p) ∧ isD p = true ∧ (s.hub.link p).speed ≠ .none ∧ (s.hub.tc p).state ≠ .attachedSrc ∧
      (s.hub.tc p).hold = none ∧ (((s.hub.link p).speed.ss = true → (s.hub.link p).ltssm ≠ .ssDisabled))) ∧
    (∃ (s : State) (p : PodIx) (hd : Hold), s.works (podDom p) ∧ (s.hub.tc p).hold = some hd) ∧
    (∃ (s : State) (p : PodIx) (sp : Speed) (hd : Hold), s.works (podDom p) ∧ (s.hub.tc p).hold = some hd ∧ sp ≠ hd.speed ∧
      speedOk p sp = true) ∧
    (∃ (s : State) (p : PodIx), s.works (podDom p)) ∧
    (∃ (s : State) (x : PathIx), s.works (pathDom x) ∧ (s.hub.vb x).state = .off ∧ pathPod x = none) ∧
    (∃ (s : State) (p : PodIx) (c1 : Term), s.hub.held = .none ∧ (s.hub.dom (podDom p)).state = .ret ∧ s.hub.stbySense p = true ∧
      s.hub.tcRole p = 1 ∧ c1 = .rd) :=
  ⟨⟨onReset fun h => ((h.modTc 3 fun t => { t with state := .attachedSrc, bhAvail := true }).modLink 3 fun l => { l with speed := .high, u2 := .enabled }).modVb (podPath 3) fun e => { e with state := .on }, 3,
      by (repeat' apply And.intro) <;> first | rfl | decide⟩,
   ⟨onReset fun h => h.modLink 3 fun l => { l with speed := .high }, 3, by (repeat' apply And.intro) <;> first | rfl | decide⟩,
   ⟨onReset fun h => h.modTc 3 fun t => { t with state := .bounceHold, hold := some { lossTb := 0, since := 0, speed := .high } }, 3, _,
       by (repeat' apply And.intro) <;> first | rfl | decide⟩,
   ⟨onReset fun h => h.modTc 3 fun t => { t with state := .bounceHold, hold := some { lossTb := 0, since := 0, speed := .high } }, 3, .full, _,
       by (repeat' apply And.intro) <;> first | rfl | decide⟩,
   ⟨State.reset, 3, by (repeat' apply And.intro) <;> first | rfl | decide⟩,
   ⟨State.reset, 17, by (repeat' apply And.intro) <;> first | rfl | decide⟩,
   ⟨onReset fun h => (h.modDom (podDom 3) fun d => { d with state := .ret }).setAct 0x13000 (h.act 0x13000 ||| 0x10), 3, .rd,
       by (repeat' apply And.intro) <;> first | rfl | decide⟩⟩

theorem test_witness_OffersAndContracts :
    (∃ (h : Hub) (p : PodIx) (v : Nat) (i : Nat), .fixed v i ∈ h.pdList p) ∧
    (∃ (h : Hub) (p : PodIx) (v : Nat) (i : Nat), .fixed v i ∈ h.pdList p ∧ v ≠ 500) ∧
    (∃ (h : Hub) (p : PodIx) (v : Nat) (i : Nat), .pps v i ∈ h.pdList p) ∧
    (∃ (offers : List PdObject) (r : PdRdo) (k : Contract) (c : Nat), requestOf offers r = (some k, c)) ∧
    (∃ (offers : List PdObject) (r : PdRdo) (k : Contract) (c : Nat) (v : _) (i : _), requestOf offers r = (some k, c) ∧
      offers.getD (r.pos - 1) .none = .fixed v i) ∧
    (∃ (offers : List PdObject) (r : PdRdo) (k : Contract) (c : Nat) (v : _) (i : _), requestOf offers r = (some k, c) ∧
      offers.getD (r.pos - 1) .none = .pps v i) :=
  ⟨⟨(fun h : Hub => h) Hub.reset, 3, 500, 0, by (repeat' apply And.intro) <;> first | rfl | decide⟩,
   ⟨(fun h : Hub => ((h.modCons (podPath 3) fun q => { q with pOff := 240 }).modPde 3 fun t => { t with revKnown := true, rev3 := true }).setAct 0x13200 0xFFFFFFFF) Hub.reset, 3, 900, 300,
       by (repeat' apply And.intro) <;> first | rfl | decide⟩,
   ⟨(fun h : Hub => ((h.modCons (podPath 3) fun q => { q with pOff := 240 }).modPde 3 fun t => { t with revKnown := true, rev3 := true }).setAct 0x13200 0xFFFFFFFF) Hub.reset, 3, 1100, 300,
       by (repeat' apply And.intro) <;> first | rfl | decide⟩,
   ⟨[.fixed 500 300], { pos := 1, opI := 100, maxI := 200, ppsV := 0, mismatch := false, eprCap := false }, _, _,
       by (repeat' apply And.intro) <;> first | rfl | decide⟩,
   ⟨[.fixed 500 300], { pos := 1, opI := 100, maxI := 200, ppsV := 0, mismatch := false, eprCap := false }, _, _, _, _,
       by (repeat' apply And.intro) <;> first | rfl | decide⟩,
   ⟨[.pps 1100 300], { pos := 1, opI := 100, maxI := 200, ppsV := 500, mismatch := false, eprCap := false }, _, _, _, _,
       by (repeat' apply And.intro) <;> first | rfl | decide⟩⟩

theorem test_witness_PlainMessages :
    (∃ (s : State) (p : PodIx), s.hears p) ∧
    (∃ (s : State) (p : PodIx) (f : PdFrame), s.hears p ∧ ((s.hub.quiet.pdRx p f false).pde p).r3 = true) ∧
    (∃ (s : State) (p : PodIx) (f : PdFrame), s.hears p ∧ ((s.hub.quiet.pdRx p f false).pde p).r3 = false) ∧
    (∃ (s : State) (p : PodIx), s.hears p ∧ (s.hub.pde p).dfp = true) ∧
    (∃ (s : State) (p : PodIx), s.hears p ∧ (s.hub.pde p).dfp = false) ∧
    (∃ (s : State) (p : PodIx), s.hears p ∧ (s.hub.pde p).dfp = false ∧ s.hub.casEn p = true) :=
  ⟨⟨onReset fun h => (h.modTc 3 fun t => { t with state := .attachedSrc }).modPde 3 fun t => { t with state := .ready }, 3,
      by (repeat' apply And.intro) <;> first | rfl | decide⟩,
   ⟨onReset fun h => (h.modTc 3 fun t => { t with state := .attachedSrc }).modPde 3 fun t => { t with state := .ready, revKnown := true, rev3 := true }, 3, { header := 0, words := [] },
       by (repeat' apply And.intro) <;> first | rfl | decide⟩,
   ⟨onReset fun h => (h.modTc 3 fun t => { t with state := .attachedSrc }).modPde 3 fun t => { t with state := .ready, revKnown := true, rev3 := false }, 3, { header := 0, words := [] },
       by (repeat' apply And.intro) <;> first | rfl | decide⟩,
   ⟨onReset fun h => (h.modTc 3 fun t => { t with state := .attachedSrc }).modPde 3 fun t => { t with state := .ready, dfp := true }, 3,
       by (repeat' apply And.intro) <;> first | rfl | decide⟩,
   ⟨onReset fun h => (h.modTc 3 fun t => { t with state := .attachedSrc }).modPde 3 fun t => { t with state := .ready, dfp := false }, 3,
       by (repeat' apply And.intro) <;> first | rfl | decide⟩,
   ⟨onReset fun h => ((h.modTc 3 fun t => { t with state := .attachedSrc }).modPde 3 fun t => { t with state := .ready, dfp := false }).setAct 0x13200 (h.act 0x13200 ||| 0x80), 3,
       by (repeat' apply And.intro) <;> first | rfl | decide⟩⟩

theorem test_witness_PartnerQuestions :
    (∃ (s : State) (p : PodIx), s.hears p ∧ (s.hub.pde p).roleSrc = true) ∧
    (∃ (s : State) (p : PodIx) (f : PdFrame), s.hears p ∧ (s.hub.pde p).roleSrc = true ∧ ((s.hub.quiet.pdRx p f false).pde p).r3 = true) ∧
    (∃ (s : State) (p : PodIx), s.hears p ∧ (s.hub.pde p).roleSrc = false) ∧
    (∃ (s : State) (p : PodIx) (f : PdFrame), s.hears p ∧ (s.hub.pde p).contract.ctype = 2 ∧
      ((s.hub.quiet.pdRx p f false).pde p).r3 = true) ∧
    (∃ (s : State) (p : PodIx), s.hears p ∧ (s.hub.pde p).contract.ctype ≠ 2) ∧
    (∃ (s : State) (p : PodIx), s.hears p ∧ isD p = true) ∧
    (∃ (s : State) (p : PodIx) (f : PdFrame), s.hears p ∧ isD p = true ∧ ((s.hub.quiet.pdRx p f false).pde p).r3 = true) ∧
    (∃ (s : State) (p : PodIx), s.hears p ∧ isD p = false) ∧
    (∃ (s : State) (p : PodIx) (f : PdFrame), s.hears p ∧ isD p = false ∧ ((s.hub.quiet.pdRx p f false).pde p).r3 = true) ∧
    (∃ (s : State) (p : PodIx), s.hears p ∧ (s.hub.pde p).eprMode = true) ∧
    (∃ (s : State) (p : PodIx) (f : PdFrame), s.hears p ∧ (s.hub.pde p).eprMode = true ∧ isD p = true ∧
      ((s.hub.quiet.pdRx p f false).pde p).r3 = true) ∧
    (∃ (s : State) (p : PodIx) (f : PdFrame), s.hears p ∧ isD p = true ∧ ((s.hub.quiet.pdRx p f false).pde p).r3 = true ∧
      ((s.hub.quiet.pdRx p f false).pde p).sprAsked = true ∧ (s.hub.pde p).state = .ready) ∧
    (∃ (s : State) (p : PodIx) (f : PdFrame), s.hears p ∧ isD p = true ∧ ((s.hub.quiet.pdRx p f false).pde p).r3 = true ∧
      ((s.hub.quiet.pdRx p f false).pde p).sprAsked = false) ∧
    (∃ (s : State) (p : PodIx) (mode : BistMode), s.hears p ∧ mode ≠ .sharedTest ∧ s.hub.bistEn p = true ∧ (s.hub.pde p).roleSrc = false ∧
      (s.hub.pde p).contract.ctype = 0) ∧
    (∃ (s : State) (p : PodIx), s.hears p) :=
  ⟨⟨onReset fun h => (h.modTc 3 fun t => { t with state := .attachedSrc }).modPde 3 fun t => { t with state := .ready, roleSrc := true }, 3,
      by (repeat' apply And.intro) <;> first | rfl | decide⟩,
   ⟨onReset fun h => (h.modTc 3 fun t => { t with state := .attachedSrc }).modPde 3 fun t => { t with state := .ready, revKnown := true, rev3 := true, roleSrc := true }, 3, { header := 0, words := [] },
       by (repeat' apply And.intro) <;> first | rfl | decide⟩,
   ⟨onReset fun h => (h.modTc 3 fun t => { t with state := .attachedSrc }).modPde 3 fun t => { t with state := .ready, roleSrc := false }, 3,
       by (repeat' apply And.intro) <;> first | rfl | decide⟩,
   ⟨onReset fun h => (h.modTc 3 fun t => { t with state := .attachedSrc }).modPde 3 fun t => { t with state := .ready, revKnown := true, rev3 := true, contract := { ctype := 2 } }, 3, { header := 0, words := [] },
       by (repeat' apply And.intro) <;> first | rfl | decide⟩,
   ⟨onReset fun h => (h.modTc 3 fun t => { t with state := .attachedSrc }).modPde 3 fun t => { t with state := .ready }, 3,
       by (repeat' apply And.intro) <;> first | rfl | decide⟩,
   ⟨onReset fun h => (h.modTc 3 fun t => { t with state := .attachedSrc }).modPde 3 fun t => { t with state := .ready }, 3,
       by (repeat' apply And.intro) <;> first | rfl | decide⟩,
   ⟨onReset fun h => (h.modTc 3 fun t => { t with state := .attachedSrc }).modPde 3 fun t => { t with state := .ready, revKnown := true, rev3 := true }, 3, { header := 0, words := [] },
       by (repeat' apply And.intro) <;> first | rfl | decide⟩,
   ⟨onReset fun h => (h.modTc 0 fun t => { t with state := .attachedSnk }).modPde 0 fun t => { t with state := .ready, revKnown := true, rev3 := true }, 0,
       by (repeat' apply And.intro) <;> first | rfl | decide⟩,
   ⟨onReset fun h => (h.modTc 0 fun t => { t with state := .attachedSnk }).modPde 0 fun t => { t with state := .ready, revKnown := true, rev3 := true }, 0, { header := 0, words := [] },
       by (repeat' apply And.intro) <;> first | rfl | decide⟩,
   ⟨onReset fun h => (h.modTc 3 fun t => { t with state := .attachedSrc }).modPde 3 fun t => { t with state := .ready, eprMode := true }, 3,
       by (repeat' apply And.intro) <;> first | rfl | decide⟩,
   ⟨onReset fun h => (h.modTc 3 fun t => { t with state := .attachedSrc }).modPde 3 fun t => { t with state := .ready, revKnown := true, rev3 := true, eprMode := true }, 3, { header := 0, words := [] },
       by (repeat' apply And.intro) <;> first | rfl | decide⟩,
   ⟨onReset fun h => (h.modTc 3 fun t => { t with state := .attachedSrc }).modPde 3 fun t => { t with state := .ready, revKnown := true, rev3 := true, contract := { ctype := 1 }, eprAsked := true }, 3, { header := 0, words := [] },
       by (repeat' apply And.intro) <;> first | rfl | decide⟩,
   ⟨onReset fun h => (h.modTc 3 fun t => { t with state := .attachedSrc }).modPde 3 fun t => { t with state := .ready, revKnown := true, rev3 := true }, 3, { header := 0, words := [] },
       by (repeat' apply And.intro) <;> first | rfl | decide⟩,
   ⟨onReset fun h => ((h.modTc 3 fun t => { t with state := .attachedSrc }).modPde 3 fun t => { t with state := .ready }).setAct 0x13200 (h.act 0x13200 ||| 0x100), 3, .carrier,
       by (repeat' apply And.intro) <;> first | rfl | decide⟩,
   ⟨onReset fun h => (h.modTc 3 fun t => { t with state := .attachedSrc }).modPde 3 fun t => { t with state := .ready }, 3,
       by (repeat' apply And.intro) <;> first | rfl | decide⟩⟩

set_option maxRecDepth 20000 in
theorem test_witness_Negotiation :
    (∃ (s : State) (p : PodIx) (f : PdFrame) (r : PdRdo) (k : Contract) (c : Nat), s.hears p ∧ (s.hub.pde p).roleSrc = true ∧
      (s.hub.pde p).state = .negotiate ∧ requestOf (s.hub.pde p).offers r = (some k, c) ∧
      c ≤ ((s.hub.quiet.pdRx p f false).budIdle.cons (podPath p)).charge) ∧
    (∃ (s : State) (p : PodIx) (r : PdRdo) (c : Nat), s.hears p ∧ (s.hub.pde p).roleSrc = true ∧ (s.hub.pde p).state = .negotiate ∧
      requestOf (s.hub.pde p).offers r = (none, c)) ∧
    (∃ (s : State) (p : PodIx), s.hears p ∧ (s.hub.pde p).roleSrc = false) ∧
    (∃ (s : State) (p : PodIx), s.hears p ∧ (s.hub.pde p).roleSrc = true) ∧
    (∃ (s : State) (p : PodIx), s.hears p ∧ (s.hub.pde p).await = .accept ∧ s.hub.vbOn (podPath p) = false) ∧
    (∃ (s : State) (p : PodIx) (c : _), s.hears p ∧ (s.hub.pde p).await = .accept ∧ s.hub.vbOn (podPath p) = true ∧
      (s.hub.vb (podPath p)).sinkDir = true ∧ (s.hub.pde p).pending = some c) ∧
    (∃ (s : State) (p : PodIx), s.hears p ∧ (s.hub.pde p).await = .accept) ∧
    (∃ (s : State) (p : PodIx), s.hears p ∧ (s.hub.pde p).await = .vconnSwap ∧ (s.hub.pde p).waits < 3) ∧
    (∃ (s : State) (p : PodIx), s.hears p ∧ (s.hub.pde p).await = .vconnSwap ∧ 3 ≤ (s.hub.pde p).waits) ∧
    (∃ (s : State) (p : PodIx), s.hears p ∧ (s.hub.pde p).swap ≠ .awaitPsRdy ∧ (s.hub.pde p).roleSrc = false ∧
      (s.hub.pde p).state = .transition) ∧
    (∃ (s : State) (p : PodIx), s.hears p ∧ (s.hub.pde p).swap = .awaitPsRdy) ∧
    (∃ (s : State) (p : PodIx) (c : _), s.hears p ∧ (s.hub.pde p).pending = some c ∧ (s.hub.pde p).state = .transition ∧
      (s.hub.pde p).converterAsked = false ∧ (s.hub.pde p).roleSrc = true ∧ c.v = (s.hub.vb (podPath p)).vTgt ∧ c.ctype ≠ 2 ∧
      (s.hub.pde p).contract.ctype ≠ 2) ∧
    (∃ (s : State) (p : PodIx) (c : _), s.hears p ∧ (s.hub.pde p).pending = some c ∧ (s.hub.pde p).state = .transition ∧
      (s.hub.pde p).converterAsked = false ∧ (s.hub.pde p).roleSrc = true ∧ c.v ≠ (s.hub.vb (podPath p)).vTgt ∧ c.ctype ≠ 2) :=
  ⟨⟨onReset fun h => ((h.modTc 3 fun t => { t with state := .attachedSrc }).modPde 3 fun t => { t with state := .negotiate, roleSrc := true, offers := [.fixed 500 300] }).modCons (podPath 3) fun q => { q with charge := 40 }, 3, { header := 0, words := [] }, { pos := 1, opI := 100, maxI := 200, ppsV := 0, mismatch := false, eprCap := false }, _, _,
      by (repeat' apply And.intro) <;> first | rfl | decide⟩,
   ⟨onReset fun h => (h.modTc 3 fun t => { t with state := .attachedSrc }).modPde 3 fun t => { t with state := .negotiate, roleSrc := true, offers := [] }, 3, { pos := 1, opI := 100, maxI := 200, ppsV := 0, mismatch := false, eprCap := false }, _,
       by (repeat' apply And.intro) <;> first | rfl | decide⟩,
   ⟨onReset fun h => (h.modTc 3 fun t => { t with state := .attachedSrc }).modPde 3 fun t => { t with state := .ready }, 3,
       by (repeat' apply And.intro) <;> first | rfl | decide⟩,
   ⟨onReset fun h => (h.modTc 3 fun t => { t with state := .attachedSrc }).modPde 3 fun t => { t with state := .ready, roleSrc := true }, 3,
       by (repeat' apply And.intro) <;> first | rfl | decide⟩,
   ⟨onReset fun h => (h.modTc 3 fun t => { t with state := .attachedSrc }).modPde 3 fun t => { t with state := .ready, await := .accept }, 3,
       by (repeat' apply And.intro) <;> first | rfl | decide⟩,
   ⟨onReset fun h => ((h.modTc 3 fun t => { t with state := .attachedSrc }).modPde 3 fun t => { t with state := .ready, await := .accept, pending := some { v := 500 } }).modVb (podPath 3) fun e => { e with state := .on, sinkDir := true }, 3, _,
       by (repeat' apply And.intro) <;> first | rfl | decide⟩,
   ⟨onReset fun h => (h.modTc 3 fun t => { t with state := .attachedSrc }).modPde 3 fun t => { t with state := .ready, await := .accept }, 3,
       by (repeat' apply And.intro) <;> first | rfl | decide⟩,
   ⟨onReset fun h => (h.modTc 3 fun t => { t with state := .attachedSrc }).modPde 3 fun t => { t with state := .ready, await := .vconnSwap }, 3,
       by (repeat' apply And.intro) <;> first | rfl | decide⟩,
   ⟨onReset fun h => (h.modTc 3 fun t => { t with state := .attachedSrc }).modPde 3 fun t => { t with state := .ready, await := .vconnSwap, waits := 3 }, 3,
       by (repeat' apply And.intro) <;> first | rfl | decide⟩,
   ⟨onReset fun h => (h.modTc 3 fun t => { t with state := .attachedSrc }).modPde 3 fun t => { t with state := .transition }, 3,
       by (repeat' apply And.intro) <;> first | rfl | decide⟩,
   ⟨onReset fun h => (h.modTc 3 fun t => { t with state := .attachedSrc }).modPde 3 fun t => { t with state := .ready, swap := .awaitPsRdy }, 3,
       by (repeat' apply And.intro) <;> first | rfl | decide⟩,
   ⟨onReset fun h => (h.modTc 3 fun t => { t with state := .attachedSrc }).modPde 3 fun t => { t with state := .transition, roleSrc := true, pending := some { ctype := 1 } }, 3, _,
       by (repeat' apply And.intro) <;> first | rfl | decide⟩,
   ⟨onReset fun h => (h.modTc 3 fun t => { t with state := .attachedSrc }).modPde 3 fun t => { t with state := .transition, roleSrc := true, pending := some { v := 900, ctype := 1 } }, 3, _,
       by (repeat' apply And.intro) <;> first | rfl | decide⟩⟩

theorem test_witness_PdTimers :
    (∃ (s : State) (p : PodIx), s.works (podDom p) ∧ (s.hub.pde p).state = .transition ∧ (s.hub.pde p).converterAsked = true) ∧
    (∃ (s : State) (p : PodIx), s.works (podDom p) ∧ (s.hub.pde p).reoffer = true ∧ (s.hub.pde p).state = .ready ∧
      (s.hub.pde p).roleSrc = true) ∧
    (∃ (s : State) (p : PodIx), s.works (podDom p) ∧ (s.hub.pde p).sinkTxNg = true ∧ (s.hub.pde p).state = .ready ∧
      (s.hub.pde p).pendAlert = false ∧ (s.hub.pde p).pendCaps = true ∧ s.hub.authOpen p = false) ∧
    (∃ (s : State) (p : PodIx), s.works (podDom p) ∧ (s.hub.pde p).contract.ctype = 2 ∧ (s.hub.pde p).roleSrc = true) ∧
    (∃ (s : State) (p : PodIx), s.works (podDom p) ∧ (s.hub.pde p).eprMode = true) ∧
    (∃ (s : State) (p : PodIx), s.works (podDom p) ∧ (s.hub.pde p).swap = .awaitPsRdy) ∧
    (∃ (s : State) (p : PodIx), s.works (podDom p) ∧ (s.hub.pde p).await = .softReset) ∧
    (∃ (s : State) (p : PodIx), s.works (podDom p) ∧ (s.hub.pde p).await = .request ∧ (s.hub.pde p).contract.ctype ≠ 0) ∧
    (∃ (s : State) (p : PodIx), s.works (podDom p) ∧ (s.hub.pde p).state = .sendCaps ∧ (s.hub.pde p).madeExplicit = false ∧
      (s.hub.pde p).capsCount < 50) ∧
    (∃ (s : State) (p : PodIx), s.works (podDom p) ∧ (s.hub.pde p).state = .sendCaps ∧ (s.hub.pde p).madeExplicit = false ∧
      50 ≤ (s.hub.pde p).capsCount) ∧
    (∃ (s : State) (p : PodIx), s.works (podDom p) ∧ (s.hub.pde p).state = .hardReset) ∧
    (∃ (s : State) (p : PodIx), s.works (podDom p) ∧ (s.hub.pde p).roleSrc = true ∧ (s.hub.tc p).srcAttached = true ∧
      (s.hub.pde p).state = .hardResetRecover ∧ s.hub.quiet.consShed (podPath p) = false) ∧
    (∃ (s : State) (p : PodIx), s.works (podDom p) ∧ (s.hub.tc p).state = .attachedSnk ∧ (s.hub.pde p).state = .hardResetRecover) ∧
    (∃ (s : State) (p : PodIx), s.works (podDom p) ∧ (s.hub.pde p).contract.ctype ≠ 0) ∧
    (∃ (s : State) (p : PodIx), s.works (podDom p) ∧ (s.hub.pde p).state ≠ .disabled) ∧
    (∃ (s : State) (p : PodIx), s.works (podDom p) ∧ s.hub.pdActive p = true) ∧
    (∃ (s : State) (p : PodIx), s.works (podDom p) ∧ (s.hub.pde p).state ≠ .disabled ∧ (s.hub.tc p).attached = true) ∧
    (∃ (s : State) (p : PodIx) (u : _), s.works (podDom p) ∧ podUp p = some u ∧ (s.hub.pde p).await = .drSwap) ∧
    (∃ (s : State) (p : PodIx) (u : _), s.works (podDom p) ∧ podUp p = some u ∧ (s.hub.pde p).drWaiting = true ∧
      (s.hub.pde p).state = .ready ∧ (s.hub.pde p).roleSrc = true ∧ (s.hub.pde p).dfp = true ∧ (s.hub.pde p).contract.ctype ≠ 0 ∧
      s.hub.upsel.refused[u] = false) :=
  ⟨⟨onReset fun h => h.modPde 3 fun t => { t with state := .transition, converterAsked := true }, 3,
      by (repeat' apply And.intro) <;> first | rfl | decide⟩,
   ⟨onReset fun h => h.modPde 3 fun t => { t with state := .ready, reoffer := true, roleSrc := true }, 3,
       by (repeat' apply And.intro) <;> first | rfl | decide⟩,
   ⟨onReset fun h => h.modPde 3 fun t => { t with state := .ready, sinkTxNg := true, pendCaps := true }, 3,
       by (repeat' apply And.intro) <;> first | rfl | decide⟩,
   ⟨onReset fun h => h.modPde 3 fun t => { t with contract := { ctype := 2 }, roleSrc := true }, 3,
       by (repeat' apply And.intro) <;> first | rfl | decide⟩,
   ⟨onReset fun h => h.modPde 3 fun t => { t with eprMode := true }, 3, by (repeat' apply And.intro) <;> first | rfl | decide⟩,
   ⟨onReset fun h => h.modPde 3 fun t => { t with swap := .awaitPsRdy }, 3, by (repeat' apply And.intro) <;> first | rfl | decide⟩,
   ⟨onReset fun h => h.modPde 3 fun t => { t with await := .softReset }, 3, by (repeat' apply And.intro) <;> first | rfl | decide⟩,
   ⟨onReset fun h => h.modPde 3 fun t => { t with await := .request, contract := { ctype := 1 } }, 3,
       by (repeat' apply And.intro) <;> first | rfl | decide⟩,
   ⟨onReset fun h => h.modPde 3 fun t => { t with state := .sendCaps, capsCount := 49 }, 3,
       by (repeat' apply And.intro) <;> first | rfl | decide⟩,
   ⟨onReset fun h => h.modPde 3 fun t => { t with state := .sendCaps, capsCount := 50 }, 3,
       by (repeat' apply And.intro) <;> first | rfl | decide⟩,
   ⟨onReset fun h => h.modPde 3 fun t => { t with state := .hardReset }, 3, by (repeat' apply And.intro) <;> first | rfl | decide⟩,
   ⟨onReset fun h => (h.modTc 3 fun t => { t with state := .attachedSrc }).modPde 3 fun t => { t with state := .hardResetRecover, roleSrc := true }, 3,
       by (repeat' apply And.intro) <;> first | rfl | decide⟩,
   ⟨onReset fun h => (h.modTc 3 fun t => { t with state := .attachedSnk }).modPde 3 fun t => { t with state := .hardResetRecover }, 3,
       by (repeat' apply And.intro) <;> first | rfl | decide⟩,
   ⟨onReset fun h => h.modPde 3 fun t => { t with contract := { ctype := 1 } }, 3, by (repeat' apply And.intro) <;> first | rfl | decide⟩,
   ⟨onReset fun h => h.modPde 3 fun t => { t with state := .ready }, 3, by (repeat' apply And.intro) <;> first | rfl | decide⟩,
   ⟨onReset fun h => (h.modTc 3 fun t => { t with state := .attachedSrc }).modPde 3 fun t => { t with state := .ready }, 3,
       by (repeat' apply And.intro) <;> first | rfl | decide⟩,
   ⟨onReset fun h => (h.modTc 3 fun t => { t with state := .attachedSrc }).modPde 3 fun t => { t with state := .ready }, 3,
       by (repeat' apply And.intro) <;> first | rfl | decide⟩,
   ⟨onReset fun h => h.modPde 0 fun t => { t with await := .drSwap }, 0, _, by (repeat' apply And.intro) <;> first | rfl | decide⟩,
   ⟨onReset fun h => h.modPde 0 fun t => { t with drWaiting := true, state := .ready, roleSrc := true, dfp := true, contract := { ctype := 1 } }, 0, _,
       by (repeat' apply And.intro) <;> first | rfl | decide⟩⟩

theorem test_witness_CableVconnProbe :
    (∃ (s : State) (p : PodIx), s.works (podDom p) ∧ (s.hub.pde p).state ≠ .disabled ∧ (s.hub.pde p).roleSrc = true ∧
      (s.hub.pde p).discDone = false ∧ (s.hub.pde p).cable = .idle ∧ (s.hub.tc p).vconnOn = true) ∧
    (∃ (s : State) (p : PodIx), s.works (podDom p) ∧ (s.hub.pde p).state ≠ .disabled ∧ (s.hub.pde p).cable = .silent ∧
      (s.hub.pde p).attempts ≤ s.hub.cblRetry p ∧ (s.hub.pde p).roleSrc = true ∧ (s.hub.tc p).vconnOn = true) ∧
    (∃ (s : State) (p : PodIx), s.works (podDom p) ∧ (s.hub.pde p).state ≠ .disabled ∧ (s.hub.pde p).cable = .busy ∧
      (s.hub.tc p).vconnOn = true ∧ (s.hub.pde p).state = .cableDisc) ∧
    (∃ (s : State) (p : PodIx), s.works (podDom p) ∧ (s.hub.pde p).state ≠ .disabled ∧ (s.hub.pde p).cable = .asked ∧
      (s.hub.pde p).state = .cableDisc ∧ (s.hub.pde p).discDone = false) ∧
    (∃ (s : State) (p : PodIx), s.works (podDom p) ∧ (s.hub.pde p).state ≠ .disabled ∧ (s.hub.pde p).cable = .asked ∧
      (s.hub.pde p).discDone = false) ∧
    (∃ (s : State) (p : PodIx), s.works (podDom p) ∧ (s.hub.pde p).state ≠ .disabled ∧ (s.hub.pde p).cable = .asked) ∧
    (∃ (s : State) (p : PodIx), s.works (podDom p) ∧ (s.hub.pde p).state ≠ .disabled ∧ s.hub.pdActive p = true ∧
      (s.hub.pde p).state = .ready ∧ s.hub.vconnSwapEn p = true ∧ (s.hub.tc p).vconnOc = false) ∧
    (∃ (s : State) (p : PodIx), s.works (podDom p) ∧ (s.hub.pde p).state ≠ .disabled ∧ s.hub.pdActive p = true ∧
      (s.hub.pde p).state = .ready ∧ s.hub.vconnSwapEn p = false) ∧
    (∃ (s : State) (p : PodIx), s.works (podDom p) ∧ (s.hub.pde p).state ≠ .disabled ∧ (s.hub.pde p).state = .ready ∧
      (s.hub.pde p).pendVconn = true ∧ (s.hub.pde p).roleSrc = false) ∧
    (∃ (s : State) (p : PodIx), s.works (podDom p) ∧ (s.hub.pde p).state ≠ .disabled ∧ (s.hub.pde p).vcWaiting = true) ∧
    (∃ (s : State) (p : PodIx), s.works (podDom p) ∧ (s.hub.pde p).state ≠ .disabled ∧ (s.hub.pde p).vconnRetry = true) ∧
    (∃ (s : State) (p : PodIx), s.works (podDom p) ∧ (s.hub.pde p).state ≠ .disabled ∧ (s.hub.pde p).state = .ready ∧
      (s.hub.pde p).roleSrc = false ∧ s.hub.vconnDue p = true) ∧
    (∃ (s : State) (p : PodIx), s.works (podDom p) ∧ (s.hub.pde p).state ≠ .disabled ∧ s.hub.pdActive p = true ∧ (s.hub.pde p).dfp = true) ∧
    (∃ (s : State) (p : PodIx) (f : PdFrame), s.works (podDom p) ∧ (s.hub.pde p).state ≠ .disabled ∧ s.hub.pdActive p = true ∧
      (s.hub.pde p).dfp = false ∧ s.hub.casEn p = true ∧ (s.hub.quiet.pdRx p f false).csbAccepts p = true) ∧
    (∃ (s : State) (p : PodIx), s.works (podDom p) ∧ (s.hub.pde p).state ≠ .disabled ∧ (s.hub.pde p).enterAcked = true) ∧
    (∃ (s : State) (p : PodIx), s.works (podDom p) ∧ (s.hub.pde p).state ≠ .disabled ∧ s.hub.pdActive p = true ∧
      (s.hub.pde p).state = .vdmDisc ∧ (s.hub.pde p).probe = .identity) ∧
    (∃ (s : State) (p : PodIx), s.works (podDom p) ∧ (s.hub.pde p).state ≠ .disabled ∧ s.hub.pdActive p = true ∧
      (s.hub.pde p).state = .vdmDisc ∧ (s.hub.pde p).probe = .enter) ∧
    (∃ (s : State) (p : PodIx), s.works (podDom p) ∧ (s.hub.pde p).state ≠ .disabled ∧ 0 < (s.hub.pde p).busy ∧
      (s.hub.pde p).probe = .svids ∧ (s.hub.pde p).state = .ready ∧ (s.hub.pde p).probeDue = false) ∧
    (∃ (s : State) (p : PodIx), s.works (podDom p) ∧ (s.hub.pde p).state ≠ .disabled ∧ (s.hub.pde p).probe = .svids ∧
      (s.hub.pde p).state = .vdmDisc) :=
  ⟨⟨onReset fun h => (h.modTc 3 fun t => { t with vconnOn := true }).modPde 3 fun t => { t with state := .cableDisc, roleSrc := true }, 3,
      by (repeat' apply And.intro) <;> first | rfl | decide⟩,
   ⟨onReset fun h => (h.modTc 3 fun t => { t with vconnOn := true }).modPde 3 fun t => { t with state := .cableDisc, cable := .silent, roleSrc := true }, 3,
       by (repeat' apply And.intro) <;> first | rfl | decide⟩,
   ⟨onReset fun h => (h.modTc 3 fun t => { t with vconnOn := true }).modPde 3 fun t => { t with state := .cableDisc, cable := .busy }, 3,
       by (repeat' apply And.intro) <;> first | rfl | decide⟩,
   ⟨onReset fun h => h.modPde 3 fun t => { t with state := .cableDisc, cable := .asked }, 3,
       by (repeat' apply And.intro) <;> first | rfl | decide⟩,
   ⟨onReset fun h => h.modPde 3 fun t => { t with state := .cableDisc, cable := .asked }, 3,
       by (repeat' apply And.intro) <;> first | rfl | decide⟩,
   ⟨onReset fun h => h.modPde 3 fun t => { t with state := .cableDisc, cable := .asked }, 3,
       by (repeat' apply And.intro) <;> first | rfl | decide⟩,
   ⟨onReset fun h => ((h.modTc 3 fun t => { t with state := .attachedSrc }).modPde 3 fun t => { t with state := .ready }).setAct 0x13200 (h.act 0x13200 ||| 0x10), 3,
       by (repeat' apply And.intro) <;> first | rfl | decide⟩,
   ⟨onReset fun h => ((h.modTc 3 fun t => { t with state := .attachedSrc }).modPde 3 fun t => { t with state := .ready }).setAct 0x13200 0, 3,
       by (repeat' apply And.intro) <;> first | rfl | decide⟩,
   ⟨onReset fun h => (h.modTc 3 fun t => { t with state := .attachedSrc }).modPde 3 fun t => { t with state := .ready, pendVconn := true }, 3,
       by (repeat' apply And.intro) <;> first | rfl | decide⟩,
   ⟨onReset fun h => (h.modTc 3 fun t => { t with state := .attachedSrc }).modPde 3 fun t => { t with state := .ready, await := .vconnSwap, vcWaiting := true }, 3,
       by (repeat' apply And.intro) <;> first | rfl | decide⟩,
   ⟨onReset fun h => (h.modTc 3 fun t => { t with state := .attachedSrc }).modPde 3 fun t => { t with state := .ready, vconnRetry := true }, 3,
       by (repeat' apply And.intro) <;> first | rfl | decide⟩,
   ⟨onReset fun h => (h.modTc 3 fun t => { t with state := .attachedSrc }).modPde 3 fun t => { t with state := .ready, cmdVconn := true }, 3,
       by (repeat' apply And.intro) <;> first | rfl | decide⟩,
   ⟨onReset fun h => (h.modTc 3 fun t => { t with state := .attachedSrc }).modPde 3 fun t => { t with state := .ready, dfp := true }, 3,
       by (repeat' apply And.intro) <;> first | rfl | decide⟩,
   ⟨onReset fun h => ((h.modTc 0 fun t => { t with state := .attachedSnk }).modPde 0 fun t => { t with state := .ready }).setAct 0x10200 (h.act 0x10200 ||| 0x80), 0, { header := 0, words := [] },
       by (repeat' apply And.intro) <;> first | rfl | decide⟩,
   ⟨onReset fun h => (h.modTc 3 fun t => { t with state := .attachedSrc }).modPde 3 fun t => { t with state := .ready, enterAcked := true }, 3,
       by (repeat' apply And.intro) <;> first | rfl | decide⟩,
   ⟨onReset fun h => (h.modTc 3 fun t => { t with state := .attachedSrc }).modPde 3 fun t => { t with state := .vdmDisc, probe := .identity }, 3,
       by (repeat' apply And.intro) <;> first | rfl | decide⟩,
   ⟨onReset fun h => (h.modTc 3 fun t => { t with state := .attachedSrc }).modPde 3 fun t => { t with state := .vdmDisc, probe := .enter }, 3,
       by (repeat' apply And.intro) <;> first | rfl | decide⟩,
   ⟨onReset fun h => (h.modTc 3 fun t => { t with state := .attachedSrc }).modPde 3 fun t => { t with state := .ready, probe := .svids, busy := 1 }, 3,
       by (repeat' apply And.intro) <;> first | rfl | decide⟩,
   ⟨onReset fun h => (h.modTc 3 fun t => { t with state := .attachedSrc }).modPde 3 fun t => { t with state := .vdmDisc, probe := .svids }, 3,
       by (repeat' apply And.intro) <;> first | rfl | decide⟩⟩

set_option maxRecDepth 20000 in
theorem test_witness_PdCommands :
    (∃ (s : State) (m : Master) (p : PodIx), s.takes m (podBase p + 0x22C) false ∧ (s.hub.pde p).roleSrc = true ∧
      ((s.hub.quiet.written (podBase p + 0x22C)).tc p).attached = true ∧ ((s.hub.quiet.written (podBase p + 0x22C)).pde p).state = .ready) ∧
    (∃ (s : State) (m : Master) (p : PodIx), s.takes m (podBase p + 0x22C) false ∧
      (s.hub.quiet.written (podBase p + 0x22C)).pdActive p = true) ∧
    (∃ (s : State) (m : Master) (p : PodIx), s.takes m (podBase p + 0x22C) false ∧
      (s.hub.quiet.written (podBase p + 0x22C)).pdActive p = false) ∧
    (∃ (s : State) (m : Master) (p : PodIx), s.takes m (podBase p + 0x22C) false ∧
      ((s.hub.quiet.written (podBase p + 0x22C)).pde p).state = .ready ∧ ((s.hub.quiet.written (podBase p + 0x22C)).tc p).vconnOc = false) ∧
    (∃ (s : State) (m : Master) (p : PodIx), s.takes m (podBase p + 0x22C) false ∧
      ((s.hub.quiet.written (podBase p + 0x22C)).pde p).casMode = true ∧ ((s.hub.quiet.written (podBase p + 0x22C)).pde p).dfp = true) ∧
    (∃ (s : State) (m : Master) (p : PodIx), s.takes m (podBase p + 0x22C) false ∧
      ((s.hub.quiet.written (podBase p + 0x22C)).pde p).state = .ready ∧
      ((s.hub.quiet.written (podBase p + 0x22C)).pde p).eprMode = true ∧
      ((s.hub.quiet.written (podBase p + 0x22C)).pde p).contract.ctype = 3) ∧
    (∃ (s : State) (m : Master) (p : PodIx) (w : _) (ws : _) (rest : _), s.takes m (podBase p + 0x22C) false ∧
      (s.hub.capture p).items = (w :: ws) :: rest) ∧
    (∃ (s : State) (m : Master) (p : PodIx), s.takes m (podBase p + 0x22C) false ∧ (s.hub.capture p).items = []) ∧
    (∃ (s : State) (m : Master) (p : PodIx), s.takes m (podBase p + 0x22C) false) :=
  ⟨⟨onReset fun h => (h.modTc 3 fun t => { t with state := .attachedSrc }).modPde 3 fun t => { t with state := .ready, roleSrc := true }, 1, 3,
      by (repeat' apply And.intro) <;> first | with_reducible exact Hub.accHeld_none (by decide) _ _ _ | rfl | decide⟩,
   ⟨onReset fun h => (h.modTc 3 fun t => { t with state := .attachedSrc }).modPde 3 fun t => { t with state := .ready }, 1, 3,
       by (repeat' apply And.intro) <;> first | with_reducible exact Hub.accHeld_none (by decide) _ _ _ | rfl | decide⟩,
   ⟨State.reset, 1, 3, by (repeat' apply And.intro) <;> first | with_reducible exact Hub.accHeld_none (by decide) _ _ _ | rfl | decide⟩,
   ⟨onReset fun h => (h.modTc 3 fun t => { t with state := .attachedSrc }).modPde 3 fun t => { t with state := .ready, roleSrc := true }, 1, 3,
       by (repeat' apply And.intro) <;> first | with_reducible exact Hub.accHeld_none (by decide) _ _ _ | rfl | decide⟩,
   ⟨onReset fun h => (h.modTc 3 fun t => { t with state := .attachedSrc }).modPde 3 fun t => { t with state := .ready, casMode := true, dfp := true }, 1, 3,
       by (repeat' apply And.intro) <;> first | with_reducible exact Hub.accHeld_none (by decide) _ _ _ | rfl | decide⟩,
   ⟨onReset fun h => (h.modTc 3 fun t => { t with state := .attachedSrc }).modPde 3 fun t => { t with state := .ready, eprMode := true, contract := { ctype := 3 } }, 1, 3,
       by (repeat' apply And.intro) <;> first | with_reducible exact Hub.accHeld_none (by decide) _ _ _ | rfl | decide⟩,
   ⟨onReset fun h => h.modCapture 3 fun c => { c with items := [[1, 2]] }, 1, 3, _, _, _,
       by (repeat' apply And.intro) <;> first | with_reducible exact Hub.accHeld_none (by decide) _ _ _ | rfl | decide⟩,
   ⟨State.reset, 1, 3, by (repeat' apply And.intro) <;> first | with_reducible exact Hub.accHeld_none (by decide) _ _ _ | rfl | decide⟩,
   ⟨State.reset, 1, 3, by (repeat' apply And.intro) <;> first | with_reducible exact Hub.accHeld_none (by decide) _ _ _ | rfl | decide⟩⟩

theorem test_witness_SequencerSteps :
    (∃ (s : State) (x : PathIx), s.works (pathDom x) ∧ (s.hub.vb x).state = .windowWait ∧ (s.hub.vb x).sinkDir = false) ∧
    (∃ (s : State) (x : PathIx), s.works (pathDom x) ∧ (s.hub.vb x).state = .windowWait ∧ (s.hub.vb x).sinkDir = true) ∧
    (∃ (s : State) (x : PathIx), s.works (pathDom x) ∧ (s.hub.vb x).state = .insertDelay) ∧
    (∃ (s : State) (x : PathIx), s.works (pathDom x) ∧ (s.hub.vb x).state = .precharge ∧ (s.hub.vb x).sinkDir = false) ∧
    (∃ (s : State) (x : PathIx), s.works (pathDom x) ∧ (s.hub.vb x).state = .on) ∧
    (∃ (s : State) (x : PathIx), s.works (pathDom x) ∧ ((s.hub.vb x).state = .on ∨ (s.hub.vb x).state = .ramp)) ∧
    (∃ (s : State) (x : PathIx), s.works (pathDom x) ∧ (s.hub.vb x).transition = true) ∧
    (∃ (s : State) (x : PathIx), s.works (pathDom x) ∧ (s.hub.vb x).retryCnt < s.hub.retryMax x ∧ (s.hub.vb x).state = .tripped) ∧
    (∃ (s : State) (x : PathIx), s.works (pathDom x) ∧ (s.hub.vb x).state = .retryWait) ∧
    (∃ (s : State) (x : PathIx), s.works (pathDom x) ∧ (s.hub.vb x).state = .coolDown ∧ (s.hub.vb x).seeded = false ∧
      (s.hub.vb x).request = false) ∧
    (∃ (s : State) (x : PathIx), s.works (pathDom x) ∧ s.hub.dschOn x = true ∧ (s.hub.vb x).low = false) ∧
    (∃ (s : State) (x : PathIx), s.works (pathDom x) ∧ (s.hub.vb x).state = .ramp ∧ pathPod x = none) ∧
    (∃ (s : State) (x : PathIx), s.works (pathDom x) ∧ (s.hub.vb x).state = .off ∧ (s.hub.vb x).seeded = false ∧ s.hub.btSrc x = false ∧
      (s.hub.vb x).transition = false ∧ (s.hub.vb x).measDiv = 9) ∧
    (∃ (s : State) (x : PathIx), s.works (pathDom x) ∧ (s.hub.vb x).state = .off ∧ (s.hub.vb x).seeded = false ∧ s.hub.btSrc x = false ∧
      (s.hub.vb x).transition = false ∧ (s.hub.vb x).measDiv < 9) :=
  ⟨⟨onReset fun h => h.modVb 17 fun e => { e with state := .windowWait }, 17, by (repeat' apply And.intro) <;> first | rfl | decide⟩,
   ⟨onReset fun h => h.modVb 17 fun e => { e with state := .windowWait, sinkDir := true }, 17,
       by (repeat' apply And.intro) <;> first | rfl | decide⟩,
   ⟨onReset fun h => h.modVb 17 fun e => { e with state := .insertDelay }, 17, by (repeat' apply And.intro) <;> first | rfl | decide⟩,
   ⟨onReset fun h => h.modVb 17 fun e => { e with state := .precharge }, 17, by (repeat' apply And.intro) <;> first | rfl | decide⟩,
   ⟨onReset fun h => h.modVb 17 fun e => { e with state := .on }, 17, by (repeat' apply And.intro) <;> first | rfl | decide⟩,
   ⟨onReset fun h => h.modVb 17 fun e => { e with state := .ramp }, 17, by exact ⟨⟨rfl, rfl⟩, Or.inr rfl⟩⟩,
   ⟨onReset fun h => h.modVb 17 fun e => { e with transition := true }, 17, by (repeat' apply And.intro) <;> first | rfl | decide⟩,
   ⟨onReset fun h => h.modVb 17 fun e => { e with state := .tripped }, 17, by (repeat' apply And.intro) <;> first | rfl | decide⟩,
   ⟨onReset fun h => h.modVb 17 fun e => { e with state := .retryWait }, 17, by (repeat' apply And.intro) <;> first | rfl | decide⟩,
   ⟨onReset fun h => h.modVb 17 fun e => { e with state := .coolDown }, 17, by (repeat' apply And.intro) <;> first | rfl | decide⟩,
   ⟨onReset fun h => h.modVb 17 fun e => { e with dsch := true }, 17, by (repeat' apply And.intro) <;> first | rfl | decide⟩,
   ⟨onReset fun h => h.modVb 17 fun e => { e with state := .ramp }, 17, by (repeat' apply And.intro) <;> first | rfl | decide⟩,
   ⟨onReset fun h => h.modVb 17 fun e => { e with measDiv := 9 }, 17, by (repeat' apply And.intro) <;> first | rfl | decide⟩,
   ⟨State.reset, 17, by (repeat' apply And.intro) <;> first | rfl | decide⟩⟩

theorem test_witness_Trips :
    (∃ (s : State) (x : PathIx), s.works (pathDom x) ∧ (s.hub.vb x).state = .check0v) ∧
    (∃ (s : State) (x : PathIx), s.works (pathDom x) ∧ (s.hub.vb x).state = .windowWait) ∧
    (∃ (s : State) (x : PathIx), s.works (pathDom x) ∧ (s.hub.vb x).state = .precharge) ∧
    (∃ (s : State) (x : PathIx), s.works (pathDom x) ∧ (s.hub.vb x).state = .ramp) ∧
    (∃ (s : State) (x : PathIx), s.works (pathDom x) ∧ (s.hub.vb x).state = .on) ∧
    (∃ (s : State) (x : PathIx), s.works (pathDom x) ∧ (s.hub.vb x).state = .on ∧ s.hub.uvSuppressed x = false) ∧
    (∃ (x : PathIx), pathPod x = none) ∧
    (∃ (x : PathIx) (y : _), pathPod x = none ∧ y ≠ x) :=
  ⟨⟨onReset fun h => h.modVb 17 fun e => { e with state := .check0v }, 17, by (repeat' apply And.intro) <;> first | rfl | decide⟩,
   ⟨onReset fun h => h.modVb 17 fun e => { e with state := .windowWait }, 17, by (repeat' apply And.intro) <;> first | rfl | decide⟩,
   ⟨onReset fun h => h.modVb 17 fun e => { e with state := .precharge }, 17, by (repeat' apply And.intro) <;> first | rfl | decide⟩,
   ⟨onReset fun h => h.modVb 17 fun e => { e with state := .ramp }, 17, by (repeat' apply And.intro) <;> first | rfl | decide⟩,
   ⟨onReset fun h => h.modVb 17 fun e => { e with state := .on }, 17, by (repeat' apply And.intro) <;> first | rfl | decide⟩,
   ⟨onReset fun h => h.modVb 17 fun e => { e with state := .on }, 17, by (repeat' apply And.intro) <;> first | rfl | decide⟩,
   ⟨17, by (repeat' apply And.intro) <;> first | rfl | decide⟩,
   ⟨17, 3, by (repeat' apply And.intro) <;> first | rfl | decide⟩⟩

theorem test_witness_PathCommands :
    (∃ (s : State) (m : Master) (x : PathIx), s.takes m (vbBase x + 0x1C) false ∧
      ((s.hub.quiet.written (vbBase x + 0x1C)).vb x).state = .latchedOff ∧ pathOut x = none) ∧
    (∃ (s : State) (m : Master) (x : PathIx), s.takes m (vbBase x + 0x1C) false ∧
      ((s.hub.quiet.written (vbBase x + 0x1C)).vb x).state ≠ .latchedOff) ∧
    (∃ (s : State) (m : Master) (x : PathIx), s.takes m (vbBase x + 0x1C) false) ∧
    (∃ (s : State) (o : OutIx), s.hub.held = .none ∧ s.hub.domOn domOut = true ∧ s.hub.presPol o = true ∧ s.hub.outEn o = false) ∧
    (∃ (s : State), s.hub.held = .none ∧ s.hub.domRuns domOut = false) :=
  ⟨⟨onReset fun h => h.modVb 3 fun e => { e with state := .latchedOff }, 1, 3,
      by (repeat' apply And.intro) <;> first | with_reducible exact Hub.accHeld_none (by decide) _ _ _ | rfl | decide⟩,
   ⟨State.reset, 1, 17, by (repeat' apply And.intro) <;> first | with_reducible exact Hub.accHeld_none (by decide) _ _ _ | rfl | decide⟩,
   ⟨State.reset, 1, 17, by (repeat' apply And.intro) <;> first | with_reducible exact Hub.accHeld_none (by decide) _ _ _ | rfl | decide⟩,
   ⟨onReset fun h => h.setAct 0x20440 4, 1, by (repeat' apply And.intro) <;> first | rfl | decide⟩,
   ⟨onReset fun h => h.modDom domOut fun d => { d with state := .off }, by (repeat' apply And.intro) <;> first | rfl | decide⟩⟩

theorem test_witness_BudgetCommands :
    (∃ (s : State), s.hub.held = .none) ∧
    (∃ (s : State) (p : PodIx), s.hub.held = .none ∧ (s.hub.cons (podPath p)).rpLower = true ∧ (s.hub.tc p).srcAttached = true ∧
      (s.hub.pde p).explicit = false) ∧
    (∃ (s : State) (vin : Nat), s.hub.held = .none ∧ s.hub.bud.warnVin = false ∧ s.hub.bud.warnOver = false ∧ vin < s.hub.vinWarn) ∧
    (∃ (s : State) (vin : Nat), s.hub.held = .none ∧ s.hub.bud.fail = false ∧ vin < s.hub.vinFail) ∧
    (∃ (s : State), s.hub.held = .none ∧ s.hub.bud.fail = true) ∧
    (∃ (s : State), s.hub.held = .none ∧ s.hub.budWarn = true) ∧
    (∃ (s : State) (vin : Nat), s.hub.held = .none ∧ s.hub.bud.warnVin = true ∧ s.hub.bud.warnOver = true ∧
      s.hub.vinWarn + s.hub.vinHyst < vin) ∧
    (∃ (s : State), s.hub.held = .none ∧ s.hub.bud.restoring = true) :=
  ⟨⟨State.reset, by (repeat' apply And.intro) <;> first | rfl | decide⟩,
   ⟨onReset fun h => ((h.modCons (podPath 3) fun q => { q with rpLower := true }).modTc 3 fun t => { t with state := .attachedSrc }), 3,
       by (repeat' apply And.intro) <;> first | rfl | decide⟩,
   ⟨onReset fun h => h.modBud fun b => { b with warnVin := false }, 0, by (repeat' apply And.intro) <;> first | rfl | decide⟩,
   ⟨onReset fun h => h.modBud fun b => { b with fail := false }, 0, by (repeat' apply And.intro) <;> first | rfl | decide⟩,
   ⟨onReset fun h => h.modBud fun b => { b with fail := true }, by (repeat' apply And.intro) <;> first | rfl | decide⟩,
   ⟨onReset fun h => h.modBud fun b => { b with warnVin := true }, by (repeat' apply And.intro) <;> first | rfl | decide⟩,
   ⟨onReset fun h => h.modBud fun b => { b with warnVin := true, warnOver := true }, 65000,
       by (repeat' apply And.intro) <;> first | rfl | decide⟩,
   ⟨onReset fun h => h.modBud fun b => { b with restoring := true }, by (repeat' apply And.intro) <;> first | rfl | decide⟩⟩

theorem test_witness_NoCutWithinBudget :
    (∃ (h : Hub), sumBy (fun q => if q.marked then 0 else q.charge) h.bud.cons.toList ≤ h.bud.bEff) :=
  ⟨Hub.reset, by (repeat' apply And.intro) <;> first | rfl | decide⟩

theorem test_witness_ClaimNeedsHeadroom :
    (∃ (h : Hub) (x : PathIx) (c : Nat), h.budClaimOk x c = true) :=
  ⟨(fun h : Hub => h.modBud fun b => { b with bEff := 1000 }) Hub.reset, 17, 20, by (repeat' apply And.intro) <;> first | rfl | decide⟩

theorem test_witness_RegulatorLink :
    (∃ (s : State) (n : Fin 32) (acks : Nat) (r : _), s.hub.held = .none ∧ s.hub.rl.active = [] ∧ s.hub.rl.queue = [r] ∧
      s.hub.slotOf r.owner = some n ∧ (s.hub.rl.slots[n]).probed = true ∧ s.hub.slotUsable r.owner = true ∧
      (s.hub.rlSeq n (s.hub.rlBytes n r.kind)).length ≤ acks) ∧
    (∃ (s : State) (n : Fin 32) (acks : Nat) (r : _), s.hub.held = .none ∧ s.hub.rl.active = [] ∧ s.hub.rl.queue = [r] ∧
      s.hub.slotOf r.owner = some n ∧ (s.hub.rl.slots[n]).probed = true ∧ s.hub.slotUsable r.owner = true ∧
      acks < (s.hub.rlSeq n (s.hub.rlBytes n r.kind)).length) ∧
    (∃ (s : State) (n : Fin 32) (a : _), s.hub.held = .none ∧ s.hub.rlActiveOf n = some a ∧ a.redo = false ∧ a.req.kind.isOff = false) ∧
    (∃ (s : State) (n : Fin 32) (pg : BitVec 8) (a : _), s.hub.held = .none ∧ s.hub.rlActiveOf n = some a ∧ a.redo = false ∧
      s.hub.rlConfirmed a pg = true ∧ 16 ≤ a.req.owner ∧ a.req.owner < 20) ∧
    (∃ (s : State) (n : Fin 32) (pg : BitVec 8) (a : _), s.hub.held = .none ∧ s.hub.rlActiveOf n = some a ∧ a.redo = false ∧
      s.hub.rlConfirmed a pg = false ∧ a.req.kind.isOff = true) ∧
    (∃ (s : State), s.hub.held = .none ∧ (∀ k, s.hub.slotEn k = false)) ∧
    (∃ (s : State) (n : Fin 32), s.hub.held = .none ∧ s.hub.rlMonEn = true ∧ s.hub.rlWaiting = false ∧ s.hub.rlMonNext = some n) ∧
    (∃ (s : State) (v : _), s.hub.held = .none ∧ v ≤ 6000) ∧
    (∃ (s : State), s.hub.held = .none) ∧
    (∃ (s : State) (i : _), s.hub.held = .none ∧ i ≤ 3000) :=
  ⟨⟨onReset fun h => ((h.modRl fun l => { l with queue := [{ owner := 17, kind := .off }] }).setAct 0x4110 (0x80 + 17 * 0x80000)).modSlot 2 fun x => { x with probed := true }, 2, 9, _,
      by (repeat' apply And.intro) <;> first | rfl | decide⟩,
   ⟨onReset fun h => ((h.modRl fun l => { l with queue := [{ owner := 17, kind := .off }] }).setAct 0x4110 (0x80 + 17 * 0x80000)).modSlot 2 fun x => { x with probed := true }, 2, 0, _,
       by (repeat' apply And.intro) <;> first | rfl | decide⟩,
   ⟨onReset fun h => h.modRl fun l => { l with active := [{ req := { owner := 17, kind := .voltage 500 }, slot := 2, attempt := 1 }] }, 2, _,
       by (repeat' apply And.intro) <;> first | rfl | decide⟩,
   ⟨onReset fun h => h.modRl fun l => { l with active := [{ req := { owner := 17, kind := .off }, slot := 2, attempt := 1 }] }, 2, 0, _,
       by (repeat' apply And.intro) <;> first | rfl | decide⟩,
   ⟨onReset fun h => (h.modRl fun l => { l with active := [{ req := { owner := 17, kind := .off }, slot := 2, attempt := 1 }] }).setAct 0x4110 0x8000000, 2, 0xFF, _,
       by (repeat' apply And.intro) <;> first | rfl | decide⟩,
   ⟨State.reset, by (repeat' apply And.intro) <;> first | rfl | decide⟩,
   ⟨onReset fun h => (h.setAct 0x4000 4).setAct 0x4110 0x80, 2, by (repeat' apply And.intro) <;> first | rfl | decide⟩,
   ⟨State.reset, 6000, by (repeat' apply And.intro) <;> first | rfl | decide⟩,
   ⟨State.reset, by (repeat' apply And.intro) <;> first | rfl | decide⟩,
   ⟨State.reset, 3000, by (repeat' apply And.intro) <;> first | rfl | decide⟩⟩

theorem test_witness_HostPackets :
    (∃ (s : State) (p : PodIx) (addr : Fin 128) (ep : Fin 16) (numP : Nat), s.forwards ∧ isD p = true ∧ s.hub.sched.credit = none ∧
      (s.hub.quiet.countHostRx 0).blockedAt p addr.val = false ∧ (s.hub.quiet.countHostRx 0).linkTakes p = true ∧ numP ≠ 0 ∧
      (((s.hub.quiet.countHostRx 0).noteHit p addr.val ep.val true ((s.hub.quiet.countHostRx 0).mapFind p addr.val ep.val true)).reqHeld addr.val ep.val) = false) ∧
    (∃ (s : State) (p : PodIx) (addr : Fin 128), s.forwards ∧ isD p = true ∧ s.hub.sched.credit = none ∧
      (s.hub.quiet.countHostRx 0).blockedAt p addr.val = false ∧ (s.hub.quiet.countHostRx 0).linkTakes p = true) ∧
    (∃ (s : State) (p : PodIx) (addr : Fin 128), s.forwards ∧ isD p = true ∧ s.hub.sched.credit = none ∧
      (s.hub.quiet.countHostRx 0).blockedAt p addr.val = false ∧ (s.hub.quiet.countHostRx 0).linkTakes p = false) ∧
    (∃ (s : State) (p : PodIx) (addr : Fin 128) (bytes : Nat), s.forwards ∧ isD p = true ∧ s.hub.sched.credit = none ∧
      (s.hub.quiet.countHostRx bytes).blockedAt p addr.val = true) ∧
    (∃ (s : State) (p : PodIx) (addr : Fin 128) (ep : Fin 16) (bytes : Nat) (how : Arrival) (m : MapHit) (h1 : Hub) (x : DownPkt), s.forwards ∧ isD p = true ∧ s.hub.sched.credit = none ∧ (s.hub.quiet.countHostRx bytes).blockedAt p addr.val = false ∧ (s.hub.quiet.countHostRx bytes).mapFind p addr.val ep.val false = m ∧ m.pol = none ∧ (s.hub.quiet.countHostRx bytes).noteHit p addr.val ep.val false m = h1 ∧ h1.linkTakes p = true ∧ x = { addr := addr.val, ep := ep.val, bytes := bytes, damaged := how != .good, iso := (s.hub.quiet.countHostRx bytes).isoEp p addr.val ep.val false m }) ∧
    (∃ (s : State) (p : PodIx) (c : _), s.forwards ∧ isD p = true ∧ s.hub.sched.credit = some c ∧
      s.hub.quiet.downFits c.pod c.pkt = false) :=
  ⟨⟨onReset fun h => (h.modLink 3 fun l => { l with ltssm := .u0 }), 3, 9, 1, 1, by (repeat' apply And.intro) <;> first | rfl | decide⟩,
   ⟨onReset fun h => (h.modLink 3 fun l => { l with ltssm := .u0 }), 3, 9, by (repeat' apply And.intro) <;> first | rfl | decide⟩,
   ⟨State.reset, 3, 9, by (repeat' apply And.intro) <;> first | rfl | decide⟩,
   ⟨onReset fun h => (h.modLink 3 fun l => { l with ltssm := .u0 }).modFwl 3 fun f => { f with blocked := [9] }, 3, 9, 0,
       by (repeat' apply And.intro) <;> first | rfl | decide⟩,
   ⟨onReset fun h => (h.modLink 3 fun l => { l with ltssm := .u0 }), 3, 9, 1, 64, .good, _, (fun h : Hub => _) Hub.reset, _,
       by (repeat' apply And.intro) <;> first | rfl | decide⟩,
   ⟨onReset fun h => h.modSched fun x => { x with credit := some { pod := 3, pkt := { addr := 9, ep := 1, bytes := 7000000 } } }, 3, _,
       by (repeat' apply And.intro) <;> first | rfl | decide⟩⟩

theorem test_witness_DevicePackets :
    (∃ (s : State) (p : PodIx) (addr : Fin 128) (ep : Fin 16) (bytes : Nat), s.forwards ∧ isD p = true ∧ (s.hub.link p).ltssm = .u0 ∧
      (s.hub.quiet.countRx p bytes).blockedAt p addr.val = false ∧ (s.hub.quiet.countRx p bytes).maxPkt p addr.val ep.val true < bytes) ∧
    (∃ (s : State) (p : PodIx) (addr : Fin 128) (ep : Fin 16) (bytes : Nat) (r : Rsv) (m : MapHit) (h1 : Hub), s.forwards ∧ isD p = true ∧
      (s.hub.link p).ltssm = .u0 ∧ (s.hub.quiet.countRx p bytes).blockedAt p addr.val = false ∧
      bytes ≤ (s.hub.quiet.countRx p bytes).maxPkt p addr.val ep.val true ∧
      (s.hub.quiet.countRx p bytes).mapFind p addr.val ep.val true = m ∧ m.pol = none ∧
      (s.hub.quiet.countRx p bytes).noteHit p addr.val ep.val true m = h1 ∧ h1.rsvOf p addr.val ep.val = some r ∧ 0 < r.pkts ∧
      cellsOf bytes ≤ r.cells) ∧
    (∃ (s : State) (p : PodIx) (addr : Fin 128), s.forwards ∧ isD p = true ∧ (s.hub.link p).ltssm = .u0 ∧
      (s.hub.quiet.countRx p 0).blockedAt p addr.val = false) ∧
    (∃ (s : State) (p : PodIx) (addr : Fin 128), s.forwards ∧ isD p = true ∧ (s.hub.link p).ltssm = .u0 ∧
      (s.hub.quiet.countRx p 0).blockedAt p addr.val = true) ∧
    (∃ (s : State) (p : PodIx) (addr : Fin 128) (ep : Fin 16) (r : Rsv), s.forwards ∧ isD p = true ∧
      s.hub.rsvOf p addr.val ep.val = some r) :=
  ⟨⟨onReset fun h => (h.modLink 3 fun l => { l with ltssm := .u0 }), 3, 9, 1, 1025, by (repeat' apply And.intro) <;> first | rfl | decide⟩,
   ⟨onReset fun h => (h.modLink 3 fun l => { l with ltssm := .u0 }).modSched fun x => { x with rsvs := [{ pod := 3, addr := 9, ep := 1, queue := 4, cells := 8, pkts := 1, charge := 0, perPkt := 0 }] }, 3, 9, 1, 64, _, _, (fun h : Hub => _) Hub.reset,
       by (repeat' apply And.intro) <;> first | rfl | decide⟩,
   ⟨onReset fun h => (h.modLink 3 fun l => { l with ltssm := .u0 }), 3, 9, by (repeat' apply And.intro) <;> first | rfl | decide⟩,
   ⟨onReset fun h => (h.modLink 3 fun l => { l with ltssm := .u0 }).modFwl 3 fun f => { f with blocked := [9] }, 3, 9,
       by (repeat' apply And.intro) <;> first | rfl | decide⟩,
   ⟨onReset fun h => h.modSched fun x => { x with rsvs := [{ pod := 3, addr := 9, ep := 1, queue := 4, cells := 8, pkts := 1, charge := 0, perPkt := 0 }] }, 3, 9, 1, _,
       by (repeat' apply And.intro) <;> first | rfl | decide⟩⟩

set_option maxRecDepth 20000 in
theorem test_witness_UpstreamService :
    (∃ (s : State) (e : PodIx) (n : QueueIx) (g : Hub) (x : UpPkt), s.forwards ∧ s.hub.quiet.startFree = some e ∧
      s.hub.quiet.noteNoFit.select = (some n, g) ∧ uqHead n (g.uq n).pkts = some x ∧ x.iso = false ∧ x.marked = false ∧ x.noDesc = false) ∧
    (∃ (s : State) (desc : EccRead) (e : PodIx) (n : QueueIx) (g : Hub) (x : UpPkt), s.forwards ∧ s.hub.quiet.startFree = some e ∧
      s.hub.quiet.noteNoFit.select = (some n, g) ∧ uqHead n (g.uq n).pkts = some x ∧ x.counted = none ∧ isUe desc = true) ∧
    (∃ (s : State) (p : PodIx) (x : _) (rest : _), s.forwards ∧ isD p = true ∧ (s.hub.link p).ltssm = .u0 ∧
      (s.hub.link p).down = x :: rest ∧ x.damaged = false ∧ x.marked = false ∧ x.noDesc = false ∧ (s.hub.link p).u3Pending = false ∧
      s.hub.sched.credit = none ∧ s.hub.sched.statusDue = false ∧ s.hub.nvm.toRetire = []) ∧
    (∃ (s : State) (p : PodIx) (u : _) (q : _) (x : _), s.forwards ∧ podUp p = some u ∧ s.hub.upsel.active = some u ∧
      s.hub.sched.sending = some (q, x) ∧ x.damaged = false ∧ x.marked = false ∧ s.hub.sched.credit = none ∧
      s.hub.sched.statusDue = false ∧ s.hub.nvm.toRetire = [] ∧ isD p = false) :=
  ⟨⟨onReset fun h => ((h.modUpsel fun u => { u with active := some 0 }).modLink 0 fun l => { l with ltssm := .u0, speed := .gen2x1 }).modUq 3 fun q => { q with pkts := [{ src := 3, addr := 9, ep := 1, bytes := 64 }] }, 0, 3, (fun h : Hub => _) Hub.reset, _,
      by (repeat' apply And.intro) <;> first | rfl | decide⟩,
   ⟨onReset fun h => ((h.modUpsel fun u => { u with active := some 0 }).modLink 0 fun l => { l with ltssm := .u0, speed := .gen2x1 }).modUq 3 fun q => { q with pkts := [{ src := 3, addr := 9, ep := 1, bytes := 64 }] }, .uncorrectable true, 0, 3, (fun h : Hub => _) Hub.reset, _,
       by (repeat' apply And.intro) <;> first | rfl | decide⟩,
   ⟨onReset fun h => (h.modLink 3 fun l => { l with ltssm := .u0, down := [{ addr := 9, ep := 1, bytes := 8 }] }), 3, _, _,
       by (repeat' apply And.intro) <;> first | rfl | decide⟩,
   ⟨onReset fun h => ((h.modUpsel fun u => { u with active := some 0 }).modLink 0 fun l => { l with ltssm := .u0, speed := .gen2x1 }).modSched fun y => { y with sending := some (3, { src := 3, addr := 9, ep := 1, bytes := 64 }) }, 0, _, _, _,
       by (repeat' apply And.intro) <;> first | rfl | decide⟩⟩

theorem test_witness_TransactionTranslators :
    (∃ (s : State) (p : PodIx) (addr : Fin 128) (ep : Fin 16) (bytes : Nat) (m : MapHit) (h1 : Hub), s.forwards ∧
      s.hub.quiet.ttLive p = true ∧ (s.hub.quiet.countHostRx bytes).blockedAt p addr.val = false ∧
      (s.hub.quiet.countHostRx bytes).mapFind p addr.val ep.val false = m ∧ m.pol = none ∧
      (s.hub.quiet.countHostRx bytes).noteHit p addr.val ep.val false m = h1 ∧
      (s.hub.quiet.countHostRx bytes).isoEp p addr.val ep.val false m = false ∧
      (s.hub.quiet.countHostRx bytes).ttRoom p false (cellsOf bytes) = true) ∧
    (∃ (s : State) (p : PodIx) (addr : Fin 128) (bytes : Nat), s.forwards ∧ s.hub.quiet.ttLive p = true ∧
      (s.hub.quiet.countHostRx bytes).blockedAt p addr.val = false ∧
      (s.hub.quiet.countHostRx bytes).ttRoom p false (cellsOf bytes) = false) ∧
    (∃ (s : State) (p : PodIx) (addr : Fin 128), s.forwards ∧ s.hub.quiet.ttLive p = true ∧
      (s.hub.quiet.countHostRx 0).blockedAt p addr.val = false ∧ (s.hub.link p).tt = []) ∧
    (∃ (s : State) (p : PodIx) (addr : Fin 128) (ep : Fin 16) (b : TtBuf) (n : Nat), s.forwards ∧ s.hub.quiet.ttLive p = true ∧
      (s.hub.quiet.countHostRx 0).blockedAt p addr.val = false ∧ s.hub.nvm.toRetire = [] ∧ (s.hub.tc p).hold = none ∧
      (s.hub.link p).u2 = .enabled ∧ (s.hub.link p).tt = [b] ∧ b.addr = addr.val ∧ b.ep = ep.val ∧ b.dirIn = false ∧ b.data = some n ∧
      b.damaged = false ∧ b.marked = false) ∧
    (∃ (s : State), s.forwards) ∧
    (∃ (s : State), s.forwards ∧ s.hub.upsel.active = none) :=
  ⟨⟨onReset fun h => (h.modLink 3 fun l => { l with speed := .full }), 3, 9, 1, 64, _, (fun h : Hub => _) Hub.reset,
      by (repeat' apply And.intro) <;> first | rfl | decide⟩,
   ⟨onReset fun h => (h.modLink 3 fun l => { l with speed := .full, tt := [{ addr := 9, ep := 1, dirIn := false, periodic := false, cells := 1, data := some 8 }, { addr := 9, ep := 1, dirIn := false, periodic := false, cells := 1, data := some 8 }] }), 3, 9, 64,
       by (repeat' apply And.intro) <;> first | rfl | decide⟩,
   ⟨onReset fun h => (h.modLink 3 fun l => { l with speed := .full }), 3, 9, by (repeat' apply And.intro) <;> first | rfl | decide⟩,
   ⟨onReset fun h => (h.modLink 3 fun l => { l with speed := .full, u2 := .enabled, tt := [{ addr := 9, ep := 1, dirIn := false, periodic := false, cells := 1, data := some 8 }] }), 3, 9, 1, _, _,
       by (repeat' apply And.intro) <;> first | rfl | decide⟩,
   ⟨State.reset, by (repeat' apply And.intro) <;> first | rfl | decide⟩,
   ⟨State.reset, by (repeat' apply And.intro) <;> first | rfl | decide⟩⟩

theorem test_witness_PortRequests :
    (∃ (s : State) (p : PodIx) (v : Speed), s.works (podDom p) ∧ (s.hub.tc p).hold = none ∧ s.hub.mayConnect p = true ∧
      speedOk p v = true ∧ (s.hub.link p).ltssm ≠ .u3 ∧ (s.hub.link p).u2 ≠ .suspended ∧ (s.hub.link p).u2 ≠ .resuming) ∧
    (∃ (s : State) (p : PodIx), s.works (podDom p) ∧ (s.hub.tc p).hold = none ∧ s.hub.mayConnect p = true ∧ isD p = true ∧
      (s.hub.link p).speed = .none) ∧
    (∃ (s : State) (p : PodIx), s.forwards ∧ isD p = true ∧ (s.hub.tc p).hold = none ∧ (s.hub.link p).disReason ≠ 3 ∧
      (s.hub.link p).conn = true ∧ (s.hub.link p).onSs = false) ∧
    (∃ (s : State) (p : PodIx), s.forwards ∧ isD p = true ∧ (s.hub.tc p).hold = none ∧ (s.hub.link p).disReason ≠ 3 ∧
      (s.hub.link p).conn = true ∧ (s.hub.link p).onSs = true) ∧
    (∃ (s : State) (p : PodIx), s.forwards ∧ isD p = true ∧ (s.hub.tc p).hold = none ∧ (s.hub.link p).disReason = 3) ∧
    (∃ (s : State), s.forwards) ∧
    (∃ (s : State) (p : PodIx), s.forwards ∧ isD p = true ∧ (s.hub.tc p).hold = none ∧ (s.hub.link p).ltssm = .u0 ∧
      (s.hub.link p).down = [] ∧ s.hub.sched.credit = none) ∧
    (∃ (s : State) (p : PodIx), s.forwards ∧ isD p = true ∧ (s.hub.link p).u2 = .enabled) :=
  ⟨⟨onReset fun h => h.modTc 3 fun t => { t with state := .attachedSrc }, 3, .gen2x1,
      by (repeat' apply And.intro) <;> first | rfl | decide⟩,
   ⟨onReset fun h => h.modTc 3 fun t => { t with state := .attachedSrc }, 3, by (repeat' apply And.intro) <;> first | rfl | decide⟩,
   ⟨onReset fun h => (h.modLink 3 fun l => { l with conn := true, onSs := false }), 3,
       by (repeat' apply And.intro) <;> first | rfl | decide⟩,
   ⟨onReset fun h => (h.modLink 3 fun l => { l with conn := true, onSs := true }), 3,
       by (repeat' apply And.intro) <;> first | rfl | decide⟩,
   ⟨onReset fun h => (h.modLink 3 fun l => { l with disReason := 3 }), 3, by (repeat' apply And.intro) <;> first | rfl | decide⟩,
   ⟨State.reset, by (repeat' apply And.intro) <;> first | rfl | decide⟩,
   ⟨onReset fun h => (h.modLink 3 fun l => { l with ltssm := .u0 }), 3, by (repeat' apply And.intro) <;> first | rfl | decide⟩,
   ⟨onReset fun h => (h.modLink 3 fun l => { l with u2 := .enabled }), 3, by (repeat' apply And.intro) <;> first | rfl | decide⟩⟩

theorem test_witness_LinkPowerAndSnoop :
    (∃ (s : State) (p : PodIx), isD p = true ∧ s.works (podDom p) ∧ (s.hub.link p).ltssm = .u0 ∧ (s.hub.link p).speed.ss = true ∧
      (s.hub.link p).down = []) ∧
    (∃ (s : State) (p : PodIx), isD p = true ∧ s.works (podDom p) ∧ (s.hub.link p).ltssm = .u0 ∧ (s.hub.link p).down = []) ∧
    (∃ (s : State) (p : PodIx), isD p = true ∧ s.works (podDom p) ∧ (s.hub.link p).ltssm = .u0 ∧ (s.hub.link p).down ≠ []) ∧
    (∃ (s : State) (p : PodIx) (u : UpIx), isD p = true ∧ s.forwards ∧ s.hub.upsel.active = some u ∧
      (s.hub.link (upPod u)).speed.ss = true ∧ (s.hub.link (upPod u)).ltssm = .u0 ∧ s.hub.sched.credit = none) ∧
    (∃ (s : State) (p : PodIx) (u : UpIx), isD p = true ∧ s.works (podDom (upPod u)) ∧ s.hub.seq.fallback = false ∧
      s.hub.upsel.active = some u ∧ (s.hub.link (upPod u)).speed.ss = true ∧ (s.hub.link (upPod u)).ltssm = .u3) ∧
    (∃ (s : State) (p : PodIx) (u : UpIx), isD p = true ∧ s.forwards ∧ s.hub.upsel.active = some u ∧
      (s.hub.link (upPod u)).u2 = .enabled ∧ ((∀ q, isD q = true → (s.hub.link q).u2 ≠ .enabled))) ∧
    (∃ (s : State) (p : PodIx), isD p = true ∧ s.works (podDom p) ∧ (s.hub.link p).ltssm = .u3 ∧ s.hub.upsel.active = none) ∧
    (∃ (s : State) (p : PodIx) (addr : Fin 128), isD p = true ∧ s.forwards ∧ (s.hub.quiet.dev p addr.val).isSome = true) ∧
    (∃ (s : State) (p : PodIx) (b : Bool) (a : Fin 128), isD p = true ∧ s.forwards ∧ a ≠ 0 ∧ b = false) ∧
    (∃ (s : State) (p : PodIx), isD p = true ∧ s.works (podDom p)) :=
  ⟨⟨onReset fun h => (h.modLink 3 fun l => { l with ltssm := .u0, speed := .gen1x1 }), 3,
      by (repeat' apply And.intro) <;> first | rfl | decide⟩,
   ⟨onReset fun h => (h.modLink 3 fun l => { l with ltssm := .u0 }), 3, by (repeat' apply And.intro) <;> first | rfl | decide⟩,
   ⟨onReset fun h => (h.modLink 3 fun l => { l with ltssm := .u0, down := [{ addr := 9, ep := 1, bytes := 8 }] }), 3,
       by (repeat' apply And.intro) <;> first | rfl | decide⟩,
   ⟨onReset fun h => ((h.modUpsel fun u => { u with active := some 0 }).modLink 0 fun l => { l with ltssm := .u0, speed := .gen2x1 }), 3, 0,
       by (repeat' apply And.intro) <;> first | rfl | decide⟩,
   ⟨onReset fun h => ((h.modUpsel fun u => { u with active := some 0 }).modLink 0 fun l => { l with ltssm := .u3, speed := .gen2x1 }), 3, 0,
       by (repeat' apply And.intro) <;> first | rfl | decide⟩,
   ⟨onReset fun h => ((h.modUpsel fun u => { u with active := some 0 }).modLink 0 fun l => { l with u2 := .enabled, speed := .gen2x1 }), 3, 0,
       by (repeat' apply And.intro) <;> first | rfl | decide⟩,
   ⟨onReset fun h => (h.modLink 3 fun l => { l with ltssm := .u3 }), 3, by (repeat' apply And.intro) <;> first | rfl | decide⟩,
   ⟨onReset fun h => h.devSeen 3 9 true false, 3, 9, by (repeat' apply And.intro) <;> first | rfl | decide⟩,
   ⟨State.reset, 3, false, 9, by (repeat' apply And.intro) <;> first | rfl | decide⟩,
   ⟨State.reset, 3, by (repeat' apply And.intro) <;> first | rfl | decide⟩⟩

theorem test_witness_PortPowerRequests :
    (∃ (s : State), s.forwards) :=
  ⟨State.reset, by (repeat' apply And.intro) <;> first | rfl | decide⟩

set_option maxRecDepth 20000 in
theorem test_witness_MapAndPacing :
    (∃ (s : State) (m : Master) (bankB : Bool) (idx : Fin 4064) (w : Word), s.takes m (mapOff bankB idx.val) false ∧
      s.hub.domDark domPe = false ∧ ((s.hub.secure m = true ∨ ((s.hub.mapWord bankB idx.val).getLsbD 7 = false ∧ w.getLsbD 7 = false)))) ∧
    (∃ (s : State) (m : Master) (bankB : Bool) (idx : Fin 4064), s.takes m (mapOff bankB idx.val) false ∧ s.hub.secure m = false ∧
      (s.hub.mapWord bankB idx.val).getLsbD 7 = true) ∧
    (∃ (s : State) (m : Master) (bankB : Bool) (idx : Fin 4064) (w : Word), s.takes m (mapOff bankB idx.val) false ∧
      s.hub.domDark domPe = false ∧ s.hub.secure m = false ∧ (s.hub.mapWord bankB idx.val).getLsbD 7 = false ∧ w.getLsbD 7 = true) ∧
    (∃ (s : State) (m : Master) (bankB : Bool) (idx : Fin 4064), s.hub.held = .none ∧ s.hub.accHeld m (mapOff bankB idx.val) 2 = true) ∧
    (∃ (s : State) (n : QueueIx) (r : _) (rest : _), s.forwards ∧ (s.hub.pq n).reqs = r :: rest ∧ s.hub.pqBlock n r = 0 ∧ r.cellAt = none) ∧
    (∃ (s : State) (n : QueueIx) (addr : Fin 128) (ep : Fin 16), s.forwards ∧
      ((s.hub.pq n).reqs.any fun r => r.addr == addr.val && r.ep == ep.val && !r.deferred) = true) ∧
    (∃ (s : State), s.forwards) :=
  ⟨⟨State.reset, 1, true, 4063, 1, by exact ⟨⟨rfl, rfl, by decide, rfl, rfl⟩, rfl, Or.inr ⟨rfl, rfl⟩⟩⟩,
   ⟨onReset fun h => h.setMapWord false 2 0x80, 1, false, 2,
       by (repeat' apply And.intro) <;> first | with_reducible exact Hub.accHeld_none (by decide) _ _ _ | rfl | decide⟩,
   ⟨State.reset, 1, false, 2, 0x80,
       by (repeat' apply And.intro) <;> first | with_reducible exact Hub.accHeld_none (by decide) _ _ _ | rfl | decide⟩,
   ⟨onReset fun h => h.modDom domPe fun d => { d with state := .entering }, 1, false, 2,
       by (repeat' apply And.intro) <;> first | with_reducible exact Hub.accHeld_none (by decide) _ _ _ | rfl | decide⟩,
   ⟨onReset fun h => h.modPq 4 fun q => { q with reqs := [{ pod := 3, addr := 9, ep := 1, numP := 1 }] }, 4, _, _,
       by (repeat' apply And.intro) <;> first | rfl | decide⟩,
   ⟨onReset fun h => h.modPq 4 fun q => { q with reqs := [{ pod := 3, addr := 9, ep := 1, numP := 1 }] }, 4, 9, 1,
       by (repeat' apply And.intro) <;> first | rfl | decide⟩,
   ⟨State.reset, by (repeat' apply And.intro) <;> first | rfl | decide⟩⟩

theorem test_witness_MapEntryReadsBack :
    (∃ (s : State) (bankB : Bool) (idx : Fin 4064), s.takes 0 (mapOff bankB idx.val) true ∧ s.hub.domDark domPe = false) :=
  ⟨onReset fun h => h.modSec fun c => { c with boot := .done }, false, 2,
      by (repeat' apply And.intro) <;> first | with_reducible exact Hub.accHeld_none (by decide) _ _ _ | rfl | decide⟩

theorem test_witness_TokenBuckets :
    (∃ (s : State), s.forwards) ∧
    (∃ (rate : Nat), rate ≠ 0) ∧
    (∃ (rate : Nat) (burst : Nat) (t : Int), rate ≠ 0 ∧ t ≤ tok (burst * 64)) ∧
    (∃ (h : Hub) (n : QueueIx), h.shpRate n ≠ 0) ∧
    (∃ (h : Hub) (n : QueueIx) (k : _), h.shpRate n ≠ 0 ∧ k ≠ n) :=
  ⟨⟨State.reset, by (repeat' apply And.intro) <;> first | rfl | decide⟩,
   ⟨1, by (repeat' apply And.intro) <;> first | rfl | decide⟩,
   ⟨1, 1, 5, by (repeat' apply And.intro) <;> first | rfl | decide⟩,
   ⟨(fun h : Hub => h.setAct 0x3108C 5) Hub.reset, 4, by (repeat' apply And.intro) <;> first | rfl | decide⟩,
   ⟨(fun h : Hub => h.setAct 0x3108C 5) Hub.reset, 4, 5, by (repeat' apply And.intro) <;> first | rfl | decide⟩⟩

theorem test_witness_StrictPriority :
    (∃ (h : Hub) (n : QueueIx), n.val < 4 ∧ (h.eligible n).isSome = true ∧
      ((∀ k : QueueIx, k.val < n.val → (h.eligible k).isSome = false))) :=
  ⟨(fun h : Hub => ((h.modUpsel fun u => { u with active := some 0 }).modLink 0 fun l => { l with ltssm := .u0, speed := .gen2x1 }).modUq 3 fun q => { q with pkts := [{ src := 3, addr := 9, ep := 1, bytes := 64 }] }) Hub.reset, 3,
      by (repeat' apply And.intro) <;> first | rfl | decide⟩

theorem test_witness_TimeAndGates :
    (∃ (s : State) (u : UpIx), s.forwards ∧ s.hub.upsel.active = some u ∧ (s.hub.link (upPod u)).ltssm = .u0 ∧ s.hub.sched.credit = none) ∧
    (∃ (s : State), s.forwards ∧ s.hub.discipline = 1 ∧ s.hub.timing.unsync = false ∧ s.hub.timing.srcUsed = 1 ∧
      s.hub.timing.holdover = false) ∧
    (∃ (s : State) (d : DirIx), s.forwards ∧ (s.hub.gate d).pending = true) ∧
    (∃ (s : State) (d : DirIx) (gates : _) (iv : _) (left : _), s.forwards ∧
      (s.hub.gate d).entryAt s.hub.tb.toNat = some (gates, iv, left) ∧ (s.hub.gate d).pending = false) ∧
    (∃ (s : State), s.hub.discipline = 1) :=
  ⟨⟨onReset fun h => ((h.modUpsel fun u => { u with active := some 0 }).modLink 0 fun l => { l with ltssm := .u0, speed := .gen2x1 }), 0,
      by (repeat' apply And.intro) <;> first | rfl | decide⟩,
   ⟨onReset fun h => (h.modTiming fun t => { t with unsync := false, srcUsed := 1 }),
       by (repeat' apply And.intro) <;> first | rfl | decide⟩,
   ⟨onReset fun h => h.modGate 0 fun g => { g with pending := true }, 0, by (repeat' apply And.intro) <;> first | rfl | decide⟩,
   ⟨onReset fun h => h.modGate 0 fun g => { g with oper := [(0, 1), (1, 100)], operLen := 1, operCyc := 1, valid := true }, 0, _, _, _,
       by (repeat' apply And.intro) <;> first | rfl | decide⟩,
   ⟨State.reset, by (repeat' apply And.intro) <;> first | rfl | decide⟩⟩

theorem test_witness_GateSwitchTakesList :
    (∃ (h : Hub) (d : DirIx), (h.gate d).pending = true ∧ (h.gate d).switchT.toNat ≤ h.tb.toNat) ∧
    (∃ (h : Hub) (d : DirIx) (e : _), (h.gate d).pending = true ∧ (h.gate d).switchT.toNat ≤ h.tb.toNat ∧ e ≠ d) ∧
    (∃ (h : Hub) (d : DirIx), ((h.gate d).pending = false ∨ h.tb.toNat < (h.gate d).switchT.toNat)) ∧
    (∃ (s : State) (m : Master) (d : DirIx), s.takes m (0x48010 + 0x40 * d.val) false ∧ (s.hub.gate d).pending = true) ∧
    (∃ (s : State) (m : Master) (d : DirIx), s.takes m (0x48010 + 0x40 * d.val) false ∧ (s.hub.gate d).pending = false) :=
  ⟨⟨(fun h : Hub => h.modGate 0 fun g => { g with pending := true }) Hub.reset, 0, by (repeat' apply And.intro) <;> first | rfl | decide⟩,
   ⟨(fun h : Hub => h.modGate 0 fun g => { g with pending := true }) Hub.reset, 0, 1,
       by (repeat' apply And.intro) <;> first | rfl | decide⟩,
   ⟨Hub.reset, 0, by exact Or.inl rfl⟩,
   ⟨onReset fun h => h.modGate 0 fun g => { g with pending := true }, 1, 0,
       by (repeat' apply And.intro) <;> first | with_reducible exact Hub.accHeld_none (by decide) _ _ _ | rfl | decide⟩,
   ⟨State.reset, 1, 0, by (repeat' apply And.intro) <;> first | with_reducible exact Hub.accHeld_none (by decide) _ _ _ | rfl | decide⟩⟩

theorem test_witness_IdleTick :
    (∃ (s : State), s.pending = []) :=
  ⟨State.reset, by (repeat' apply And.intro) <;> first | rfl | decide⟩

theorem test_witness_WorkerFrames :
    (∃ (s : State) (p : PodIx) (hd : CsbHdr), s.toWorker p hd) ∧
    (∃ (s : State) (p : PodIx) (hd : CsbHdr), s.toWorker p hd ∧ (s.hub.clink p).state = 1) ∧
    (∃ (s : State) (p : PodIx) (hd : CsbHdr), s.toWorker p hd ∧ (s.hub.clink p).state = 2) ∧
    (∃ (s : State) (p : PodIx) (hd : CsbHdr) (o : FwOffer) (b : Nat), s.toWorker p hd ∧ s.hub.csb.load.offer = some o ∧
      s.hub.csb.load.verifying = false ∧ s.hub.csb.load.activating = false ∧ b < offerBlocks o ∧ s.hub.csb.load.got.contains b = true) ∧
    (∃ (s : State) (p : PodIx) (hd : CsbHdr) (a : Assign), s.toWorker p hd ∧ (s.hub.clink p).inOrder hd.seq = true ∧ isD p = false ∧
      a.uid = Config.dieUid ∧ a.standby = false ∧ a.result ≠ 0) ∧
    (∃ (s : State) (p : PodIx) (hd : CsbHdr) (a : Assign), s.toWorker p hd ∧ (s.hub.clink p).inOrder hd.seq = true ∧ isD p = false ∧
      a.uid = Config.dieUid ∧ a.standby = true ∧ a.result = 0) ∧
    (∃ (s : State) (p : PodIx) (hd : CsbHdr) (w : _), s.toWorker p hd ∧ (s.hub.clink p).inOrder hd.seq = true ∧
      s.hub.csb.mgrLost = false ∧ s.hub.bud.grant = w) ∧
    (∃ (s : State) (p : PodIx) (hd : CsbHdr), s.toWorker p hd ∧ (s.hub.clink p).inOrder hd.seq = true ∧ hd.src = 0) ∧
    (∃ (s : State) (p : PodIx) (hd : CsbHdr), s.toWorker p hd ∧ (s.hub.clink p).inOrder hd.seq = true ∧ s.hub.csb.jcolSent = []) ∧
    (∃ (s : State) (p : PodIx) (hd : CsbHdr) (last : _) (n : _) (r : _), s.toWorker p hd ∧ (s.hub.clink p).inOrder hd.seq = true ∧
      s.hub.csb.jcolSent = [(n, r)] ∧ n = last) ∧
    (∃ (s : State) (p : PodIx) (hd : CsbHdr) (o : FwOffer), s.toWorker p hd ∧ (s.hub.clink p).inOrder hd.seq = true ∧
      o.version = s.hub.sec.runVersion) ∧
    (∃ (s : State) (p : PodIx) (hd : CsbHdr) (o : FwOffer), s.toWorker p hd ∧ (s.hub.clink p).inOrder hd.seq = true ∧
      o.version ≠ s.hub.sec.runVersion ∧ s.hub.csb.load.offer = none) ∧
    (∃ (s : State) (p : PodIx) (hd : CsbHdr), s.toWorker p hd ∧ (s.hub.clink p).inOrder hd.seq = true ∧
      (s.hub.nvm.bank s.hub.nvm.idle).state = .verified) :=
  ⟨⟨onReset fun h => (h.modCsb fun c => { c with joined := true, myId := 5 }).modClink 0 fun l => { l with state := 1 }, 0, { dst := 5, src := 0, turn := false, ackValid := false, seq := 1, ack := 0 },
      by (repeat' apply And.intro) <;> first | rfl | decide⟩,
   ⟨onReset fun h => (h.modCsb fun c => { c with joined := true, myId := 5 }).modClink 0 fun l => { l with state := 1 }, 0, { dst := 5, src := 0, turn := false, ackValid := false, seq := 1, ack := 0 },
       by (repeat' apply And.intro) <;> first | rfl | decide⟩,
   ⟨onReset fun h => (h.modCsb fun c => { c with joined := true, myId := 5 }).modClink 0 fun l => { l with state := 2 }, 0, { dst := 5, src := 0, turn := false, ackValid := false, seq := 1, ack := 0 },
       by (repeat' apply And.intro) <;> first | rfl | decide⟩,
   ⟨onReset fun h => (h.modCsb fun c => { c with joined := true, myId := 5, load := { offer := some { tag := 1, version := 9, length := 64, digest := [] }, got := [0] } }).modClink 0 fun l => { l with state := 1 }, 0, { dst := 5, src := 0, turn := false, ackValid := false, seq := 1, ack := 0 }, _, 0,
       by (repeat' apply And.intro) <;> first | rfl | decide⟩,
   ⟨onReset fun h => (h.modCsb fun c => { c with joined := true, myId := 5 }).modClink 0 fun l => { l with state := 1 }, 0, { dst := 5, src := 0, turn := false, ackValid := false, seq := 1, ack := 0 }, { uid := Config.dieUid, id := 7, level := 1, tree := 0, result := 1, standby := false },
       by (repeat' apply And.intro) <;> first | rfl | decide⟩,
   ⟨onReset fun h => (h.modCsb fun c => { c with joined := true, myId := 5 }).modClink 0 fun l => { l with state := 1 }, 0, { dst := 5, src := 0, turn := false, ackValid := false, seq := 1, ack := 0 }, { uid := Config.dieUid, id := 7, level := 1, tree := 0, result := 0, standby := true },
       by (repeat' apply And.intro) <;> first | rfl | decide⟩,
   ⟨onReset fun h => (h.modCsb fun c => { c with joined := true, myId := 5 }).modClink 0 fun l => { l with state := 1 }, 0, { dst := 5, src := 0, turn := false, ackValid := false, seq := 1, ack := 0 }, _,
       by (repeat' apply And.intro) <;> first | rfl | decide⟩,
   ⟨onReset fun h => (h.modCsb fun c => { c with joined := true, myId := 5 }).modClink 0 fun l => { l with state := 1 }, 0, { dst := 5, src := 0, turn := false, ackValid := false, seq := 1, ack := 0 },
       by (repeat' apply And.intro) <;> first | rfl | decide⟩,
   ⟨onReset fun h => (h.modCsb fun c => { c with joined := true, myId := 5 }).modClink 0 fun l => { l with state := 1 }, 0, { dst := 5, src := 0, turn := false, ackValid := false, seq := 1, ack := 0 },
       by (repeat' apply And.intro) <;> first | rfl | decide⟩,
   ⟨onReset fun h => (h.modCsb fun c => { c with joined := true, myId := 5, jcolSent := [(4, {})] }).modClink 0 fun l => { l with state := 1 }, 0, { dst := 5, src := 0, turn := false, ackValid := false, seq := 1, ack := 0 }, 4, 4, {},
       by (repeat' apply And.intro) <;> first | rfl | decide⟩,
   ⟨onReset fun h => (h.modCsb fun c => { c with joined := true, myId := 5 }).modClink 0 fun l => { l with state := 1 }, 0, { dst := 5, src := 0, turn := false, ackValid := false, seq := 1, ack := 0 }, { tag := 1, version := 0, length := 64, digest := [] },
       by (repeat' apply And.intro) <;> first | rfl | decide⟩,
   ⟨onReset fun h => (h.modCsb fun c => { c with joined := true, myId := 5 }).modClink 0 fun l => { l with state := 1 }, 0, { dst := 5, src := 0, turn := false, ackValid := false, seq := 1, ack := 0 }, { tag := 1, version := 9, length := 64, digest := [] },
       by (repeat' apply And.intro) <;> first | rfl | decide⟩,
   ⟨onReset fun h => ((h.modCsb fun c => { c with joined := true, myId := 5 }).modClink 0 fun l => { l with state := 1 }).modNvm fun n => { n with bankB := { state := .verified } }, 0, { dst := 5, src := 0, turn := false, ackValid := false, seq := 1, ack := 0 },
       by (repeat' apply And.intro) <;> first | rfl | decide⟩⟩

theorem test_witness_ManagerFrames :
    (∃ (s : State) (p : PodIx) (hd : CsbHdr), s.toManager p hd) ∧
    (∃ (s : State) (p : PodIx) (hd : CsbHdr) (x : Hello), s.toManager p hd ∧ (s.hub.clink p).inOrder hd.seq = true ∧ x.standby = false ∧
      x.parent ≠ 0x7E) ∧
    (∃ (s : State) (p : PodIx) (hd : CsbHdr) (child : _), s.toManager p hd ∧ (s.hub.clink p).inOrder hd.seq = true ∧
      (s.hub.worker (workerIx child)).parent = hd.src) ∧
    (∃ (s : State) (p : PodIx) (hd : CsbHdr) (child : _), s.toManager p hd ∧ (s.hub.clink p).inOrder hd.seq = true ∧
      (s.hub.worker (workerIx child)).parent ≠ hd.src) ∧
    (∃ (s : State) (p : PodIx) (hd : CsbHdr), s.toManager p hd ∧ (s.hub.clink p).inOrder hd.seq = true ∧
      (s.hub.worker (workerIx hd.src)).state = 1) ∧
    (∃ (s : State) (p : PodIx) (hd : CsbHdr), s.toManager p hd ∧ (s.hub.clink p).inOrder hd.seq = true ∧
      (s.hub.worker (workerIx hd.src)).state = 1) ∧
    (∃ (s : State) (p : PodIx) (hd : CsbHdr), s.toManager p hd ∧ (s.hub.clink p).inOrder hd.seq = true) ∧
    (∃ (s : State) (p : PodIx) (hd : CsbHdr) (first : _) (r : Rec) (x : Rec), s.toManager p hd ∧ (s.hub.clink p).inOrder hd.seq = true ∧
      (s.hub.csb.jcolAcks.any fun a => a.1 == hd.src && a.2.1 == lastOf first 1) = false ∧
      x = { r with devId := if r.devId = 0 then hd.src else r.devId, flags := r.flags ||| 4 }) ∧
    (∃ (s : State) (p : PodIx) (hd : CsbHdr), s.toManager p hd ∧ (s.hub.clink p).inOrder hd.seq = true ∧
      (s.hub.worker (workerIx hd.src)).named = true ∧ s.hub.csb.dist.phase = 1) :=
  ⟨⟨onReset fun h => ((h.modCsb fun c => { c with role := 2 }).modClink 3 fun l => { l with state := 1, isParent := true }), 3, { dst := 0, src := 5, turn := false, ackValid := false, seq := 1, ack := 0 },
      by (repeat' apply And.intro) <;> first | rfl | decide⟩,
   ⟨onReset fun h => ((h.modCsb fun c => { c with role := 2 }).modClink 3 fun l => { l with state := 1, isParent := true }), 3, { dst := 0, src := 5, turn := false, ackValid := false, seq := 1, ack := 0 }, { uid := 1, id := 0x7F, prefId := 0, tree := 0, subDepth := 0, floor := 0, grantHold := 0, tMgrLoss := 0, fwVer := 0, standby := false, parent := 0 },
       by (repeat' apply And.intro) <;> first | rfl | decide⟩,
   ⟨onReset fun h => ((h.modCsb fun c => { c with role := 2 }).modClink 3 fun l => { l with state := 1, isParent := true }).modWorker 9 fun w => { w with parent := 5 }, 3, { dst := 0, src := 5, turn := false, ackValid := false, seq := 1, ack := 0 }, 9,
       by (repeat' apply And.intro) <;> first | rfl | decide⟩,
   ⟨onReset fun h => ((h.modCsb fun c => { c with role := 2 }).modClink 3 fun l => { l with state := 1, isParent := true }), 3, { dst := 0, src := 5, turn := false, ackValid := false, seq := 1, ack := 0 }, 9,
       by (repeat' apply And.intro) <;> first | rfl | decide⟩,
   ⟨onReset fun h => ((h.modCsb fun c => { c with role := 2 }).modClink 3 fun l => { l with state := 1, isParent := true }).modWorker 5 fun w => { w with state := 1 }, 3, { dst := 0, src := 5, turn := false, ackValid := false, seq := 1, ack := 0 },
       by (repeat' apply And.intro) <;> first | rfl | decide⟩,
   ⟨onReset fun h => ((h.modCsb fun c => { c with role := 2 }).modClink 3 fun l => { l with state := 1, isParent := true }).modWorker 5 fun w => { w with state := 1 }, 3, { dst := 0, src := 5, turn := false, ackValid := false, seq := 1, ack := 0 },
       by (repeat' apply And.intro) <;> first | rfl | decide⟩,
   ⟨onReset fun h => ((h.modCsb fun c => { c with role := 2 }).modClink 3 fun l => { l with state := 1, isParent := true }), 3, { dst := 0, src := 5, turn := false, ackValid := false, seq := 1, ack := 0 },
       by (repeat' apply And.intro) <;> first | rfl | decide⟩,
   ⟨onReset fun h => ((h.modCsb fun c => { c with role := 2 }).modClink 3 fun l => { l with state := 1, isParent := true }), 3, { dst := 0, src := 5, turn := false, ackValid := false, seq := 1, ack := 0 }, 0, {}, _,
       by (repeat' apply And.intro) <;> first | rfl | decide⟩,
   ⟨onReset fun h => ((h.modCsb fun c => { c with role := 2, dist := { phase := 1 } }).modClink 3 fun l => { l with state := 1, isParent := true }).modWorker 5 fun w => { w with named := true }, 3, { dst := 0, src := 5, turn := false, ackValid := false, seq := 1, ack := 0 },
       by (repeat' apply And.intro) <;> first | rfl | decide⟩⟩

set_option maxRecDepth 20000 in
theorem test_witness_CascadeTimers :
    (∃ (s : State), s.works domCsb ∧ s.hub.csb.role = 0) ∧
    (∃ (s : State) (p : PodIx) (x : _) (rest : _), s.works domCsb ∧ (s.hub.clink p).sent = x :: rest ∧ x.repeats < 3) ∧
    (∃ (s : State) (p : PodIx) (x : _) (rest : _), s.works domCsb ∧ (s.hub.clink p).sent = x :: rest ∧ 3 ≤ x.repeats ∧ isD p = false) ∧
    (∃ (s : State) (p : PodIx), s.works domCsb ∧ (s.hub.clink p).isParent = true ∧ (s.hub.clink p).up = true ∧
      (s.hub.clink p).turn = false ∧ s.hub.csb.role ≠ 2) ∧
    (∃ (s : State), s.works domCsb) ∧
    (∃ (s : State), s.works domCsb ∧ s.hub.csb.role = 1 ∧ s.hub.csb.joined = false ∧ s.hub.csb.parentUp = true) ∧
    (∃ (s : State) (p : PodIx), s.works domCsb ∧ (s.hub.clink p).isParent = true ∧ (s.hub.clink p).up = true) ∧
    (∃ (s : State), s.works domCsb ∧ s.hub.csb.joined = true ∧ s.hub.csb.parentUp = true ∧ s.hub.csb.demandAt = none) ∧
    (∃ (s : State), s.works domCsb ∧ s.hub.csb.role = 2) ∧
    (∃ (s : State) (w : HubId), s.works domCsb ∧ s.hub.csb.role = 2 ∧ (s.hub.worker w).ackWait = true) ∧
    (∃ (s : State), s.works domCsb ∧ s.hub.csb.joined = true ∧ s.hub.csb.parentUp = true ∧ s.hub.csb.mgrLost = false ∧
      s.hub.jcolEn = true ∧ s.hub.csb.jcolSent = [] ∧ s.hub.quiet.jcolOverrun = s.hub.quiet ∧
      s.hub.clk < s.hub.csb.jcolSince + ticksPerSecond ∧ s.hub.jcolEligible.take (min 8 (s.hub.jcolRate - s.hub.csb.jcolRate)) ≠ []) ∧
    (∃ (s : State) (n : _) (r : _), s.works domCsb ∧ s.hub.csb.joined = true ∧ s.hub.csb.parentUp = true ∧ s.hub.csb.mgrLost = false ∧
      s.hub.csb.jcolSent = [(n, r)]) ∧
    (∃ (s : State) (w : HubId), s.works domCsb ∧ s.hub.csb.dist.phase = 3 ∧ (s.hub.worker w).activated = true ∧ (s.hub.worker w).fw = 2) ∧
    (∃ (s : State) (p : PodIx), s.works domCsb ∧ (s.hub.clink p).up = true ∧ isD p = false) ∧
    (∃ (s : State), s.works domCsb ∧ s.hub.csb.role = 1 ∧ s.hub.csb.joined = true ∧ s.hub.csb.mgrLost = false ∧
      s.hub.timing.unsync = true) ∧
    (∃ (s : State), s.works domCsb ∧ s.hub.csb.mgrLost = true ∧ s.hub.bud.holding = true) ∧
    (∃ (s : State) (w : HubId), s.works domCsb ∧ s.hub.csb.role = 2 ∧ (s.hub.worker w).state = 2) :=
  ⟨⟨State.reset, by (repeat' apply And.intro) <;> first | rfl | decide⟩,
   ⟨onReset fun h => h.modClink 0 fun l => { l with sent := [{ seq := 0, frame := { dst := 0, src := 5, body := .poll }, repeats := 2 }] }, 0, _, _,
       by (repeat' apply And.intro) <;> first | rfl | decide⟩,
   ⟨onReset fun h => h.modClink 0 fun l => { l with sent := [{ seq := 0, frame := { dst := 0, src := 5, body := .poll }, repeats := 3 }] }, 0, _, _,
       by (repeat' apply And.intro) <;> first | rfl | decide⟩,
   ⟨onReset fun h => h.modClink 3 fun l => { l with state := 1, isParent := true }, 3,
       by (repeat' apply And.intro) <;> first | rfl | decide⟩,
   ⟨State.reset, by (repeat' apply And.intro) <;> first | rfl | decide⟩,
   ⟨onReset fun h => h.modCsb fun c => { c with role := 1, parentUp := true }, by (repeat' apply And.intro) <;> first | rfl | decide⟩,
   ⟨onReset fun h => h.modClink 3 fun l => { l with state := 1, isParent := true }, 3,
       by (repeat' apply And.intro) <;> first | rfl | decide⟩,
   ⟨onReset fun h => h.modCsb fun c => { c with joined := true, parentUp := true }, by (repeat' apply And.intro) <;> first | rfl | decide⟩,
   ⟨onReset fun h => h.modCsb fun c => { c with role := 2 }, by (repeat' apply And.intro) <;> first | rfl | decide⟩,
   ⟨onReset fun h => (h.modCsb fun c => { c with role := 2 }).modWorker 5 fun w => { w with ackWait := true }, 5,
       by (repeat' apply And.intro) <;> first | rfl | decide⟩,
   ⟨onReset fun h => ((h.modCsb fun c => { c with role := 1, joined := true, parentUp := true }).modNvm fun n => { n with ring := [(0, { sev := 5 })], head := 1 }).setAct 0x70008 0x401, by exact ⟨⟨rfl, rfl⟩, rfl, rfl, rfl, by decide, rfl, rfl, by decide,
       by decide⟩⟩,
   ⟨onReset fun h => h.modCsb fun c => { c with joined := true, parentUp := true, jcolSent := [(0, {})] }, 0, _,
       by (repeat' apply And.intro) <;> first | rfl | decide⟩,
   ⟨onReset fun h => (h.modCsb fun c => { c with dist := { phase := 3 } }).modWorker 5 fun w => { w with activated := true, fw := 2 }, 5,
       by (repeat' apply And.intro) <;> first | rfl | decide⟩,
   ⟨onReset fun h => h.modClink 0 fun l => { l with state := 1 }, 0, by (repeat' apply And.intro) <;> first | rfl | decide⟩,
   ⟨onReset fun h => (h.modCsb fun c => { c with role := 1, joined := true }), by (repeat' apply And.intro) <;> first | rfl | decide⟩,
   ⟨onReset fun h => (h.modCsb fun c => { c with mgrLost := true }).modBud fun b => { b with holding := true },
       by (repeat' apply And.intro) <;> first | rfl | decide⟩,
   ⟨onReset fun h => (h.modCsb fun c => { c with role := 2 }).modWorker 5 fun w => { w with state := 2 }, 5,
       by (repeat' apply And.intro) <;> first | rfl | decide⟩⟩

theorem test_witness_SecurityCommands :
    (∃ (s : State) (p : PodIx) (f : PdFrame), s.hears p ∧ isD p = true ∧ (s.hub.quiet.pdRx p f false).authAwaits p = true ∧
      ((s.hub.quiet.pdRx p f false).fwl p).step = .certificate) ∧
    (∃ (s : State) (p : PodIx) (f : PdFrame) (u : _) (d : _), s.hears p ∧ podUp p = some u ∧
      ((s.hub.quiet.pdRx p f false).pde p).r3 = true ∧ (s.hub.quiet.pdRx p f false).domRuns domSec = true ∧
      (s.hub.quiet.pdRx p f false).sec.respBusy = some d) ∧
    (∃ (s : State), s.works domSec ∧ s.hub.upstreamUp = true ∧ s.hub.sched.credit = none ∧ s.hub.sec.respBusy = none) ∧
    (∃ (s : State), s.works domSec) ∧
    (∃ (s : State) (scope : _) (rest : _) (r : SigResult), s.works domSec ∧ s.hub.sec.engine = .token none scope :: rest ∧ r.ok = false) ∧
    (∃ (s : State) (p : PodIx) (rest : _) (r : SigResult), s.works domSec ∧ s.hub.sec.engine = .challenge p :: rest ∧
      (s.hub.fwl p).step = .verifySignature ∧ r.ok = true) ∧
    (∃ (s : State) (p : PodIx), s.works (podDom p) ∧ (s.hub.fwl p).auth = .running ∧ (s.hub.fwl p).restart = false) ∧
    (∃ (s : State) (p : PodIx) (m : Master), s.takes m (podBase p + 0xC0C) true ∧ isD p = true) ∧
    (∃ (s : State) (p : PodIx) (m : Master), s.takes m (podBase p + 0xC0C) true ∧ isD p = true ∧
      (s.hub.quiet.written (podBase p + 0xC0C)).securePort p = true ∧ ((s.hub.quiet.written (podBase p + 0xC0C)).pde p).state ≠ .ready) ∧
    (∃ (s : State), s.hub.held = .none) ∧
    (∃ (s : State) (m : Master), s.hub.held = .none ∧ s.hub.mayAccess m = true ∧ s.hub.secure m = false) :=
  ⟨⟨onReset fun h => ((h.modTc 3 fun t => { t with state := .attachedSrc }).modPde 3 fun t => { t with state := .ready }).modFwl 3 fun f => { f with auth := .running, step := .certificate }, 3, { header := 0, words := [] },
      by (repeat' apply And.intro) <;> first | rfl | decide⟩,
   ⟨onReset fun h => ((h.modTc 0 fun t => { t with state := .attachedSnk }).modPde 0 fun t => { t with state := .ready, revKnown := true, rev3 := true }).modSec fun c => { c with respBusy := some .mf }, 0, { header := 0, words := [] }, 0, _,
       by (repeat' apply And.intro) <;> first | rfl | decide⟩,
   ⟨onReset fun h => ((h.modUpsel fun u => { u with active := some 0 }).modLink 0 fun l => { l with ltssm := .u0, speed := .gen2x1 }),
       by (repeat' apply And.intro) <;> first | rfl | decide⟩,
   ⟨State.reset, by (repeat' apply And.intro) <;> first | rfl | decide⟩,
   ⟨onReset fun h => h.modSec fun c => { c with engine := [.token none 1] }, _, _, { ok := false },
       by (repeat' apply And.intro) <;> first | rfl | decide⟩,
   ⟨onReset fun h => (h.modSec fun c => { c with engine := [.challenge 3] }).modFwl 3 fun f => { f with step := .verifySignature }, 3, _, { ok := true },
       by (repeat' apply And.intro) <;> first | rfl | decide⟩,
   ⟨onReset fun h => h.modFwl 3 fun f => { f with auth := .running }, 3, by (repeat' apply And.intro) <;> first | rfl | decide⟩,
   ⟨onReset fun h => h.modSec fun c => { c with boot := .done }, 3, 0,
       by (repeat' apply And.intro) <;> first | with_reducible exact Hub.accHeld_none (by decide) _ _ _ | rfl | decide⟩,
   ⟨onReset fun h => (h.setAct 0x13C00 1).modSec fun c => { c with boot := .done }, 3, 0,
       by (repeat' apply And.intro) <;> first | with_reducible exact Hub.accHeld_none (by decide) _ _ _ | rfl | decide⟩,
   ⟨State.reset, by (repeat' apply And.intro) <;> first | rfl | decide⟩,
   ⟨State.reset, 1, by (repeat' apply And.intro) <;> first | rfl | decide⟩⟩

theorem test_witness_DeferralBound :
    (∃ (h : Hub), h.nvm.deferUsed ≤ 65536) ∧
    (∃ (h : Hub), h.nvm.deferUsed ≤ 65536) ∧
    (∃ (h : Hub) (r : Rec), h.nvm.deferUsed ≤ 65536 ∧ r.sev < 3) ∧
    (∃ (h : Hub) (k : _), h.nvm.deferUsed ≤ 65536 ∧ k = h.nvm.active) ∧
    (∃ (h : Hub) (st : Store), h.nvm.deferUsed ≤ 65536 ∧ h.storeOk (storeClass st) = true ∧ storeClass st ≠ .journal ∧
      ((∀ k page bytes m, st = .firmware k page bytes m → k ≠ h.nvm.active))) :=
  ⟨⟨Hub.reset, by (repeat' apply And.intro) <;> first | rfl | decide⟩,
   ⟨Hub.reset, by (repeat' apply And.intro) <;> first | rfl | decide⟩,
   ⟨Hub.reset, { sev := 2 }, by (repeat' apply And.intro) <;> first | rfl | decide⟩,
   ⟨Hub.reset, _, by (repeat' apply And.intro) <;> first | rfl | decide⟩,
   ⟨(fun h : Hub => (h.modNvm fun n => { n with huV := 15360000 }).setAct 0x5000 0xFFFF) Hub.reset, .config .idTable, by exact ⟨by decide, by decide,
       by decide, fun _ _ _ _ e => Store.noConfusion e⟩⟩⟩

theorem test_witness_ScrubAndParity :
    (∃ (s : State) (word : Fin 17), s.hub.held = .none ∧ word.val < 16 ∧ s.hub.nvm.scrubCell < 24575 ∧
      s.hub.memPowered domPe (s.hub.nvm.scrubCell / 1536) = true) ∧
    (∃ (s : State), s.hub.held = .none ∧ s.hub.nvm.mpScrub < 28672 ∧ s.hub.memPowered domMp (s.hub.nvm.mpScrub / 4096) = true) ∧
    (∃ (s : State), s.hub.held = .none ∧ s.hub.domRuns domNvm = true) ∧
    (∃ (s : State) (x : ParityHit), s.hub.held = .none ∧ s.hub.domRuns domNvm = true ∧ x.active &&& parBits x.off ≠ 0 ∧
      x.second &&& parBits x.off = 0 ∧ s.hub.nvm.faults = [] ∧ s.hub.quiet.groupPending x.off = false ∧ inPeMem x.off = false) :=
  ⟨⟨onReset fun h => h.modSched fun x => { x with credit := some { pod := 3, pkt := { addr := 9, ep := 1, bytes := 8 } } }, 2,
      by (repeat' apply And.intro) <;> first | rfl | decide⟩,
   ⟨State.reset, by (repeat' apply And.intro) <;> first | rfl | decide⟩,
   ⟨State.reset, by (repeat' apply And.intro) <;> first | rfl | decide⟩,
   ⟨State.reset, { off := 0x13000, active := 1, second := 0 }, by (repeat' apply And.intro) <;> first | rfl | decide⟩⟩

theorem test_witness_JournalStores :
    (∃ (s : State) (r : Rec) (rest : List Rec), s.hub.held = .none ∧ s.hub.nvm.raised = r :: rest ∧ s.hub.domOn domNvm = true ∧
      r.flags.testBit 2 = false ∧ r.sev < s.hub.jnlMinSev) ∧
    (∃ (s : State) (r : Rec) (rest : List Rec), s.hub.held = .none ∧ s.hub.nvm.raised = r :: rest ∧ s.hub.domOn domNvm = true ∧
      r.flags.testBit 2 = false ∧ s.hub.jnlMinSev ≤ r.sev) ∧
    (∃ (s : State) (r : Rec) (d : Deferred) (st : List Deferred), s.works domNvm ∧ s.hub.nvm.inStore = d :: st ∧ d.store = .record r ∧
      s.hub.csb.jcolAcks = [] ∧ s.hub.nvm.head < 16383) ∧
    (∃ (s : State) (d : Deferred) (st : List Deferred) (k : _) (page : _) (bytes : _) (by' : _), s.works domNvm ∧
      s.hub.nvm.inStore = d :: st ∧ d.store = .firmware k page bytes by' ∧ s.hub.csb.jcolAcks = []) ∧
    (∃ (s : State) (m : Master), s.takes m 0x78048 false) ∧
    (∃ (s : State), s.hub.held = .none ∧ s.hub.domRuns domNvm = false) ∧
    (∃ (s : State), s.works domNvm ∧ s.hub.nvm.deferQ = [] ∧ s.hub.sec.eraseStep = 0 ∧ s.hub.csb.jcolAcks = []) :=
  ⟨⟨onReset fun h => (h.modNvm fun n => { n with raised := [{ sev := 0 }] }).setAct 0x78040 3, _, _,
      by (repeat' apply And.intro) <;> first | rfl | decide⟩,
   ⟨onReset fun h => (h.modNvm fun n => { n with raised := [{ sev := 3 }] }).setAct 0x78040 3, _, _,
       by (repeat' apply And.intro) <;> first | rfl | decide⟩,
   ⟨onReset fun h => h.modNvm fun n => { n with inStore := [{ store := .record {}, since := 0 }] }, {}, _, _,
       by (repeat' apply And.intro) <;> first | rfl | decide⟩,
   ⟨onReset fun h => h.modNvm fun n => { n with inStore := [{ store := .firmware .b 0 [] 1, since := 0 }] }, _, _, _, _, _, _,
       by (repeat' apply And.intro) <;> first | rfl | decide⟩,
   ⟨State.reset, 1, by (repeat' apply And.intro) <;> first | with_reducible exact Hub.accHeld_none (by decide) _ _ _ | rfl | decide⟩,
   ⟨onReset fun h => h.modDom domNvm fun d => { d with state := .off }, by (repeat' apply And.intro) <;> first | rfl | decide⟩,
   ⟨State.reset, by (repeat' apply And.intro) <;> first | rfl | decide⟩⟩

theorem test_witness_RestartAndRollback :
    (∃ (s : State), s.works domMp ∧ s.hub.rollbackEn = false) ∧
    (∃ (s : State) (m : Master), s.takes m 0x78088 true) ∧
    (∃ (h : Hub), h.domRuns domMp = true) ∧
    (∃ (h : Hub), (h.mpReset 3).nvm.restartsInWin = 3 ∧ (h.mpReset 3).rollbackEn = true) :=
  ⟨⟨onReset fun h => h.setAct 0x78084 0, by (repeat' apply And.intro) <;> first | rfl | decide⟩,
   ⟨onReset fun h => h.modSec fun c => { c with boot := .done }, 0,
       by (repeat' apply And.intro) <;> first | with_reducible exact Hub.accHeld_none (by decide) _ _ _ | rfl | decide⟩,
   ⟨Hub.reset, by (repeat' apply And.intro) <;> first | rfl | decide⟩,
   ⟨(fun h : Hub => (h.modNvm fun n => { n with restartsInWin := 2, activatedAt := some 0 }).setAct 0x78084 0x1FF) Hub.reset,
       by (repeat' apply And.intro) <;> first | rfl | decide⟩⟩

theorem test_witness_EntryRefusals :
    (∃ (h : Hub) (n : DomIx) (d : DomIx), n ≠ domHusk ∧ (domRequires d).contains n = true ∧ (h.dom d).state ≠ .ret ∧
      (h.dom d).state ≠ .off) ∧
    (∃ (h : Hub) (n : DomIx), h.seq.jobs = [] ∧ n ≠ domNvm ∧ n ≠ domBus ∧ (h.dom n).fromRet = false ∧ (h.dom n).planned = false) ∧
    (∃ (h : Hub) (n : DomIx) (d : _), h.seq.jobs = [] ∧ n ≠ domNvm ∧ n ≠ domBus ∧ (h.dom n).fromRet = false ∧ (h.dom n).planned = false ∧
      d ≠ n) :=
  ⟨⟨Hub.reset, 17, 20, by (repeat' apply And.intro) <;> first | rfl | decide⟩,
   ⟨Hub.reset, 19, by (repeat' apply And.intro) <;> first | rfl | decide⟩,
   ⟨Hub.reset, 19, 3, by (repeat' apply And.intro) <;> first | rfl | decide⟩⟩

theorem test_witness_EntrySteps :
    (∃ (s : State) (m : Master) (n : DomIx), s.takes m (0x2100 + 0x10 * n.val) false ∧ (s.hub.dom n).state = .on ∧
      ((((fun (v : Nat) => ((s.hub.quiet.laneReached (0x2100 + 0x10 * n.val)).setAct (0x2100 + 0x10 * n.val) (BitVec.ofNat 32 v)).parWritten (0x2100 + 0x10 * n.val) false) 1).reqDrop n).modDom n fun d => { d with pend := .none, hold := false, planned := false }).entryWait = false ∧ ((((fun (v : Nat) => ((s.hub.quiet.laneReached (0x2100 + 0x10 * n.val)).setAct (0x2100 + 0x10 * n.val) (BitVec.ofNat 32 v)).parWritten (0x2100 + 0x10 * n.val) false) 1).reqDrop n).modDom n fun d => { d with pend := .none, hold := false, planned := false }).domReason n .ret = none) ∧
    (∃ (s : State) (m : Master) (n : DomIx), s.takes m (0x2100 + 0x10 * n.val) false ∧ (s.hub.dom n).state = .off ∧ n ≠ domHusk) ∧
    (∃ (s : State) (m : Master) (n : DomIx), s.takes m (0x2100 + 0x10 * n.val) false ∧ n ≠ domHusk) ∧
    (∃ (s : State) (m : Master) (n : DomIx), s.takes m (0x2100 + 0x10 * n.val) false ∧ n = domHusk) ∧
    (∃ (s : State) (m : Master) (n : DomIx), s.takes m (0x2100 + 0x10 * n.val) false) ∧
    (∃ (s : State) (m : Master), s.takes m 0x2000 false ∧ (∀ d, (s.hub.dom d).hold = false)) ∧
    (∃ (s : State) (n : DomIx), s.hub.held = .none ∧ (s.hub.dom n).state = .draining ∧
      s.hub.quiet.domReason n (s.hub.dom n).target = none ∧ s.hub.quiet.inFlight n (s.hub.dom n).target = none) ∧
    (∃ (s : State) (n : DomIx) (b : _), s.hub.held = .none ∧ (s.hub.dom n).state = .draining ∧
      s.hub.quiet.domReason n (s.hub.dom n).target = none ∧ s.hub.quiet.inFlight n (s.hub.dom n).target = some b) ∧
    (∃ (s : State) (n : DomIx) (c : _) (o : _) (x : _), s.hub.held = .none ∧ (s.hub.dom n).state = .draining ∧
      s.hub.quiet.domReason n (s.hub.dom n).target = some (c, o, x)) ∧
    (∃ (s : State) (n : DomIx), s.hub.held = .none ∧ (s.hub.dom n).state = .entering ∧ (s.hub.dom n).committed = false ∧
      (s.hub.dom n).target = .ret ∧ s.hub.quiet.domReason n .ret = none) ∧
    (∃ (s : State) (n : DomIx), s.hub.held = .none ∧ (s.hub.dom n).state = .entering ∧ (s.hub.dom n).committed = true ∧
      (s.hub.dom n).target = .ret ∧ s.hub.seq.railsOff = [] ∧ s.hub.railsNeeded n = [] ∧ s.hub.seq.wakePend = 0 ∧ n ≠ domMp ∧ n ≠ domBus) :=
  ⟨⟨State.reset, 1, 22, by (repeat' apply And.intro) <;> first | with_reducible exact Hub.accHeld_none (by decide) _ _ _ | rfl | decide⟩,
   ⟨onReset fun h => h.modDom 22 fun d => { d with state := .off }, 1, 22,
       by (repeat' apply And.intro) <;> first | with_reducible exact Hub.accHeld_none (by decide) _ _ _ | rfl | decide⟩,
   ⟨State.reset, 1, 22, by (repeat' apply And.intro) <;> first | with_reducible exact Hub.accHeld_none (by decide) _ _ _ | rfl | decide⟩,
   ⟨State.reset, 1, 16, by (repeat' apply And.intro) <;> first | with_reducible exact Hub.accHeld_none (by decide) _ _ _ | rfl | decide⟩,
   ⟨State.reset, 1, 19, by (repeat' apply And.intro) <;> first | with_reducible exact Hub.accHeld_none (by decide) _ _ _ | rfl | decide⟩,
   ⟨State.reset, 1, by (repeat' apply And.intro) <;> first | with_reducible exact Hub.accHeld_none (by decide) _ _ _ | rfl | decide⟩,
   ⟨onReset fun h => h.modDom 22 fun d => { d with state := .draining, target := .ret }, 22,
       by (repeat' apply And.intro) <;> first | rfl | decide⟩,
   ⟨onReset fun h => (h.modDom domMp fun d => { d with state := .draining, target := .off }).modNvm fun n => { n with inRestart := true }, domMp, _,
       by (repeat' apply And.intro) <;> first | rfl | decide⟩,
   ⟨onReset fun h => (h.modDom domMp fun d => { d with state := .draining, target := .off }).modNvm fun n => { n with deferQ := [{ store := .record {}, since := 0 }] }, domMp, 8, 33, 0,
       by (repeat' apply And.intro) <;> first | rfl | decide⟩,
   ⟨onReset fun h => h.modDom 22 fun d => { d with state := .entering, target := .ret }, 22,
       by (repeat' apply And.intro) <;> first | rfl | decide⟩,
   ⟨onReset fun h => h.modDom 21 fun d => { d with state := .entering, target := .ret, committed := true }, 21,
       by (repeat' apply And.intro) <;> first | rfl | decide⟩⟩

theorem test_witness_WakesAndExits :
    (∃ (s : State) (src : Fin 32), s.hub.held = .none ∧ 16 ≤ src.val ∧ src.val < 24 ∧ s.hub.wakeEn.testBit src.val = true ∧
      (s.hub.quiet.wakeSet src.val).all (fun d => s.hub.domOn d) = false) ∧
    (∃ (s : State) (src : Fin 32), s.hub.held = .none ∧ s.hub.wakeEn.testBit src.val = false) ∧
    (∃ (s : State) (n : DomIx), s.hub.held = .none ∧ n = domOut ∧ s.hub.quiet.exitReady n = true ∧ (s.hub.dom n).prev = .ret ∧
      (∀ o, (s.hub.outlet o).missed = false) ∧ (s.hub.dom n).queued = .none) ∧
    (∃ (s : State) (n : DomIx), s.hub.held = .none ∧ s.hub.quiet.exitReady n = false) ∧
    (∃ (s : State) (n : DomIx), s.hub.held = .none ∧ (s.hub.dom n).state = .exiting ∧ (s.hub.dom n).failing = true) ∧
    (∃ (s : State), s.hub.held = .none ∧ s.hub.smbMatchEn = true ∧ s.hub.domOn domBus = false) ∧
    (∃ (s : State), s.hub.held = .none ∧ s.hub.seq.stretch = true ∧ s.hub.domOn domBus = false) ∧
    (∃ (s : State), s.hub.held = .none ∧ s.hub.tmrS = 0) ∧
    (∃ (s : State), s.hub.held = .none ∧ s.hub.tmrS ≠ 0) ∧
    (∃ (s : State) (m : Master) (w : _) (ws : _) (rest : _), s.hub.held = .none ∧ s.takes m 0x1018 false ∧
      s.hub.seq.fifo = (w :: ws) :: rest) ∧
    (∃ (s : State) (m : Master), s.hub.held = .none ∧ s.takes m 0x1018 false ∧ s.hub.seq.fifo = []) ∧
    (∃ (s : State) (m : Master), s.hub.held = .none ∧ s.takes m 0x1020 false) :=
  ⟨⟨onReset fun h => (h.modDom domOut fun d => { d with state := .ret }).setAct 0x1000 0xFFFFFF, 22,
      by (repeat' apply And.intro) <;> first | rfl | decide⟩,
   ⟨onReset fun h => h.setAct 0x1000 0, 22, by (repeat' apply And.intro) <;> first | rfl | decide⟩,
   ⟨onReset fun h => h.modDom domOut fun d => { d with state := .exiting, prev := .ret }, domOut,
       by (repeat' apply And.intro) <;> first | rfl | decide⟩,
   ⟨State.reset, 19, by (repeat' apply And.intro) <;> first | rfl | decide⟩,
   ⟨onReset fun h => h.modDom 19 fun d => { d with state := .exiting, failing := true }, 19,
       by (repeat' apply And.intro) <;> first | rfl | decide⟩,
   ⟨onReset fun h => (h.modDom domBus fun d => { d with state := .ret }).setAct 0x1004 0x80,
       by (repeat' apply And.intro) <;> first | rfl | decide⟩,
   ⟨onReset fun h => (h.modDom domBus fun d => { d with state := .ret }).modSeq fun q => { q with stretch := true },
       by (repeat' apply And.intro) <;> first | rfl | decide⟩,
   ⟨onReset fun h => h.setAct 0x1008 0, by (repeat' apply And.intro) <;> first | rfl | decide⟩,
   ⟨onReset fun h => h.setAct 0x1008 5, by (repeat' apply And.intro) <;> first | rfl | decide⟩,
   ⟨onReset fun h => h.modSeq fun q => { q with fifo := [[1, 2]] }, 1, _, _, _,
       by (repeat' apply And.intro) <;> first | with_reducible exact Hub.accHeld_none (by decide) _ _ _ | rfl | decide⟩,
   ⟨State.reset, 1, by (repeat' apply And.intro) <;> first | with_reducible exact Hub.accHeld_none (by decide) _ _ _ | rfl | decide⟩,
   ⟨State.reset, 1, by (repeat' apply And.intro) <;> first | with_reducible exact Hub.accHeld_none (by decide) _ _ _ | rfl | decide⟩⟩

theorem test_witness_Clocks :
    (∃ (s : State) (m : Master), s.hub.held = .none ∧ s.takes m 0x3004 false ∧ s.hub.seq.pllLock = false) ∧
    (∃ (s : State) (m : Master), s.hub.held = .none ∧ s.takes m 0x3004 false) ∧
    (∃ (s : State), s.hub.held = .none ∧ s.hub.seq.pllLock = true) ∧
    (∃ (s : State), s.hub.held = .none ∧ s.hub.refMonEn = true ∧ s.hub.seq.refOk = true ∧ s.hub.seq.fallback = false ∧
      s.hub.seq.pllLock = false) ∧
    (∃ (s : State), s.hub.held = .none ∧ s.hub.refMonEn = true ∧ s.hub.seq.refOk = true ∧ s.hub.seq.fallback = false ∧
      s.hub.seq.pllLock = true ∧ s.hub.domOn domBus = true) ∧
    (∃ (s : State), s.hub.held = .none ∧ s.hub.domRuns domBus = true ∧ s.hub.seq.fallback = true ∧ s.hub.domRuns domMp = false) ∧
    (∃ (s : State), s.hub.held = .none ∧ s.hub.seq.pllLock = true ∧ s.hub.domOn domBus = true) ∧
    (∃ (s : State), s.hub.held = .none ∧ s.hub.seq.pllLock = true ∧ s.hub.domOn domBus = false) ∧
    (∃ (s : State), s.hub.held = .none ∧ s.hub.seq.pllLock = false) :=
  ⟨⟨State.reset, 1, by (repeat' apply And.intro) <;> first | with_reducible exact Hub.accHeld_none (by decide) _ _ _ | rfl | decide⟩,
   ⟨State.reset, 1, by (repeat' apply And.intro) <;> first | with_reducible exact Hub.accHeld_none (by decide) _ _ _ | rfl | decide⟩,
   ⟨onReset fun h => h.modSeq fun q => { q with pllLock := true }, by (repeat' apply And.intro) <;> first | rfl | decide⟩,
   ⟨onReset fun h => (h.modSeq fun q => { q with refOk := true }).setAct 0x3000 2, by (repeat' apply And.intro) <;> first | rfl | decide⟩,
   ⟨onReset fun h => (h.modSeq fun q => { q with refOk := true, pllLock := true }).setAct 0x3000 2,
       by (repeat' apply And.intro) <;> first | rfl | decide⟩,
   ⟨onReset fun h => (h.modSeq fun q => { q with fallback := true }).modDom domMp fun d => { d with state := .off },
       by (repeat' apply And.intro) <;> first | rfl | decide⟩,
   ⟨onReset fun h => h.modSeq fun q => { q with pllLock := true }, by (repeat' apply And.intro) <;> first | rfl | decide⟩,
   ⟨onReset fun h => (h.modSeq fun q => { q with pllLock := true }).modDom domBus fun d => { d with state := .off },
       by (repeat' apply And.intro) <;> first | rfl | decide⟩,
   ⟨State.reset, by (repeat' apply And.intro) <;> first | rfl | decide⟩⟩

set_option maxRecDepth 20000 in
theorem test_witness_Transports :
    (∃ (s : State), s.works domBus ∧ s.hub.takesHeaders = false) ∧
    (∃ (s : State) (urgent : Bool), s.works domBus ∧ s.hub.takesHeaders = true ∧ (s.hub.ring (mfRing urgent)).cmds.length = 8) ∧
    (∃ (s : State) (urgent : Bool) (bytes : List (BitVec 8)), s.works domBus ∧ s.hub.takesHeaders = true ∧
      (s.hub.ring (mfRing urgent)).cmds.length < 8 ∧ msgWhole bytes = false) ∧
    (∃ (s : State) (urgent : Bool) (bytes : List (BitVec 8)), s.works domBus ∧ s.hub.takesHeaders = true ∧
      (s.hub.ring (mfRing urgent)).cmds.length < 8 ∧ msgWhole bytes = true ∧ msgCrcOk bytes = false) ∧
    (∃ (s : State) (urgent : Bool) (bytes : List (BitVec 8)), s.works domBus ∧ s.hub.takesHeaders = true ∧
      (s.hub.ring (mfRing urgent)).cmds.length < 8 ∧ msgWhole bytes = true ∧ msgCrcOk bytes = true ∧ (u16 bytes 6) % 2 = 0 ∧
      s.hub.tagUsed (mfRing urgent) (msgOf bytes).tag = false ∧ u16 bytes 0 ≠ 0x0102 ∧ s.hub.mbx.restarting = false) ∧
    (∃ (s : State) (urgent : Bool), s.works domBus ∧ s.hub.takesHeaders = true ∧ (s.hub.ring (mfRing urgent)).resps = []) ∧
    (∃ (s : State) (urgent : Bool) (x : _) (rest : _), s.works domBus ∧ s.hub.takesHeaders = true ∧
      (s.hub.ring (mfRing urgent)).resps = x :: rest ∧ x.delivered = false ∧ s.hub.upsel.active = none) ∧
    (∃ (s : State) (urgent : Bool) (x : _) (rest : _), s.works domBus ∧ s.hub.takesHeaders = true ∧
      (s.hub.ring (mfRing urgent)).resps = x :: rest ∧ x.delivered = false ∧ s.hub.upsel.active ≠ none ∧
      (s.hub.quiet.countHostRx 0).uq0Room (x.bytes (mfRing urgent)).length = true) ∧
    (∃ (s : State) (urgent : Bool) (x : _) (rest : _), s.works domBus ∧ s.hub.takesHeaders = true ∧
      (s.hub.ring (mfRing urgent)).resps = x :: rest ∧ x.delivered = false ∧ s.hub.upsel.active ≠ none ∧
      (s.hub.quiet.countHostRx 0).uq0Room (x.bytes (mfRing urgent)).length = false) ∧
    (∃ (s : State), s.works domBus ∧ s.hub.takesHeaders = true) ∧
    (∃ (s : State) (wIndex : _), s.works domBus ∧ s.hub.takesHeaders = true ∧ 2 ≤ wIndex) ∧
    (∃ (s : State) (urgent : Bool) (bytes : List (BitVec 8)) (tag : BitVec 16), s.works domBus ∧
      s.hub.tagUsed (mfRing urgent) tag = false ∧ bytes.length = 8 ∧ byteAt bytes 0 = 0 ∧ byteAt bytes 1 = 0) ∧
    (∃ (s : State) (urgent : Bool) (bytes : List (BitVec 8)), s.works domBus ∧ s.hub.seq.stretchNak = false ∧
      (s.hub.ring (smbRing urgent)).cmds.length < 8 ∧ bytes ≠ [] ∧ (s.hub.ring (smbRing urgent)).asm.length + bytes.length < 6) ∧
    (∃ (s : State) (urgent : Bool), s.works domBus ∧ s.hub.seq.stretchNak = false ∧ (s.hub.ring (smbRing urgent)).cmds.length = 8 ∧
      (s.hub.ring (smbRing urgent)).asmOpen = false) ∧
    (∃ (s : State), s.works domBus ∧ s.hub.seq.stretchNak = false) ∧
    (∃ (s : State) (urgent : Bool), s.works domBus ∧ s.hub.seq.stretchNak = false ∧ (s.hub.ring (smbRing urgent)).resps = []) ∧
    (∃ (s : State) (urgent : Bool) (words : Fin 64) (x : _) (rest : _), s.works domBus ∧ s.hub.seq.stretchNak = false ∧
      (s.hub.ring (smbRing urgent)).resps = x :: rest ∧ (s.hub.ring (smbRing urgent)).cursor = 0 ∧
      words.val < (respItem x (smbRing urgent)).length) ∧
    (∃ (s : State) (urgent : Bool) (x : _) (rest : _), s.works domBus ∧ s.hub.seq.stretchNak = false ∧
      (s.hub.ring (smbRing urgent)).resps = x :: rest) ∧
    (∃ (s : State) (urgent : Bool), s.works domBus ∧ (s.hub.ring (smbRing urgent)).asmOpen = true) :=
  ⟨⟨onReset fun h => h.modSched fun x => { x with credit := some { pod := 3, pkt := { addr := 9, ep := 1, bytes := 8 } } },
      by (repeat' apply And.intro) <;> first | with_reducible exact Hub.accHeld_none (by decide) _ _ _ | rfl | decide⟩,
   ⟨onReset fun h => (h.modRing 0 fun g => { g with cmds := List.replicate 8 { opcode := 0x0104, tag := 1 } }), false,
       by (repeat' apply And.intro) <;> first | with_reducible exact Hub.accHeld_none (by decide) _ _ _ | rfl | decide⟩,
   ⟨State.reset, false, [1],
       by (repeat' apply And.intro) <;> first | with_reducible exact Hub.accHeld_none (by decide) _ _ _ | rfl | decide⟩,
   ⟨State.reset, false, [4, 1, 7, 0, 0, 0, 0, 0, 0, 0, 0, 0, 0, 0, 0, 0],
       by (repeat' apply And.intro) <;> first | with_reducible exact Hub.accHeld_none (by decide) _ _ _ | rfl | decide⟩,
   ⟨State.reset, false, [4, 1, 7, 0, 0, 0, 0, 0, 0, 0, 0, 0, 0, 0, 231, 25],
       by (repeat' apply And.intro) <;> first | with_reducible exact Hub.accHeld_none (by decide) _ _ _ | rfl | decide⟩,
   ⟨State.reset, false, by (repeat' apply And.intro) <;> first | with_reducible exact Hub.accHeld_none (by decide) _ _ _ | rfl | decide⟩,
   ⟨onReset fun h => (h.modRing 0 fun g => { g with resps := [{ opcode := 0x0104, tag := 7, seq := 0, payload := [] }] }), false, _, _,
       by (repeat' apply And.intro) <;> first | with_reducible exact Hub.accHeld_none (by decide) _ _ _ | rfl | decide⟩,
   ⟨onReset fun h => (((h.modUpsel fun u => { u with active := some 0 }).modLink 0 fun l => { l with ltssm := .u0, speed := .gen2x1 }).modRing 0 fun g => { g with resps := [{ opcode := 0x0104, tag := 7, seq := 0, payload := [] }] }), false, _, _,
       by (repeat' apply And.intro) <;> first | with_reducible exact Hub.accHeld_none (by decide) _ _ _ | rfl | decide⟩,
   ⟨onReset fun h => ((((h.modUpsel fun u => { u with active := some 0 }).modLink 0 fun l => { l with ltssm := .u0, speed := .gen2x1 }).modRing 0 fun g => { g with resps := [{ opcode := 0x0104, tag := 7, seq := 0, payload := [] }] })).modUq 0 fun q => { q with pkts := [{ src := 16, addr := 0, ep := 0, bytes := 24576, cells := 24000, reserve := 256 }] }, false, _, _,
       by (repeat' apply And.intro) <;> first | with_reducible exact Hub.accHeld_none (by decide) _ _ _ | rfl | decide⟩,
   ⟨State.reset, by (repeat' apply And.intro) <;> first | with_reducible exact Hub.accHeld_none (by decide) _ _ _ | rfl | decide⟩,
   ⟨State.reset, 2, by (repeat' apply And.intro) <;> first | with_reducible exact Hub.accHeld_none (by decide) _ _ _ | rfl | decide⟩,
   ⟨State.reset, false, [0, 0, 0, 0, 7, 0, 0, 0], 7, by (repeat' apply And.intro) <;> first | rfl | decide⟩,
   ⟨State.reset, false, [1, 2], by (repeat' apply And.intro) <;> first | rfl | decide⟩,
   ⟨onReset fun h => (h.modRing 2 fun g => { g with cmds := List.replicate 8 { opcode := 0x0104, tag := 1 } }), false,
       by (repeat' apply And.intro) <;> first | rfl | decide⟩,
   ⟨State.reset, by (repeat' apply And.intro) <;> first | rfl | decide⟩,
   ⟨State.reset, false, by (repeat' apply And.intro) <;> first | rfl | decide⟩,
   ⟨onReset fun h => (h.modRing 2 fun g => { g with resps := [{ opcode := 0x0104, tag := 7, seq := 0, payload := [] }] }), false, 1, { opcode := 0x0104, tag := 7, seq := 0, payload := [] }, [],
       by (repeat' apply And.intro) <;> first | rfl | decide⟩,
   ⟨onReset fun h => (h.modRing 2 fun g => { g with resps := [{ opcode := 0x0104, tag := 7, seq := 0, payload := [] }] }), false, _, _,
       by (repeat' apply And.intro) <;> first | rfl | decide⟩,
   ⟨onReset fun h => (h.modRing 2 fun g => { g with asmOpen := true, asm := [1] }), false,
       by (repeat' apply And.intro) <;> first | rfl | decide⟩⟩

theorem test_witness_RingService :
    (∃ (s : State), s.works domBus ∧ s.hub.serving = false) ∧
    (∃ (s : State) (r : RingIx), s.works domBus ∧ s.hub.serving = true ∧ s.hub.leastServed [1, 3] = some r) ∧
    (∃ (s : State) (r : RingIx), s.works domBus ∧ s.hub.serving = true ∧ s.hub.leastServed [1, 3] = none ∧ s.hub.leastServed [4] = none ∧
      s.hub.leastServed [0, 2] = some r) ∧
    (∃ (s : State) (x : _) (o : _), s.works domBus ∧ s.hub.serving = true ∧ s.hub.mbx.jobs[(0 : Fin 8)] = some x ∧ x.done = some o ∧
      x.drop = false ∧ s.hub.respFree x.ring = true) ∧
    (∃ (s : State) (job : Fin 8) (x : _) (f : _), s.works domBus ∧ s.hub.mbx.jobs[job] = some x ∧ x.fwd = some f ∧ x.done = none) ∧
    (∃ (s : State) (m : Master) (r : RingIx), s.takes m (0x7C014 + 8 * r.val) false) :=
  ⟨⟨State.reset, by (repeat' apply And.intro) <;> first | rfl | decide⟩,
   ⟨onReset fun h => (h.modRing 1 fun g => { g with cmds := [{ opcode := 0x0104, tag := 1 }] }).modMbx fun x => { x with umuriUp := true }, 1,
       by (repeat' apply And.intro) <;> first | rfl | decide⟩,
   ⟨onReset fun h => (h.modRing 2 fun g => { g with cmds := [{ opcode := 0x0104, tag := 1 }] }).modMbx fun x => { x with umuriUp := true }, 2,
       by (repeat' apply And.intro) <;> first | rfl | decide⟩,
   ⟨onReset fun h => (h.modJob 0 fun _ => some { ring := 0, opcode := 0x0B01, tag := 7, done := some { status := 0 } }).modMbx fun x => { x with umuriUp := true }, _, _,
       by (repeat' apply And.intro) <;> first | rfl | decide⟩,
   ⟨onReset fun h => h.modJob 2 fun _ => some { ring := 0, opcode := 0x0E02, tag := 7, fwd := some { worker := 5, tag := 7 } }, 2, _, _,
       by (repeat' apply And.intro) <;> first | rfl | decide⟩,
   ⟨State.reset, 1, 0, by (repeat' apply And.intro) <;> first | with_reducible exact Hub.accHeld_none (by decide) _ _ _ | rfl | decide⟩⟩

theorem test_witness_EightSlots :
    (∃ (h : Hub) (k : RingIx), (h.ring k).cmds.length ≤ 8) ∧
    (∃ (h : Hub) (r : RingIx) (k : RingIx), (h.ring k).cmds.length ≤ 8 ∧ ¬ h.cmdFull r) :=
  ⟨⟨Hub.reset, 0, by (repeat' apply And.intro) <;> first | rfl | decide⟩,
   ⟨Hub.reset, 0, 0, by (repeat' apply And.intro) <;> first | rfl | decide⟩⟩

set_option maxRecDepth 20000 in
theorem test_witness_OpcodesToGate :
    ∀ op ∈ [0x0100, 0x0101, 0x0103, 0x0104, 0x0105, 0x0200, 0x0201, 0x0202, 0x0203, 0x0300, 0x0301, 0x0400, 0x0401,
    0x0500, 0x0501, 0x0502, 0x0503, 0x0504, 0x0505, 0x0506, 0x0507, 0x0508, 0x0509, 0x0600, 0x0601, 0x0602, 0x0700, 0x0701, 0x0702,
    0x0800, 0x0801, 0x0802, 0x0803, 0x0804, 0x0805, 0x0806, 0x0900, 0x0901, 0x0902, 0x0903],
    serving.startsOn 0 op 7 [] := by
  intro op h
  refine startsOn_serving ?_ rfl
  revert op
  decide

theorem test_witness_OpcodesFromSec :
    ∀ op ∈ [0x0A00, 0x0A01, 0x0A02, 0x0A03, 0x0A04, 0x0A05, 0x0A06, 0x0A07, 0x0A08, 0x0A09, 0x0A0A, 0x0A0B, 0x0A0C, 0x0B00,
    0x0B01, 0x0B02, 0x0C00, 0x0C01, 0x0C02, 0x0D00, 0x0D01, 0x0D02, 0x0D03, 0x0D04, 0x0D05, 0x0E00, 0x0E01, 0x0E02, 0x0E03, 0x0E04,
    0x0E05],
    serving.startsOn 0 op 7 [] := by
  intro op h
  refine startsOn_serving ?_ rfl
  revert op
  decide

set_option maxRecDepth 20000 in
theorem test_witness_CommandAnswers :
    (∃ (c : OpCtx), c.p.length ≤ 236) ∧
    (∃ (c : OpCtx), 236 < c.p.length) ∧
    (∃ (c : OpCtx), c.p ≠ []) ∧
    (∃ (h : Hub) (c : OpCtx), opClass c.opcode = none ∧ h.mbx.bootRomOnly = false) ∧
    (∃ (h : Hub) (c : OpCtx) (cls : _), cmdClass c.opcode c.p = some cls ∧ h.mbx.bootRomOnly = false ∧
      (h.classes c.r).testBit cls = false) ∧
    (∃ (h : Hub) (c : OpCtx) (p : PodIx), c.p = [BitVec.ofNat 8 p.val] ∧ h.domOn (podDom p) = false) ∧
    (∃ (h : Hub) (c : OpCtx) (p : PodIx), c.p = [BitVec.ofNat 8 p.val, 1] ∧ h.glob.pending.getLsbD (h.groupOf (podBase p)) = true) ∧
    (∃ (c : OpCtx) (p : PodIx), c.p = [BitVec.ofNat 8 p.val]) ∧
    (∃ (c : OpCtx) (n : DomIx), c.p = [BitVec.ofNat 8 n.val, 1, 1]) :=
  ⟨⟨{ r := 0, m := 2, opcode := 0x0104, tag := 7, p := List.replicate 236 1, j := 0, reads := [] },
      by (repeat' apply And.intro) <;> first | rfl | decide⟩,
   ⟨{ r := 0, m := 2, opcode := 0x0104, tag := 7, p := List.replicate 237 1, j := 0, reads := [] },
       by (repeat' apply And.intro) <;> first | rfl | decide⟩,
   ⟨{ r := 0, m := 2, opcode := 0x0100, tag := 7, p := [1], j := 0, reads := [] }, by (repeat' apply And.intro) <;> first | rfl | decide⟩,
   ⟨Hub.reset, { r := 0, m := 2, opcode := 0x0F00, tag := 7, p := [], j := 0, reads := [] },
       by (repeat' apply And.intro) <;> first | rfl | decide⟩,
   ⟨Hub.reset, { r := 0, m := 2, opcode := 0x0A0B, tag := 7, p := [], j := 0, reads := [] }, _,
       by (repeat' apply And.intro) <;> first | rfl | decide⟩,
   ⟨(fun h : Hub => h.modDom (podDom 15) fun d => { d with state := .off }) Hub.reset, { r := 0, m := 2, opcode := 0x0500, tag := 7, p := [15], j := 0, reads := [] }, 15,
       by (repeat' apply And.intro) <;> first | rfl | decide⟩,
   ⟨(fun h : Hub => h.modGlob fun g => { g with pending := 0xFFFF }) Hub.reset, { r := 0, m := 2, opcode := 0x0502, tag := 7, p := [15, 1], j := 0, reads := [] }, 15,
       by (repeat' apply And.intro) <;> first | rfl | decide⟩,
   ⟨{ r := 0, m := 2, opcode := 0x0507, tag := 7, p := [15], j := 0, reads := [] }, 15,
       by (repeat' apply And.intro) <;> first | rfl | decide⟩,
   ⟨{ r := 0, m := 2, opcode := 0x0B00, tag := 7, p := [23, 1, 1], j := 0, reads := [] }, 23,
       by (repeat' apply And.intro) <;> first | rfl | decide⟩⟩

theorem test_witness_AccessCommands :
    (∃ (s : State) (m : Master), s.hub.held = .none ∧ s.hub.mayAccess m = false) ∧
    (∃ (s : State) (m : Master) (addr : Nat) (size : Fin 4), s.hub.held = .none ∧ s.hub.mayAccess m = true ∧ size.val ≠ 3 ∧
      addr < 0x500000 ∧ regInfo (addr % 0x100000 - addr % 0x100000 % 4) = none) ∧
    (∃ (s : State) (m : Master) (addr : Nat) (i : _), s.hub.held = .none ∧ regInfo addr = some i ∧ i.g = 0 ∧ addr < 0x100000 ∧
      addr % 4 = 0 ∧ ¬ (0x40000 ≤ addr ∧ addr < 0x48000) ∧ s.hub.mayAccess m = true ∧ s.hub.accHeld m addr 2 = false ∧
      s.hub.domDark (domOf addr) = true) ∧
    (∃ (s : State) (m : Master) (addr : Nat) (i : _), s.hub.held = .none ∧ regInfo addr = some i ∧ i.g = 0 ∧ addr < 0x100000 ∧
      addr % 4 = 0 ∧ ¬ (0x40000 ≤ addr ∧ addr < 0x48000) ∧ s.hub.mayAccess m = true ∧ s.hub.accHeld m addr 2 = false ∧
      s.hub.domDark (domOf addr) = false) ∧
    (∃ (s : State) (m : Master) (addr : Nat) (size : Fin 4), s.hub.held = .none ∧ s.hub.accHeld m addr size.val = true) ∧
    (∃ (s : State) (m : Master) (addr : Nat) (size : Fin 4) (x : ParityHit), s.hub.held = .none ∧ s.hub.mayAccess m = true ∧
      s.hub.accHeld m addr size.val = false ∧ addr < 0x500000 ∧ addr % 2 ^ size.val = 0 ∧ x.off ∈ readRegs addr size.val ∧
      s.hub.domDark (domOf x.off) = false) ∧
    (∃ (s : State) (m : Master) (mask : BitVec 16), s.hub.held = .none ∧ s.takes m 0x40 false ∧ mask ≠ 0 ∧ s.hub.nvm.inRestart = false ∧
      ((m = 5 ∨ s.hub.domOn domMp = true))) ∧
    (∃ (s : State) (m : Master), s.hub.held = .none ∧ s.takes m 0x40 false ∧ m ≠ 5 ∧
      ((s.hub.nvm.inRestart = true ∨ s.hub.domOn domMp = false))) ∧
    (∃ (s : State) (m : Master), s.hub.held = .none ∧ s.takes m 0x48 false) ∧
    (∃ (s : State) (m : Master), s.hub.held = .none ∧ s.takes m 0x4C008 false) ∧
    (∃ (s : State) (m : Master), s.hub.held = .none ∧ s.takes m 0x60028 true) ∧
    (∃ (s : State) (m : Master), s.hub.held = .none ∧ s.hub.mayAccess m = true ∧ m ≠ 0) :=
  ⟨⟨State.reset, 5, by (repeat' apply And.intro) <;> first | rfl | decide⟩,
   ⟨State.reset, 1, 0x4FFFFF, 0, by (repeat' apply And.intro) <;> first | rfl | decide⟩,
   ⟨onReset fun h => h.modDom 3 fun d => { d with state := .off }, 1, 0x13008, _,
       by (repeat' apply And.intro) <;> first | with_reducible exact Hub.accHeld_none (by decide) _ _ _ | rfl | decide⟩,
   ⟨State.reset, 1, 0x60, _,
       by (repeat' apply And.intro) <;> first | with_reducible exact Hub.accHeld_none (by decide) _ _ _ | rfl | decide⟩,
   ⟨onReset fun h => h.modDom 3 fun d => { d with state := .draining }, 1, 0x13008, 2,
       by (repeat' apply And.intro) <;> first | with_reducible exact Hub.accHeld_none (by decide) _ _ _ | rfl | decide⟩,
   ⟨State.reset, 0, 0x13009, 0, { off := 0x13008, active := 1, second := 0 },
       by (repeat' apply And.intro) <;> first | with_reducible exact Hub.accHeld_none (by decide) _ _ _ | rfl | decide⟩,
   ⟨State.reset, 0, 0xFFFF,
       by (repeat' apply And.intro) <;> first | with_reducible exact Hub.accHeld_none (by decide) _ _ _ | rfl | decide⟩,
   ⟨onReset fun h => (h.modDom domMp fun d => { d with state := .off }), 0,
       by (repeat' apply And.intro) <;> first | with_reducible exact Hub.accHeld_none (by decide) _ _ _ | rfl | decide⟩,
   ⟨State.reset, 1, by (repeat' apply And.intro) <;> first | with_reducible exact Hub.accHeld_none (by decide) _ _ _ | rfl | decide⟩,
   ⟨State.reset, 1, by (repeat' apply And.intro) <;> first | with_reducible exact Hub.accHeld_none (by decide) _ _ _ | rfl | decide⟩,
   ⟨onReset fun h => h.modSec fun c => { c with boot := .done }, 0,
       by (repeat' apply And.intro) <;> first | with_reducible exact Hub.accHeld_none (by decide) _ _ _ | rfl | decide⟩,
   ⟨State.reset, 1, by (repeat' apply And.intro) <;> first | rfl | decide⟩⟩

theorem test_witness_BufferedWrite :
    (∃ (s : State) (m : Master) (x : Nat) (i : RegInfo), x < 0x100000 ∧ x % 4 = 0 ∧ ¬ (0x40000 ≤ x ∧ x < 0x48000) ∧ regInfo x = some i ∧
      i.rwb ≠ 0 ∧ i.rw = 0 ∧ i.sc = 0 ∧ i.g = 0 ∧ s.takes m x false ∧ s.hub.lockedBits m x = 0 ∧ s.hub.mgrBits x = 0) :=
  ⟨State.reset, 1, 0x20044, { rwb := 0x00FFFFFF, rw := 0, sc := 0, g := 0, rc := 0, reset := 0x000641F4 },
      by (repeat' apply And.intro) <;> first | with_reducible exact Hub.accHeld_none (by decide) _ _ _ | rfl | decide⟩

theorem test_witness_MisalignedAccess :
    (∃ (s : State) (m : Master) (addr : Nat) (size : Fin 4), s.hub.held = .none ∧ s.hub.mayAccess m = true ∧ addr % 2 ^ size.val ≠ 0 ∧
      (size.val = 3 ∨ (addr < 0x500000 ∧ regInfo (addr % 0x100000 - addr % 0x100000 % 4) ≠ none))) :=
  ⟨State.reset, 1, 0x410001, 1, by (repeat' apply And.intro) <;> first | rfl | decide⟩

theorem test_witness_PeeksChangeNothing :
    (∃ (s : State) (m : Master) (addr : Nat) (size : Fin 4) (i : RegInfo), s.hub.held = .none ∧ s.hub.mayAccess m = true ∧
      0x100000 ≤ addr ∧ addr < 0x500000 ∧ addr % 2 ^ size.val = 0 ∧ regInfo (addr % 0x100000 - addr % 0x100000 % 4) = some i ∧
      (s.hub.secure m = true ∨ i.g = 0) ∧ (s.hub.secure m = true ∨ ¬ (0x40000 ≤ addr % 0x100000 ∧ addr % 0x100000 < 0x48000)) ∧
      s.hub.accHeld m addr size.val = false ∧ s.hub.domDark (domOf (addr % 0x100000 - addr % 0x100000 % 4)) = false ∧ size.val ≠ 3) ∧
    (∃ (s : State) (m : Master) (addr : Nat) (size : Fin 4) (i : RegInfo) (j : _), s.hub.held = .none ∧ s.hub.mayAccess m = true ∧
      0x100000 ≤ addr ∧ addr < 0x500000 ∧ addr % 2 ^ size.val = 0 ∧ regInfo (addr % 0x100000 - addr % 0x100000 % 4) = some i ∧
      (s.hub.secure m = true ∨ i.g = 0) ∧ (s.hub.secure m = true ∨ ¬ (0x40000 ≤ addr % 0x100000 ∧ addr % 0x100000 < 0x48000)) ∧
      s.hub.accHeld m addr size.val = false ∧ s.hub.domDark (domOf (addr % 0x100000 - addr % 0x100000 % 4)) = false ∧ size.val = 3 ∧
      regInfo (addr % 0x100000 + 4) = some j ∧ (s.hub.secure m = true ∨ j.g = 0) ∧ s.hub.domDark (domOf (addr % 0x100000 + 4)) = false) :=
  ⟨⟨State.reset, 1, 0x200060, 2, _,
      by (repeat' apply And.intro) <;> first | with_reducible exact Hub.accHeld_none (by decide) _ _ _ | rfl | decide⟩,
   ⟨State.reset, 1, 0x200060, 3, _, _,
       by (repeat' apply And.intro) <;> first | with_reducible exact Hub.accHeld_none (by decide) _ _ _ | rfl | decide⟩⟩

theorem test_witness_ResetCommands :
    (∃ (s : State) (c : _) (k : _), s.hub.held = .none ∧
      (c, k) ∈ [(Instr.rstNFall, ({ rstLow := true } : Held)), (Instr.dieOvertemperature, { overTemp := true }), (Instr.vddHuskLoss, { powerOn := true }), (Instr.powerOnReset, { rstLow := true })]) ∧
    (∃ (s : State), s.hub.held = { rstLow := true }) ∧
    (∃ (s : State), s.hub.held.rstLow = false) ∧
    (∃ (s : State), s.hub.held = { overTemp := true }) ∧
    (∃ (s : State) (rail : Fin 10), s.hub.held = .none ∧ s.hub.railMatters rail = true) ∧
    (∃ (s : State) (rail : Fin 10), s.hub.held = .none ∧ s.hub.railMatters rail = false) ∧
    (∃ (s : State) (res : BootResult), s.works domMp ∧ s.hub.sec.eraseAtBoot = false ∧ s.hub.sec.boot = .verify ∧ res.ok = true ∧
      isUe res.mram.read = false ∧ s.hub.sec.secVerMin ≤ res.secVer) ∧
    (∃ (s : State) (res : BootResult), s.works domMp ∧ s.hub.sec.eraseAtBoot = false ∧ s.hub.sec.boot = .verify ∧
      (res.ok = false ∨ isUe res.mram.read = true ∨ res.secVer < s.hub.sec.secVerMin)) ∧
    (∃ (s : State) (res : BootResult), s.works domMp ∧ s.hub.sec.eraseAtBoot = false ∧ s.hub.sec.boot = .second ∧
      (res.ok = false ∨ isUe res.mram.read = true ∨ res.secVer < s.hub.sec.secVerMin)) ∧
    (∃ (s : State), s.works domMp ∧ s.hub.sec.boot = .start ∧ s.hub.sec.coldBoot = false ∧ s.hub.csb.load.activating = false) :=
  ⟨⟨State.reset, .rstNFall, { rstLow := true }, by (repeat' apply And.intro) <;> first | rfl | decide⟩,
   ⟨onReset fun h => { h with held := { rstLow := true } }, by (repeat' apply And.intro) <;> first | rfl | decide⟩,
   ⟨State.reset, by (repeat' apply And.intro) <;> first | rfl | decide⟩,
   ⟨onReset fun h => { h with held := { overTemp := true } }, by (repeat' apply And.intro) <;> first | rfl | decide⟩,
   ⟨State.reset, 0, by (repeat' apply And.intro) <;> first | rfl | decide⟩,
   ⟨onReset fun h => h.modSeq fun q => { q with railOn := 0 }, 0, by (repeat' apply And.intro) <;> first | rfl | decide⟩,
   ⟨State.reset, { ok := true, version := 1, secVer := 1, badSlots := [] }, by (repeat' apply And.intro) <;> first | rfl | decide⟩,
   ⟨State.reset, { ok := false, version := 1, secVer := 1, badSlots := [] }, by exact ⟨⟨rfl, rfl⟩, rfl, rfl, Or.inl rfl⟩⟩,
   ⟨onReset fun h => h.modSec fun c => { c with boot := .second }, { ok := false, version := 1, secVer := 1, badSlots := [] },
       by exact ⟨⟨rfl, rfl⟩, rfl, rfl, Or.inl rfl⟩⟩,
   ⟨onReset fun h => h.modSec fun c => { c with boot := .start, coldBoot := false }, by (repeat' apply And.intro) <;> first | rfl | decide⟩⟩

theorem test_witness_ResetSafeKept :
    (∃ (s : State) (t : State), s.resetSafe ∧ step s = .next t) :=
  ⟨State.reset, onReset fun h => _, by exact ⟨fun h => absurd rfl h, rfl⟩⟩

theorem test_witness_StepRunsFront :
    (∃ (s : State) (c : Instr) (rest : List Instr), s.pending = c :: rest) :=
  ⟨{ State.reset with pending := [.snapshot 1] }, _, _, by (repeat' apply And.intro) <;> first | rfl | decide⟩

theorem test_witness_UpstreamEvents_general :
    (∃ (s : State) (u : UpIx), s.works (podDom (upPod u))) ∧
    (∃ (s : State) (u : UpIx), s.works (podDom (upPod u))) ∧
    (∃ (s : State), s.hub.held = .none) ∧
    (∃ (s : State) (m : Master), s.takes m 0x107C4 false) :=
  ⟨⟨State.reset, 0, by (repeat' apply And.intro) <;> first | rfl | decide⟩,
   ⟨State.reset, 0, by (repeat' apply And.intro) <;> first | rfl | decide⟩,
   ⟨State.reset, by (repeat' apply And.intro) <;> first | rfl | decide⟩,
   ⟨State.reset, 1, by (repeat' apply And.intro) <;> first | with_reducible exact Hub.accHeld_none (by decide) _ _ _ | rfl | decide⟩⟩

theorem test_witness_ConnectionTimersAndCommands_general :
    (∃ (s : State) (p : PodIx), s.works (podDom p)) ∧
    (∃ (s : State) (m : Master) (p : PodIx), s.takes m (podBase p) false) :=
  ⟨⟨State.reset, 3, by (repeat' apply And.intro) <;> first | rfl | decide⟩,
   ⟨State.reset, 1, 3, by (repeat' apply And.intro) <;> first | with_reducible exact Hub.accHeld_none (by decide) _ _ _ | rfl | decide⟩⟩

theorem test_witness_AttachEvents_general :
    (∃ (s : State) (p : PodIx), s.works (podDom p)) ∧
    (∃ (s : State) (p : PodIx), s.works (podDom p)) ∧
    (∃ (s : State) (p : PodIx), s.works (podDom p)) ∧
    (∃ (s : State) (p : PodIx), s.works (podDom p)) ∧
    (∃ (s : State) (p : PodIx), s.works (podDom p)) ∧
    (∃ (s : State) (p : PodIx), s.works (podDom p)) :=
  ⟨⟨State.reset, 3, by (repeat' apply And.intro) <;> first | rfl | decide⟩,
   ⟨State.reset, 3, by (repeat' apply And.intro) <;> first | rfl | decide⟩,
   ⟨State.reset, 3, by (repeat' apply And.intro) <;> first | rfl | decide⟩,
   ⟨State.reset, 3, by (repeat' apply And.intro) <;> first | rfl | decide⟩,
   ⟨State.reset, 3, by (repeat' apply And.intro) <;> first | rfl | decide⟩,
   ⟨State.reset, 3, by (repeat' apply And.intro) <;> first | rfl | decide⟩⟩

theorem test_witness_HoldAndSense_general :
    (∃ (s : State) (x : PathIx), s.works (pathDom x)) ∧
    (∃ (s : State), s.hub.held ≠ .none) ∧
    (∃ (s : State) (p : PodIx), s.works (podDom p)) ∧
    (∃ (s : State) (p : PodIx), s.works (podDom p)) ∧
    (∃ (s : State), s.hub.held = .none) :=
  ⟨⟨State.reset, 17, by (repeat' apply And.intro) <;> first | rfl | decide⟩,
   ⟨onReset fun h => { h with held := { overTemp := true } }, by (repeat' apply And.intro) <;> first | rfl | decide⟩,
   ⟨State.reset, 3, by (repeat' apply And.intro) <;> first | rfl | decide⟩,
   ⟨State.reset, 3, by (repeat' apply And.intro) <;> first | rfl | decide⟩,
   ⟨State.reset, by (repeat' apply And.intro) <;> first | rfl | decide⟩⟩

theorem test_witness_PartnerQuestions_general :
    (∃ (s : State) (p : PodIx), s.hears p) ∧
    (∃ (s : State) (p : PodIx), s.hears p) ∧
    (∃ (s : State) (p : PodIx), s.hears p) :=
  ⟨⟨onReset fun h => (h.modTc 3 fun t => { t with state := .attachedSrc }).modPde 3 fun t => { t with state := .ready }, 3,
      by (repeat' apply And.intro) <;> first | rfl | decide⟩,
   ⟨onReset fun h => (h.modTc 3 fun t => { t with state := .attachedSrc }).modPde 3 fun t => { t with state := .ready }, 3,
       by (repeat' apply And.intro) <;> first | rfl | decide⟩,
   ⟨onReset fun h => (h.modTc 3 fun t => { t with state := .attachedSrc }).modPde 3 fun t => { t with state := .ready }, 3,
       by (repeat' apply And.intro) <;> first | rfl | decide⟩⟩

theorem test_witness_Negotiation_general :
    (∃ (s : State) (p : PodIx), s.hears p) ∧
    (∃ (s : State) (p : PodIx), s.hears p) :=
  ⟨⟨onReset fun h => (h.modTc 3 fun t => { t with state := .attachedSrc }).modPde 3 fun t => { t with state := .ready }, 3,
      by (repeat' apply And.intro) <;> first | rfl | decide⟩,
   ⟨onReset fun h => (h.modTc 3 fun t => { t with state := .attachedSrc }).modPde 3 fun t => { t with state := .ready }, 3,
       by (repeat' apply And.intro) <;> first | rfl | decide⟩⟩

theorem test_witness_PdTimers_general :
    (∃ (s : State) (p : PodIx), s.works (podDom p)) ∧
    (∃ (s : State) (p : PodIx), s.works (podDom p)) :=
  ⟨⟨State.reset, 3, by (repeat' apply And.intro) <;> first | rfl | decide⟩,
   ⟨State.reset, 3, by (repeat' apply And.intro) <;> first | rfl | decide⟩⟩

theorem test_witness_CableVconnProbe_general :
    (∃ (s : State) (p : PodIx), s.works (podDom p)) ∧
    (∃ (s : State) (p : PodIx), s.works (podDom p) ∧ (s.hub.pde p).state ≠ .disabled) ∧
    (∃ (s : State) (p : PodIx), s.works (podDom p) ∧ (s.hub.pde p).cable = .asked ∧ (s.hub.pde p).state ≠ .disabled) ∧
    (∃ (s : State) (p : PodIx), s.works (podDom p) ∧ (s.hub.pde p).probe ≠ .idle ∧ (s.hub.pde p).probe ≠ .ended ∧
      (s.hub.pde p).probeWaits = false) ∧
    (∃ (s : State) (p : PodIx), s.hears p) ∧
    (∃ (s : State) (p : PodIx), s.hears p) ∧
    (∃ (s : State) (p : PodIx), s.hears p) :=
  ⟨⟨State.reset, 3, by (repeat' apply And.intro) <;> first | rfl | decide⟩,
   ⟨onReset fun h => h.modPde 3 fun t => { t with state := .cableDisc }, 3, by (repeat' apply And.intro) <;> first | rfl | decide⟩,
   ⟨onReset fun h => h.modPde 3 fun t => { t with state := .cableDisc, cable := .asked }, 3,
       by (repeat' apply And.intro) <;> first | rfl | decide⟩,
   ⟨onReset fun h => h.modPde 3 fun t => { t with state := .vdmDisc, probe := .svids }, 3,
       by (repeat' apply And.intro) <;> first | rfl | decide⟩,
   ⟨onReset fun h => (h.modTc 3 fun t => { t with state := .attachedSrc }).modPde 3 fun t => { t with state := .ready }, 3,
       by (repeat' apply And.intro) <;> first | rfl | decide⟩,
   ⟨onReset fun h => (h.modTc 3 fun t => { t with state := .attachedSrc }).modPde 3 fun t => { t with state := .ready }, 3,
       by (repeat' apply And.intro) <;> first | rfl | decide⟩,
   ⟨onReset fun h => (h.modTc 3 fun t => { t with state := .attachedSrc }).modPde 3 fun t => { t with state := .ready }, 3,
       by (repeat' apply And.intro) <;> first | rfl | decide⟩⟩

theorem test_witness_PdCommands_general :
    (∃ (s : State) (m : Master) (p : PodIx), s.takes m (podBase p + 0x22C) false) ∧
    (∃ (s : State) (m : Master) (p : PodIx), s.takes m (podBase p + 0x800) false) ∧
    (∃ (s : State), s.hub.held = .none) :=
  ⟨⟨State.reset, 1, 3, by (repeat' apply And.intro) <;> first | with_reducible exact Hub.accHeld_none (by decide) _ _ _ | rfl | decide⟩,
   ⟨State.reset, 1, 3, by (repeat' apply And.intro) <;> first | with_reducible exact Hub.accHeld_none (by decide) _ _ _ | rfl | decide⟩,
   ⟨State.reset, by (repeat' apply And.intro) <;> first | rfl | decide⟩⟩

theorem test_witness_SequencerSteps_general :
    (∃ (s : State) (x : PathIx), s.works (pathDom x)) ∧
    (∃ (s : State) (x : PathIx), s.works (pathDom x)) ∧
    (∃ (s : State) (x : PathIx), s.works (pathDom x)) ∧
    (∃ (s : State) (x : PathIx), s.works (pathDom x)) :=
  ⟨⟨State.reset, 17, by (repeat' apply And.intro) <;> first | rfl | decide⟩,
   ⟨State.reset, 17, by (repeat' apply And.intro) <;> first | rfl | decide⟩,
   ⟨State.reset, 17, by (repeat' apply And.intro) <;> first | rfl | decide⟩,
   ⟨State.reset, 17, by (repeat' apply And.intro) <;> first | rfl | decide⟩⟩

theorem test_witness_Trips_general :
    (∃ (s : State) (x : PathIx), s.works (pathDom x)) :=
  ⟨State.reset, 17, by (repeat' apply And.intro) <;> first | rfl | decide⟩

theorem test_witness_PathCommands_general :
    (∃ (s : State) (m : Master) (x : PathIx), s.takes m (vbBase x + 0x1C) false) ∧
    (∃ (s : State), s.hub.held = .none) :=
  ⟨⟨State.reset, 1, 17, by (repeat' apply And.intro) <;> first | with_reducible exact Hub.accHeld_none (by decide) _ _ _ | rfl | decide⟩,
   ⟨State.reset, by (repeat' apply And.intro) <;> first | rfl | decide⟩⟩

theorem test_witness_BudgetCommands_general :
    (∃ (s : State), s.hub.held = .none) ∧
    (∃ (s : State), s.hub.held = .none) ∧
    (∃ (s : State), s.hub.held = .none) ∧
    (∃ (s : State), s.hub.held = .none) :=
  ⟨⟨State.reset, by (repeat' apply And.intro) <;> first | rfl | decide⟩,
   ⟨State.reset, by (repeat' apply And.intro) <;> first | rfl | decide⟩,
   ⟨State.reset, by (repeat' apply And.intro) <;> first | rfl | decide⟩,
   ⟨State.reset, by (repeat' apply And.intro) <;> first | rfl | decide⟩⟩

theorem test_witness_RegulatorLink_general :
    (∃ (s : State), s.hub.held = .none) ∧
    (∃ (s : State), s.hub.held = .none) ∧
    (∃ (s : State), s.hub.held = .none) ∧
    (∃ (s : State), s.hub.held = .none) ∧
    (∃ (s : State), s.hub.held = .none) :=
  ⟨⟨State.reset, by (repeat' apply And.intro) <;> first | rfl | decide⟩,
   ⟨State.reset, by (repeat' apply And.intro) <;> first | rfl | decide⟩,
   ⟨State.reset, by (repeat' apply And.intro) <;> first | rfl | decide⟩,
   ⟨State.reset, by (repeat' apply And.intro) <;> first | rfl | decide⟩,
   ⟨State.reset, by (repeat' apply And.intro) <;> first | rfl | decide⟩⟩

theorem test_witness_HostPackets_general :
    (∃ (s : State), s.forwards) ∧
    (∃ (s : State), s.forwards) ∧
    (∃ (s : State), s.forwards) ∧
    (∃ (s : State), s.forwards) :=
  ⟨⟨State.reset, by (repeat' apply And.intro) <;> first | rfl | decide⟩,
   ⟨State.reset, by (repeat' apply And.intro) <;> first | rfl | decide⟩,
   ⟨State.reset, by (repeat' apply And.intro) <;> first | rfl | decide⟩,
   ⟨State.reset, by (repeat' apply And.intro) <;> first | rfl | decide⟩⟩

theorem test_witness_DevicePackets_general :
    (∃ (s : State), s.forwards) ∧
    (∃ (s : State), s.forwards) ∧
    (∃ (s : State), s.forwards) :=
  ⟨⟨State.reset, by (repeat' apply And.intro) <;> first | rfl | decide⟩,
   ⟨State.reset, by (repeat' apply And.intro) <;> first | rfl | decide⟩,
   ⟨State.reset, by (repeat' apply And.intro) <;> first | rfl | decide⟩⟩

theorem test_witness_UpstreamService_general :
    (∃ (s : State), s.forwards) ∧
    (∃ (s : State), s.forwards) ∧
    (∃ (s : State), s.forwards) ∧
    (∃ (s : State), s.forwards) ∧
    (∃ (s : State), s.forwards) ∧
    (∃ (s : State), s.forwards) :=
  ⟨⟨State.reset, by (repeat' apply And.intro) <;> first | rfl | decide⟩,
   ⟨State.reset, by (repeat' apply And.intro) <;> first | rfl | decide⟩,
   ⟨State.reset, by (repeat' apply And.intro) <;> first | rfl | decide⟩,
   ⟨State.reset, by (repeat' apply And.intro) <;> first | rfl | decide⟩,
   ⟨State.reset, by (repeat' apply And.intro) <;> first | rfl | decide⟩,
   ⟨State.reset, by (repeat' apply And.intro) <;> first | rfl | decide⟩⟩

theorem test_witness_TransactionTranslators_general :
    (∃ (s : State), s.forwards) ∧
    (∃ (s : State), s.forwards) ∧
    (∃ (s : State), s.forwards) ∧
    (∃ (s : State), s.forwards) :=
  ⟨⟨State.reset, by (repeat' apply And.intro) <;> first | rfl | decide⟩,
   ⟨State.reset, by (repeat' apply And.intro) <;> first | rfl | decide⟩,
   ⟨State.reset, by (repeat' apply And.intro) <;> first | rfl | decide⟩,
   ⟨State.reset, by (repeat' apply And.intro) <;> first | rfl | decide⟩⟩

theorem test_witness_PortRequests_general :
    (∃ (s : State) (p : PodIx), s.works (podDom p)) ∧
    (∃ (s : State) (p : PodIx), s.works (podDom p)) ∧
    (∃ (s : State), s.forwards) ∧
    (∃ (s : State), s.forwards) ∧
    (∃ (s : State), s.forwards) :=
  ⟨⟨State.reset, 3, by (repeat' apply And.intro) <;> first | rfl | decide⟩,
   ⟨State.reset, 3, by (repeat' apply And.intro) <;> first | rfl | decide⟩,
   ⟨State.reset, by (repeat' apply And.intro) <;> first | rfl | decide⟩,
   ⟨State.reset, by (repeat' apply And.intro) <;> first | rfl | decide⟩,
   ⟨State.reset, by (repeat' apply And.intro) <;> first | rfl | decide⟩⟩

theorem test_witness_LinkPowerAndSnoop_general :
    (∃ (s : State) (p : PodIx), s.works (podDom p)) ∧
    (∃ (s : State) (p : PodIx), s.works (podDom p)) ∧
    (∃ (s : State) (p : PodIx), s.works (podDom p)) ∧
    (∃ (s : State), s.forwards) ∧
    (∃ (s : State), s.forwards) :=
  ⟨⟨State.reset, 3, by (repeat' apply And.intro) <;> first | rfl | decide⟩,
   ⟨State.reset, 3, by (repeat' apply And.intro) <;> first | rfl | decide⟩,
   ⟨State.reset, 3, by (repeat' apply And.intro) <;> first | rfl | decide⟩,
   ⟨State.reset, by (repeat' apply And.intro) <;> first | rfl | decide⟩,
   ⟨State.reset, by (repeat' apply And.intro) <;> first | rfl | decide⟩⟩

theorem test_witness_PortPowerRequests_general :
    (∃ (s : State), s.forwards) :=
  ⟨State.reset, by (repeat' apply And.intro) <;> first | rfl | decide⟩

theorem test_witness_MapAndPacing_general :
    (∃ (s : State) (m : Master) (bankB : Bool) (idx : Fin 4064), s.hub.held = .none ∧ s.hub.accHeld m (mapOff bankB idx.val) 2 = false) ∧
    (∃ (s : State), s.forwards) ∧
    (∃ (s : State), s.forwards) ∧
    (∃ (s : State), s.forwards) :=
  ⟨⟨State.reset, 1, false, 2,
      by (repeat' apply And.intro) <;> first | with_reducible exact Hub.accHeld_none (by decide) _ _ _ | rfl | decide⟩,
   ⟨State.reset, by (repeat' apply And.intro) <;> first | rfl | decide⟩,
   ⟨State.reset, by (repeat' apply And.intro) <;> first | rfl | decide⟩,
   ⟨State.reset, by (repeat' apply And.intro) <;> first | rfl | decide⟩⟩

theorem test_witness_TimeAndGates_general :
    (∃ (s : State), s.forwards) ∧
    (∃ (s : State), s.forwards) ∧
    (∃ (s : State), s.forwards) ∧
    (∃ (s : State) (m : Master) (d : DirIx), s.takes m (0x48010 + 0x40 * d.val) false) :=
  ⟨⟨State.reset, by (repeat' apply And.intro) <;> first | rfl | decide⟩,
   ⟨State.reset, by (repeat' apply And.intro) <;> first | rfl | decide⟩,
   ⟨State.reset, by (repeat' apply And.intro) <;> first | rfl | decide⟩,
   ⟨State.reset, 1, 0, by (repeat' apply And.intro) <;> first | with_reducible exact Hub.accHeld_none (by decide) _ _ _ | rfl | decide⟩⟩

theorem test_witness_WorkerFrames_general :
    (∃ (s : State) (p : PodIx), s.frameAt p) ∧
    (∃ (s : State) (p : PodIx), s.frameAt p) ∧
    (∃ (s : State) (p : PodIx), s.frameAt p) ∧
    (∃ (s : State) (p : PodIx), s.frameAt p) ∧
    (∃ (s : State) (p : PodIx) (hd : CsbHdr), s.frameAt p ∧ (s.hub.clink p).inOrder hd.seq = true) ∧
    (∃ (s : State) (p : PodIx) (hd : CsbHdr), s.frameAt p ∧ (s.hub.clink p).inOrder hd.seq = true) ∧
    (∃ (s : State) (p : PodIx) (hd : CsbHdr), s.frameAt p ∧ (s.hub.clink p).inOrder hd.seq = true) ∧
    (∃ (s : State) (p : PodIx) (hd : CsbHdr), s.frameAt p ∧ (s.hub.clink p).inOrder hd.seq = true) ∧
    (∃ (s : State) (p : PodIx) (hd : CsbHdr), s.frameAt p ∧ (s.hub.clink p).inOrder hd.seq = true) ∧
    (∃ (s : State) (p : PodIx) (hd : CsbHdr), s.frameAt p ∧ (s.hub.clink p).inOrder hd.seq = true ∧ (s.hub.clink p).isParent = false) :=
  ⟨⟨onReset fun h => (h.modCsb fun c => { c with joined := true, myId := 5 }).modClink 0 fun l => { l with state := 1 }, 0,
      by (repeat' apply And.intro) <;> first | rfl | decide⟩,
   ⟨onReset fun h => (h.modCsb fun c => { c with joined := true, myId := 5 }).modClink 0 fun l => { l with state := 1 }, 0,
       by (repeat' apply And.intro) <;> first | rfl | decide⟩,
   ⟨onReset fun h => (h.modCsb fun c => { c with joined := true, myId := 5 }).modClink 0 fun l => { l with state := 1 }, 0,
       by (repeat' apply And.intro) <;> first | rfl | decide⟩,
   ⟨onReset fun h => (h.modCsb fun c => { c with joined := true, myId := 5 }).modClink 0 fun l => { l with state := 1 }, 0,
       by (repeat' apply And.intro) <;> first | rfl | decide⟩,
   ⟨onReset fun h => (h.modCsb fun c => { c with joined := true, myId := 5 }).modClink 0 fun l => { l with state := 1 }, 0, { dst := 5, src := 0, turn := false, ackValid := false, seq := 1, ack := 0 },
       by (repeat' apply And.intro) <;> first | rfl | decide⟩,
   ⟨onReset fun h => (h.modCsb fun c => { c with joined := true, myId := 5 }).modClink 0 fun l => { l with state := 1 }, 0, { dst := 5, src := 0, turn := false, ackValid := false, seq := 1, ack := 0 },
       by (repeat' apply And.intro) <;> first | rfl | decide⟩,
   ⟨onReset fun h => (h.modCsb fun c => { c with joined := true, myId := 5 }).modClink 0 fun l => { l with state := 1 }, 0, { dst := 5, src := 0, turn := false, ackValid := false, seq := 1, ack := 0 },
       by (repeat' apply And.intro) <;> first | rfl | decide⟩,
   ⟨onReset fun h => (h.modCsb fun c => { c with joined := true, myId := 5 }).modClink 0 fun l => { l with state := 1 }, 0, { dst := 5, src := 0, turn := false, ackValid := false, seq := 1, ack := 0 },
       by (repeat' apply And.intro) <;> first | rfl | decide⟩,
   ⟨onReset fun h => (h.modCsb fun c => { c with joined := true, myId := 5 }).modClink 0 fun l => { l with state := 1 }, 0, { dst := 5, src := 0, turn := false, ackValid := false, seq := 1, ack := 0 },
       by (repeat' apply And.intro) <;> first | rfl | decide⟩,
   ⟨onReset fun h => (h.modCsb fun c => { c with joined := true, myId := 5 }).modClink 0 fun l => { l with state := 1 }, 0, { dst := 5, src := 0, turn := false, ackValid := false, seq := 1, ack := 0 },
       by (repeat' apply And.intro) <;> first | rfl | decide⟩⟩

theorem test_witness_ManagerFrames_general :
    (∃ (s : State) (p : PodIx), s.frameAt p) ∧
    (∃ (s : State) (p : PodIx) (hd : CsbHdr), s.frameAt p ∧ (s.hub.clink p).inOrder hd.seq = true) ∧
    (∃ (s : State) (p : PodIx) (hd : CsbHdr), s.frameAt p ∧ (s.hub.clink p).inOrder hd.seq = true) ∧
    (∃ (s : State) (p : PodIx) (hd : CsbHdr), s.frameAt p ∧ (s.hub.clink p).inOrder hd.seq = true) ∧
    (∃ (s : State) (p : PodIx) (hd : CsbHdr), s.frameAt p ∧ (s.hub.clink p).inOrder hd.seq = true) ∧
    (∃ (s : State) (p : PodIx) (hd : CsbHdr), s.frameAt p ∧ (s.hub.clink p).inOrder hd.seq = true) ∧
    (∃ (s : State) (p : PodIx) (hd : CsbHdr), s.frameAt p ∧ (s.hub.clink p).inOrder hd.seq = true) ∧
    (∃ (s : State) (p : PodIx) (hd : CsbHdr), s.frameAt p ∧ (s.hub.clink p).inOrder hd.seq = true ∧ (s.hub.clink p).isParent = true) :=
  ⟨⟨onReset fun h => ((h.modCsb fun c => { c with role := 2 }).modClink 3 fun l => { l with state := 1, isParent := true }), 3,
      by (repeat' apply And.intro) <;> first | rfl | decide⟩,
   ⟨onReset fun h => ((h.modCsb fun c => { c with role := 2 }).modClink 3 fun l => { l with state := 1, isParent := true }), 3, { dst := 0, src := 5, turn := false, ackValid := false, seq := 1, ack := 0 },
       by (repeat' apply And.intro) <;> first | rfl | decide⟩,
   ⟨onReset fun h => ((h.modCsb fun c => { c with role := 2 }).modClink 3 fun l => { l with state := 1, isParent := true }), 3, { dst := 0, src := 5, turn := false, ackValid := false, seq := 1, ack := 0 },
       by (repeat' apply And.intro) <;> first | rfl | decide⟩,
   ⟨onReset fun h => ((h.modCsb fun c => { c with role := 2 }).modClink 3 fun l => { l with state := 1, isParent := true }), 3, { dst := 0, src := 5, turn := false, ackValid := false, seq := 1, ack := 0 },
       by (repeat' apply And.intro) <;> first | rfl | decide⟩,
   ⟨onReset fun h => ((h.modCsb fun c => { c with role := 2 }).modClink 3 fun l => { l with state := 1, isParent := true }), 3, { dst := 0, src := 5, turn := false, ackValid := false, seq := 1, ack := 0 },
       by (repeat' apply And.intro) <;> first | rfl | decide⟩,
   ⟨onReset fun h => ((h.modCsb fun c => { c with role := 2 }).modClink 3 fun l => { l with state := 1, isParent := true }), 3, { dst := 0, src := 5, turn := false, ackValid := false, seq := 1, ack := 0 },
       by (repeat' apply And.intro) <;> first | rfl | decide⟩,
   ⟨onReset fun h => ((h.modCsb fun c => { c with role := 2 }).modClink 3 fun l => { l with state := 1, isParent := true }), 3, { dst := 0, src := 5, turn := false, ackValid := false, seq := 1, ack := 0 },
       by (repeat' apply And.intro) <;> first | rfl | decide⟩,
   ⟨onReset fun h => ((h.modCsb fun c => { c with role := 2 }).modClink 3 fun l => { l with state := 1, isParent := true }), 3, { dst := 0, src := 5, turn := false, ackValid := false, seq := 1, ack := 0 },
       by (repeat' apply And.intro) <;> first | rfl | decide⟩⟩

theorem test_witness_CascadeTimers_general :
    (∃ (s : State), s.works domCsb) ∧
    (∃ (s : State), s.works domCsb) :=
  ⟨⟨State.reset, by (repeat' apply And.intro) <;> first | rfl | decide⟩,
   ⟨State.reset, by (repeat' apply And.intro) <;> first | rfl | decide⟩⟩

theorem test_witness_SecurityCommands_general :
    (∃ (s : State) (p : PodIx), s.hears p ∧ isD p = true) ∧
    (∃ (s : State) (p : PodIx) (f : PdFrame) (u : _), s.hears p ∧ podUp p = some u ∧ ((s.hub.quiet.pdRx p f false).pde p).r3 = true ∧
      (s.hub.quiet.pdRx p f false).domRuns domSec = true) ∧
    (∃ (s : State) (p : PodIx) (f : PdFrame) (u : _), s.hears p ∧ podUp p = some u ∧ ((s.hub.quiet.pdRx p f false).pde p).r3 = false) ∧
    (∃ (s : State) (p : PodIx) (u : _), s.hears p ∧ podUp p = some u) ∧
    (∃ (s : State), s.works domSec) ∧
    (∃ (s : State), s.works domSec) ∧
    (∃ (s : State) (p : PodIx), s.works (podDom p)) ∧
    (∃ (s : State) (m : Master) (p : PodIx), s.takes m (podBase p + 0xC0C) true) ∧
    (∃ (s : State), s.hub.held = .none) ∧
    (∃ (s : State), s.works domSec ∧ s.hub.upstreamUp = true ∧ s.hub.sched.credit = none) ∧
    (∃ (s : State), s.works domSec ∧ (s.hub.upstreamUp = false ∨ s.hub.sched.credit ≠ none)) :=
  ⟨⟨onReset fun h => (h.modTc 3 fun t => { t with state := .attachedSrc }).modPde 3 fun t => { t with state := .ready }, 3,
      by (repeat' apply And.intro) <;> first | rfl | decide⟩,
   ⟨onReset fun h => (h.modTc 0 fun t => { t with state := .attachedSnk }).modPde 0 fun t => { t with state := .ready, revKnown := true, rev3 := true }, 0, { header := 0, words := [] }, 0,
       by (repeat' apply And.intro) <;> first | rfl | decide⟩,
   ⟨onReset fun h => (h.modTc 0 fun t => { t with state := .attachedSnk }).modPde 0 fun t => { t with state := .ready, revKnown := true, rev3 := false }, 0, { header := 0, words := [] }, 0,
       by (repeat' apply And.intro) <;> first | rfl | decide⟩,
   ⟨onReset fun h => (h.modTc 0 fun t => { t with state := .attachedSnk }).modPde 0 fun t => { t with state := .ready, revKnown := true, rev3 := true }, 0, 0,
       by (repeat' apply And.intro) <;> first | rfl | decide⟩,
   ⟨State.reset, by (repeat' apply And.intro) <;> first | rfl | decide⟩,
   ⟨State.reset, by (repeat' apply And.intro) <;> first | rfl | decide⟩,
   ⟨State.reset, 3, by (repeat' apply And.intro) <;> first | rfl | decide⟩,
   ⟨onReset fun h => h.modSec fun c => { c with boot := .done }, 0, 3,
       by (repeat' apply And.intro) <;> first | with_reducible exact Hub.accHeld_none (by decide) _ _ _ | rfl | decide⟩,
   ⟨State.reset, by (repeat' apply And.intro) <;> first | rfl | decide⟩,
   ⟨onReset fun h => ((h.modUpsel fun u => { u with active := some 0 }).modLink 0 fun l => { l with ltssm := .u0, speed := .gen2x1 }),
       by (repeat' apply And.intro) <;> first | rfl | decide⟩,
   ⟨State.reset, by (repeat' apply And.intro) <;> first | rfl | decide⟩⟩

theorem test_witness_ScrubAndParity_general :
    (∃ (s : State), s.hub.held = .none) ∧
    (∃ (s : State), s.hub.held = .none) ∧
    (∃ (s : State), s.works domNvm) :=
  ⟨⟨State.reset, by (repeat' apply And.intro) <;> first | rfl | decide⟩,
   ⟨State.reset, by (repeat' apply And.intro) <;> first | rfl | decide⟩,
   ⟨State.reset, by (repeat' apply And.intro) <;> first | rfl | decide⟩⟩

theorem test_witness_JournalStores_general :
    (∃ (s : State), s.hub.held = .none) ∧
    (∃ (s : State), s.hub.held = .none) ∧
    (∃ (s : State), s.works domNvm) ∧
    (∃ (s : State) (m : Master), s.takes m 0x78048 false) :=
  ⟨⟨State.reset, by (repeat' apply And.intro) <;> first | rfl | decide⟩,
   ⟨State.reset, by (repeat' apply And.intro) <;> first | rfl | decide⟩,
   ⟨State.reset, by (repeat' apply And.intro) <;> first | rfl | decide⟩,
   ⟨State.reset, 1, by (repeat' apply And.intro) <;> first | with_reducible exact Hub.accHeld_none (by decide) _ _ _ | rfl | decide⟩⟩

theorem test_witness_RestartAndRollback_general :
    (∃ (s : State), s.works domMp) ∧
    (∃ (s : State), s.works domMp) ∧
    (∃ (s : State) (m : Master), s.takes m 0x78088 true) :=
  ⟨⟨State.reset, by (repeat' apply And.intro) <;> first | rfl | decide⟩,
   ⟨State.reset, by (repeat' apply And.intro) <;> first | rfl | decide⟩,
   ⟨onReset fun h => h.modSec fun c => { c with boot := .done }, 0,
       by (repeat' apply And.intro) <;> first | with_reducible exact Hub.accHeld_none (by decide) _ _ _ | rfl | decide⟩⟩

theorem test_witness_EntrySteps_general :
    (∃ (s : State) (m : Master) (n : DomIx) (t : Fin 4), s.takes m (0x2100 + 0x10 * n.val) false ∧ t ≠ 3) ∧
    (∃ (s : State) (m : Master), s.takes m 0x2000 false) ∧
    (∃ (s : State), s.hub.held = .none) :=
  ⟨⟨State.reset, 1, 19, 2, by (repeat' apply And.intro) <;> first | with_reducible exact Hub.accHeld_none (by decide) _ _ _ | rfl | decide⟩,
   ⟨State.reset, 1, by (repeat' apply And.intro) <;> first | with_reducible exact Hub.accHeld_none (by decide) _ _ _ | rfl | decide⟩,
   ⟨State.reset, by (repeat' apply And.intro) <;> first | rfl | decide⟩⟩

theorem test_witness_WakesAndExits_general :
    (∃ (s : State) (m : Master), s.takes m 0x1018 false) ∧
    (∃ (s : State), s.hub.held = .none) ∧
    (∃ (s : State), s.hub.held = .none) ∧
    (∃ (s : State), s.hub.held = .none) ∧
    (∃ (s : State), s.hub.held = .none) ∧
    (∃ (s : State) (m : Master), s.takes m 0x1020 false) :=
  ⟨⟨State.reset, 1, by (repeat' apply And.intro) <;> first | with_reducible exact Hub.accHeld_none (by decide) _ _ _ | rfl | decide⟩,
   ⟨State.reset, by (repeat' apply And.intro) <;> first | rfl | decide⟩,
   ⟨State.reset, by (repeat' apply And.intro) <;> first | rfl | decide⟩,
   ⟨State.reset, by (repeat' apply And.intro) <;> first | rfl | decide⟩,
   ⟨State.reset, by (repeat' apply And.intro) <;> first | rfl | decide⟩,
   ⟨State.reset, 1, by (repeat' apply And.intro) <;> first | with_reducible exact Hub.accHeld_none (by decide) _ _ _ | rfl | decide⟩⟩

theorem test_witness_Clocks_general :
    (∃ (s : State) (m : Master), s.takes m 0x3004 false) ∧
    (∃ (s : State), s.hub.held = .none) ∧
    (∃ (s : State), s.hub.held = .none) :=
  ⟨⟨State.reset, 1, by (repeat' apply And.intro) <;> first | with_reducible exact Hub.accHeld_none (by decide) _ _ _ | rfl | decide⟩,
   ⟨State.reset, by (repeat' apply And.intro) <;> first | rfl | decide⟩,
   ⟨State.reset, by (repeat' apply And.intro) <;> first | rfl | decide⟩⟩

theorem test_witness_Transports_general :
    (∃ (s : State), s.works domBus) ∧
    (∃ (s : State), s.works domBus) ∧
    (∃ (s : State), s.works domBus) ∧
    (∃ (s : State) (r : RingIx) (tag : BitVec 16), s.works domBus ∧ s.hub.tagUsed r tag = false) ∧
    (∃ (s : State) (r : RingIx) (tag : BitVec 16), s.works domBus ∧ s.hub.tagUsed r tag = true) ∧
    (∃ (s : State), s.works domBus ∧ s.hub.seq.stretchNak = false) ∧
    (∃ (s : State) (urgent : Bool), s.works domBus ∧ s.hub.seq.stretchNak = false ∧ (s.hub.ring (smbRing urgent)).resps = []) ∧
    (∃ (s : State), s.works domBus ∧ s.hub.seq.stretchNak = true) ∧
    (∃ (s : State) (urgent : Bool), s.works domBus ∧ (s.hub.ring (smbRing urgent)).asmOpen = false) :=
  ⟨⟨State.reset, by (repeat' apply And.intro) <;> first | rfl | decide⟩,
   ⟨State.reset, by (repeat' apply And.intro) <;> first | rfl | decide⟩,
   ⟨State.reset, by (repeat' apply And.intro) <;> first | rfl | decide⟩,
   ⟨State.reset, 0, 7, by (repeat' apply And.intro) <;> first | rfl | decide⟩,
   ⟨onReset fun h => (h.modRing 0 fun g => { g with resps := [{ opcode := 0x0104, tag := 7, seq := 0, payload := [] }] }), 0, 7,
       by (repeat' apply And.intro) <;> first | rfl | decide⟩,
   ⟨State.reset, by (repeat' apply And.intro) <;> first | rfl | decide⟩,
   ⟨State.reset, false, by (repeat' apply And.intro) <;> first | rfl | decide⟩,
   ⟨onReset fun h => h.modSeq fun q => { q with stretchNak := true }, by (repeat' apply And.intro) <;> first | rfl | decide⟩,
   ⟨State.reset, false, by (repeat' apply And.intro) <;> first | rfl | decide⟩⟩

theorem test_witness_RingService_general :
    (∃ (s : State), s.works domBus) ∧
    (∃ (s : State) (m : Master) (r : RingIx), s.takes m (0x7C014 + 8 * r.val) false) ∧
    (∃ (s : State), s.works domBus ∧ s.hub.umuriRuns = true) ∧
    (∃ (s : State), s.works domBus ∧ s.hub.umuriRuns = false) ∧
    (∃ (s : State) (job : Fin 8), s.works domBus ∧ s.hub.mbx.jobs[job] = none) :=
  ⟨⟨State.reset, by (repeat' apply And.intro) <;> first | rfl | decide⟩,
   ⟨State.reset, 1, 0, by (repeat' apply And.intro) <;> first | with_reducible exact Hub.accHeld_none (by decide) _ _ _ | rfl | decide⟩,
   ⟨onReset fun h => h.modMbx fun x => { x with umuriUp := true }, by (repeat' apply And.intro) <;> first | rfl | decide⟩,
   ⟨State.reset, by (repeat' apply And.intro) <;> first | rfl | decide⟩,
   ⟨State.reset, 2, by (repeat' apply And.intro) <;> first | rfl | decide⟩⟩

theorem test_witness_OpcodesToGate_general :
    (∃ (s : State), s.works domBus) :=
  ⟨State.reset, by (repeat' apply And.intro) <;> first | rfl | decide⟩

theorem test_witness_OpcodesFromSec_general :
    (∃ (s : State), s.works domBus) :=
  ⟨State.reset, by (repeat' apply And.intro) <;> first | rfl | decide⟩

theorem test_witness_ResetCommands_general :
    (∃ (s : State), s.hub.held.overTemp = true) ∧
    (∃ (s : State), s.hub.held.overTemp = false) ∧
    (∃ (s : State), s.hub.held = .none) ∧
    (∃ (s : State), s.works domMp) ∧
    (∃ (s : State), s.works domMp) :=
  ⟨⟨onReset fun h => { h with held := { overTemp := true } }, by (repeat' apply And.intro) <;> first | rfl | decide⟩,
   ⟨State.reset, by (repeat' apply And.intro) <;> first | rfl | decide⟩,
   ⟨State.reset, by (repeat' apply And.intro) <;> first | rfl | decide⟩,
   ⟨State.reset, by (repeat' apply And.intro) <;> first | rfl | decide⟩,
   ⟨State.reset, by (repeat' apply And.intro) <;> first | rfl | decide⟩⟩

theorem test_witness_AccessCommands_general :
    (∃ (s : State), s.hub.held = .none) :=
  ⟨State.reset, by (repeat' apply And.intro) <;> first | rfl | decide⟩

end Sys2Proof.Machine
end

namespace Sys2Proof.Machine

/-! What one step is: the command at the front of the queue, or a tick. -/

/-- With a command at the front of the queue a step is that command's effect. -/
theorem step_cons {s : State} {c : Instr} {rest : List Instr} (hp : s.pending = c :: rest) :
    step s = exec c { s with pending := rest } := by
  simp only [step, hp]

/-- With no command waiting a step is one tick. -/
theorem step_nil {s : State} (hp : s.pending = []) : step s = .next s.idle := by
  simp only [step, hp]

/-- A command that does not act in reset changes the block through `State.put`; held in reset, the block it leaves is the one that
stood (R460, R463). -/
theorem exec_put {c : Instr} (hc : actsInReset c = false) (s : State) :
    ∃ h, exec c s = .next (s.put h) ∧ (s.hub.held ≠ .none → h = s.hub.quiet) := by
  cases c with
  | powerOnReset | rstNRise | rstNFall | dieOvertemperature | vddHuskLoss | overtemperatureRelease
  | vbusBelow0v8 => contradiction
  | _ => exact ⟨_, rfl, fun hs => if_neg hs⟩

/-- Settles O60: the queue's front decides what a step is. -/
theorem stepRunsFront : Obligations.StepRunsFront := by
  intro s c rest hp
  exact step_cons hp

/-! A device held in reset stays shut: through every command, and through every tick. -/

/-! #### The block as a reset holds it, and what acts on it there -/

/-- A condition that holds the device in reset finds it shut already, or shuts it (R463). -/
theorem Hub.holdReset_shut {h : Hub} (hs : h.held ≠ .none → h.shut) (f : Held → Held) : (h.holdReset f).shut := by
  unfold Hub.holdReset
  split
  · exact h.resetHold_shut _
  · next held => exact hs held

/-- The end of a condition leaves the device shut, unless it starts up (R461). -/
theorem Hub.release_shut {h : Hub} (hs : h.shut) (f : Held → Held) :
    (h.release f).held ≠ .none → (h.release f).shut := by
  unfold Hub.release
  dsimp only
  split
  · exact fun up => absurd rfl up
  · exact fun _ => hs

/-- RST_N rises (R465). -/
theorem Hub.rstRise_shut {h : Hub} (hs : h.held ≠ .none → h.shut) (r1 r0 ref : Bool) :
    (h.rstRise r1 r0 ref).held ≠ .none → (h.rstRise r1 r0 ref).shut := by
  unfold Hub.rstRise
  dsimp only
  split
  · next low =>
    have held : h.held ≠ .none := fun out => by rw [out] at low; contradiction
    refine Hub.release_shut ?_ _
    exact hs held
  · exact hs

/-- The die has cooled (R464). -/
theorem Hub.cooled_shut {h : Hub} (hs : h.held ≠ .none → h.shut) :
    let k := if h.held.overTemp then h.release fun x => { x with overTemp := false } else h
    k.held ≠ .none → k.shut := by
  dsimp only
  split
  · next hot =>
    have held : h.held ≠ .none := fun out => by rw [out] at hot; contradiction
    exact Hub.release_shut (hs held) _
  · exact hs

/-- The end of VBUS's fall turns no gate on (R133, R463). -/
theorem Hub.dischargeEnd_shut {h : Hub} (hs : h.shut) (x : PathIx) :
    (h.modVb x fun e => { e with low := true, dsch := false }).shut := by
  obtain ⟨paths, pods, umuri⟩ := hs
  refine ⟨fun y => ?_, pods, umuri⟩
  by_cases hy : x = y
  · subst hy
    simpa using paths x
  · simpa [Hub.modVb_vb_ne h _ hy] using paths y

/-! #### Commands -/

/-- A command that changes the block through `State.put` keeps what holds the device, so it need only leave a held block as it is. -/
theorem State.put_resetSafe {s : State} {h : Hub} (hs : s.resetSafe) (same : s.hub.held ≠ .none → h = s.hub.quiet) :
    (s.put h).resetSafe := by
  intro held
  rw [same held]
  exact hs held

/-- The commands that bring a reset, end one, or end VBUS's fall in it (R460 to R465). -/
theorem exec_resetSafe_of_actsInReset {c : Instr} (hc : actsInReset c = true) {s t : State} (hs : s.resetSafe)
    (ht : exec c s = .next t) : t.resetSafe := by
  have hold : ∀ f, (s.hub.quiet.holdReset f).shut := Hub.holdReset_shut hs
  cases c with
  | powerOnReset =>
    cases Host.Outcome.next.inj ht
    exact fun _ => hold fun k => { k with rstLow := true }
  | rstNFall | dieOvertemperature | vddHuskLoss =>
    cases Host.Outcome.next.inj ht
    exact fun _ => hold _
  | rstNRise r1 r0 ref =>
    cases Host.Outcome.next.inj ht
    exact Hub.rstRise_shut (h := s.hub.quiet) hs r1 r0 ref
  | overtemperatureRelease =>
    cases Host.Outcome.next.inj ht
    exact Hub.cooled_shut (h := s.hub.quiet) hs
  | vbusBelow0v8 x =>
    by_cases held : s.hub.held = .none
    · have out : exec (.vbusBelow0v8 x) s = onPath s x fun h => h.below0v8 x := if_pos held
      cases Host.Outcome.next.inj (out.symm.trans ht)
      exact State.put_resetSafe hs (absurd held)
    · have fall : exec (.vbusBelow0v8 x) s = performAlways s _ := if_neg held
      cases Host.Outcome.next.inj (fall.symm.trans ht)
      exact fun _ => Hub.dischargeEnd_shut (h := s.hub.quiet) (hs held) x
  | _ => contradiction

theorem exec_resetSafe {c : Instr} {s t : State} (hs : s.resetSafe) (ht : exec c s = .next t) : t.resetSafe := by
  cases hc : actsInReset c with
  | true => exact exec_resetSafe_of_actsInReset hc hs ht
  | false =>
    obtain ⟨h, hput, same⟩ := exec_put hc s
    cases hput.symm.trans ht
    exact State.put_resetSafe hs same

/-! #### Time -/

/-- A tick of a device held in reset is HUSK_TIME's alone (R233, R463). -/
theorem State.idle_resetSafe {s : State} (hs : s.resetSafe) : s.idle.resetSafe := by
  unfold State.idle
  split
  · next out => exact fun held => absurd out held
  · next held =>
    intro _
    simp only [State.tick, if_neg held]
    exact hs held

/-- Settles O59: a step is a command or a tick, and each keeps a held device shut. -/
theorem resetSafeKept : Obligations.ResetSafeKept := by
  intro s t hs ht
  cases hp : s.pending with
  | nil =>
    cases (step_nil hp).symm.trans ht
    exact State.idle_resetSafe hs
  | cons c rest => exact exec_resetSafe (s := { s with pending := rest }) hs ((step_cons hp).symm.trans ht)

/-! The write of SNAPSHOT reaches its register before the snapshot is taken: a parity fault held there ends. -/

/-! #### What the write does -/

/-- An access that no domain holds is carried out (R334, R336). -/
theorem Hub.busAccess_now {h : Hub} {a : BusAcc} (now : h.accHeld a.m a.addr a.size = false) : h.busAccess a = h.accNow a := by
  simp [Hub.busAccess, now]

/-- SNAPSHOT's register holds its command bit alone (R425). -/
theorem regInfo_snapshot : regInfo 0x48 = some { rwb := 0, rw := 0, sc := 1, g := 0, rc := 0, reset := 0 } := rfl

/-- The write ends the parity fault of the register, then takes the snapshot (R314, R418, R419). -/
theorem Hub.accNow_snapshot {h : Hub} {m : Master} (may : h.mayAccess m = true) (lit : h.domDark (domOf 0x48) = false) :
    h.accNow { m := m, addr := 0x48, size := 2, word := some 1 } = ((h.unspoil 0x48 1).parWritten 0x48 false).snapshot := by
  have lanes : laneMask 0x48 2 = 0xFFFFFFFF := rfl
  have bit0 : ((List.range 32).filter fun b => (1#32).getLsbD b) = [0] := by decide
  have unlocked : h.lockedBits m 0x48 = 0 := rfl
  simp [Hub.accNow, Hub.busWrite, Hub.busWrite32, regInfo_snapshot, Hub.regPut, may, lit, lanes, unlocked, Hub.storeFields,
    Hub.cmdBits, Hub.cmdAct, bit0, -BitVec.getLsbD_one]

theorem exec_snapshot {s : State} {m : Master} (takes : s.takes m 0x48 false) :
    exec (.snapshot m) s = .next (s.put ((s.hub.quiet.unspoil 0x48 1).parWritten 0x48 false).snapshot) := by
  obtain ⟨out, may, -, lit, now⟩ := takes
  calc exec (.snapshot m) s
      = .next (s.put (s.hub.quiet.busAccess { m := m, addr := 0x48, size := 2, word := some 1 })) :=
        perform_run out fun h => h.busAccess { m := m, addr := 0x48, size := 2, word := some 1 }
    _ = _ := by rw [Hub.busAccess_now (by exact now), Hub.accNow_snapshot (by exact may) (by exact lit)]

/-! #### A fault of SNAPSHOT's register, as the scanner leaves one -/

/-- The machine after a scan from reset that finds both copies of SNAPSHOT's register wrong (R312). -/
def snapshotFaulted : State := State.reset.put (State.reset.hub.quiet.parityScan [{ off := 0x48, active := 1, second := 1 }])

/-- One command from reset leads there. -/
theorem exec_parityScan_reset :
    exec (.parityScan [{ off := 0x48, active := 1, second := 1 }]) State.reset = .next snapshotFaulted := rfl

theorem snapshotFaulted_takes : snapshotFaulted.takes 1 0x48 false := ⟨rfl, rfl, nofun, rfl, rfl⟩

theorem snapshotFaulted_faults : snapshotFaulted.hub.nvm.faults ≠ [] := by decide

theorem snapshotFaulted_faults_end :
    ((snapshotFaulted.hub.quiet.unspoil 0x48 1).parWritten 0x48 false).snapshot.nvm.faults = [] := rfl

/-- Refutes O52: where a scan has found a parity fault of SNAPSHOT's register, the clause for SNAPSHOT keeps the fault, and the
write, which reaches the register, ends it (R314, R418). -/
theorem not_accessCommands : ¬ Obligations.AccessCommands := by
  rintro ⟨accesses, -⟩
  obtain ⟨-, -, -, -, -, -, -, snapshot, -⟩ := accesses snapshotFaulted 1 0 0 0 rfl
  have same := (snapshot snapshotFaulted_takes).symm.trans (exec_snapshot snapshotFaulted_takes)
  have gone : snapshotFaulted.hub.nvm.faults = [] :=
    (congrArg (fun t : State => t.hub.nvm.faults) (Host.Outcome.next.inj same)).trans snapshotFaulted_faults_end
  exact snapshotFaulted_faults gone

end Sys2Proof.Machine

namespace Sys2Proof.Machine

/-! How a command of a pod and a command of the data path end, where they act: in the state that the operation they name makes. -/

/-- A command of a pod whose domain works ends in the block its operation makes (R333). -/
theorem onPod_acts {s : State} {p : PodIx} {f : Hub → Hub} {k : Hub} (hs : s.works (podDom p)) (made : f s.hub.quiet = k) :
    onPod s p f = .next (s.put k) := by
  obtain ⟨out, works⟩ := hs
  rw [onPod_run out works, made]

/-- A command of the data path ends, while CLK_PE runs, in the block its operation makes (R352). -/
theorem onPe_acts {s : State} {f : Hub → Hub} {k : Hub} (hs : s.forwards) (made : f s.hub.quiet = k) :
    onPe s f = .next (s.put k) := by
  obtain ⟨out, runs⟩ := hs
  rw [onPe_run out runs, made]

/-- Out of reset a command of the Husk ends in the block its operation makes (R460). -/
theorem perform_acts {s : State} {f : Hub → Hub} {k : Hub} (out : s.hub.held = .none) (made : f s.hub.quiet = k) :
    perform s f = .next (s.put k) := by
  rw [perform_run out, made]

/-- A command bit that its register takes ends in the block its operation makes of the hub as written (R408). -/
theorem masterCommand_acts {s : State} {m : Master} {off bit : Nat} {guarded : Bool} {f : Hub → Hub} {k : Hub}
    (takes : s.takes m off guarded) (made : f (s.hub.quiet.written off) = k) :
    (perform s fun h => h.masterCommand m off bit guarded f) = .next (s.put k) :=
  perform_acts takes.1 ((Hub.masterCommand_run takes f).trans made)

/-! The status words of a port: each is a sum of bits at rising places, and PORT_POWER's place is always counted. -/

/-- A status word is the sum of the bits that are set. -/
theorem bitsOf_eq_sum (l : List (Nat × Bool)) : bitsOf l = (l.map fun x => if x.2 then 2 ^ x.1 else 0).sum := by
  suffices shifted : ∀ a, l.foldl (fun a x => if x.2 then a + 2 ^ x.1 else a) a
      = a + (l.map fun x => if x.2 then 2 ^ x.1 else 0).sum from (shifted 0).trans (Nat.zero_add _)
  induction l with
  | nil => exact fun _ => rfl
  | cons x l ih =>
    intro a
    rw [List.foldl_cons, ih, List.map_cons, List.sum_cons]
    split <;> simp [Nat.add_assoc]

/-- A status word is at most the sum of all its places. -/
theorem bitsOf_le (l : List (Nat × Bool)) : bitsOf l ≤ (l.map fun x => 2 ^ x.1).sum := by
  rw [bitsOf_eq_sum]
  refine List.sum_le_sum fun x _ => ?_
  split
  · exact le_rfl
  · exact Nat.zero_le _

/-- Bits above a place make a multiple of the next power of two. -/
theorem dvd_bitsOf {l : List (Nat × Bool)} {n : Nat} (above : ∀ x ∈ l, n < x.1) : 2 ^ (n + 1) ∣ bitsOf l := by
  rw [bitsOf_eq_sum]
  refine List.dvd_sum fun v hv => ?_
  obtain ⟨x, hx, rfl⟩ := List.mem_map.mp hv
  split
  · exact Nat.pow_dvd_pow 2 (above x hx)
  · exact Nat.dvd_zero _

/-- Around a bit that is set the word falls into what stands below it, the bit, and what stands above it. -/
theorem bitsOf_around {l : List (Nat × Bool)} {i n : Nat} (set : l[i]? = some (n, true)) :
    bitsOf l = bitsOf (l.take i) + (2 ^ n + bitsOf (l.drop (i + 1))) := by
  obtain ⟨short, at_i⟩ := List.getElem?_eq_some_iff.mp set
  calc bitsOf l = bitsOf (l.take i ++ l[i] :: l.drop (i + 1)) := by rw [List.getElem_cons_drop, List.take_append_drop]
    _ = _ := by simp [bitsOf_eq_sum, at_i]

/-- A bit that is set reads 1, where what stands below it, with a field added there, does not reach its place. -/
theorem testBit_bitsOf_add {l : List (Nat × Bool)} {i n field : Nat} (set : l[i]? = some (n, true))
    (below : ((l.take i).map fun x => 2 ^ x.1).sum + field < 2 ^ n) (above : ∀ x ∈ l.drop (i + 1), n < x.1) :
    (bitsOf l + field).testBit n = true := by
  obtain ⟨c, hc⟩ := dvd_bitsOf above
  have low : bitsOf (l.take i) + field < 2 ^ n := lt_of_le_of_lt (Nat.add_le_add_right (bitsOf_le _) field) below
  have parts : bitsOf l + field = (bitsOf (l.take i) + field) + 2 ^ n * (1 + 2 * c) := by
    rw [bitsOf_around set, hc, Nat.pow_succ]
    ring
  rw [parts, Nat.testBit_eq_decide_div_mod_eq, Nat.add_mul_div_left _ _ (Nat.two_pow_pos n), Nat.div_eq_of_lt low]
  simp

/-- A bit that is set reads 1, where the places below it do not reach its own. -/
theorem testBit_bitsOf {l : List (Nat × Bool)} {i n : Nat} (set : l[i]? = some (n, true))
    (below : ((l.take i).map fun x => 2 ^ x.1).sum < 2 ^ n) (above : ∀ x ∈ l.drop (i + 1), n < x.1) :
    (bitsOf l).testBit n = true :=
  testBit_bitsOf_add (field := 0) set below above

/-- PORT_LINK_STATE has four bits. -/
theorem ltssmUsb_lt (t : Ltssm) : ltssmUsb t < 16 := by
  cases t <;> decide

/-- Under the USB 2.0 hub PORT_POWER, bit 8, reads 1 (R15, log 41). -/
theorem usb2Status_power (h : Hub) (p : PodIx) : (h.usb2Status p).testBit 8 = true := by
  unfold Hub.usb2Status
  exact testBit_bitsOf (i := 6) rfl (by simp) (by simp)

/-- Under the SuperSpeed hub PORT_POWER, bit 9, reads 1: PORT_LINK_STATE ends below it (R15, log 41). -/
theorem ssStatus_power (h : Hub) (p : PodIx) : (h.ssStatus p).testBit 9 = true := by
  have state := ltssmUsb_lt ((h.link p).shown.getD (h.link p).ltssm)
  have below : 2 ^ 0 + (2 ^ 1 + (2 ^ 3 + 2 ^ 4)) + 32 * ltssmUsb ((h.link p).shown.getD (h.link p).ltssm) < 2 ^ 9 := by omega
  exact testBit_bitsOf_add (i := 4) rfl below (by simp)

/-- PORT_POWER reads 1 on every port, the MF's included, under both hubs (R15, R18). -/
theorem portStatusWords_power (h : Hub) (port : Fin 15) :
    ((h.portStatusWords port).getD 0 0).getLsbD 8 = true ∧ ((h.portStatusWords port).getD 1 0).getLsbD 9 = true := by
  unfold Hub.portStatusWords
  split
  · simp only [List.getD_cons_zero, List.getD_cons_succ, BitVec.getLsbD_ofNat, usb2Status_power, ssStatus_power]
    decide
  · dsimp only
    generalize h.upstreamUp = up, h.upstreamSs = ss, h.upsel.mfChange = change
    revert up ss change
    decide

/-- Settles O25: a request of PORT_POWER is counted as its SETUP packet (log 94), answered, and does nothing else (R15); the bit reads
1 where log 41 places it; the hub descriptors are those of R14. -/
theorem portPowerRequests : Obligations.PortPowerRequests :=
  ⟨fun _ _ _ hs => onPe_acts hs rfl, portStatusWords_power, fun _ => rfl, fun _ hs _ _ => onPe_acts hs rfl⟩

/-! The ACTIVE upstream connection: lost, back, released, failed over, switched, connected again. -/

section
variable {h : Hub} {u : UpIx}

/-- A loss of the ACTIVE pod's connection starts T_FAIL (R22). -/
theorem Hub.upLinkLoss_active (active : h.upsel.active = some u) (first : h.upsel.lostAt = none) :
    h.upLinkLoss u = (h.upOff u).modUpsel fun x =>
      { x with timing := true, detached := false, lostAt := some h.clk, failEnd := h.clk + h.tFail * 10 * ticksPerMs } :=
  if_pos ⟨active, first⟩

/-- The lost connection comes back within T_FAIL (R23). -/
theorem Hub.upRecovered_timing {speed : Speed} (active : h.upsel.active = some u) (lost : h.upsel.lostAt ≠ none)
    (ufp : h.upUfp u = true) (ok : speedOk (upPod u) speed = true) (timing : h.upsel.timing = true) :
    h.upRecovered u speed = ((h.upEvt 1).upStart (some u) u 5 false).linkUpAt (upPod u) speed := by
  rw [Hub.upRecovered, if_pos ⟨active, lost, ufp, ok⟩, if_pos timing]

/-- The ACTIVE pod is released for its host's speed: no pod is ACTIVE, and R21 is evaluated (R472). -/
theorem Hub.upFsRelease_active (active : h.upsel.active = some u) (idle : h.upsel.seq = none) :
    h.upFsRelease u =
      ((((h.upOff u).modUpsel fun x =>
          { x with active := none, timing := false, lostAt := none, detached := false, lastCause := 6
                   released := x.released.set u true }).upRecord u.val 0xFF 6 0 0).upSelect) :=
  if_pos ⟨active, idle⟩

/-- T_FAIL of a detached pod ends with the other pod ready: failover to it (R23, R26). -/
theorem Hub.upFail_failover (active : h.upsel.active = some u) (timing : h.upsel.timing = true)
    (ready : h.upReady (upOther u) = true) (failover : h.failEn = true) (detached : h.upsel.detached = true) :
    h.upFail = h.upStart (some u) (upOther u) 1 true := by
  simp [Hub.upFail, active, timing, ready, failover, detached]

/-- T_FAIL of a link loss ends with no pod to take over and failover off: the loss stands (R23, R26). -/
theorem Hub.upFail_stays (active : h.upsel.active = some u) (timing : h.upsel.timing = true)
    (other : h.upReady (upOther u) = false) (off : h.failEn = false) (attached : h.upsel.detached = false) :
    h.upFail = (h.upEvt 3).modUpsel fun x => { x with timing := false } := by
  have off' : (h.upEvt 3).failEn = false := off
  have attached' : (h.upEvt 3).upsel.detached = false := attached
  simp [Hub.upFail, active, timing, other, off', attached']

/-- A commanded switch that can be taken starts the reconnection at once (R23). -/
theorem Hub.upSwitch_taken (active : h.upsel.active = some u) (ok : h.upSwitchOk = true) :
    h.upSwitch = h.upStart (some u) (upOther u) 3 false := by
  simp [Hub.upSwitch, active, ok]

/-- A failover ends with its pod connected: it is ACTIVE, journaled and counted (R24, R30, R31). -/
theorem Hub.upConnect_failover {q : UpSeq} (seq : h.upsel.seq = some q) (ready : h.upStillReady q.new = true)
    (failover : q.failover = true) :
    h.upConnect =
      (((((h.modUpsel fun x => { x with active := some q.new, seq := none, lastCause := q.cause, mfChange := true }).modLink
        (upPod q.new) fun l => { l with ltssm := if l.ltssm = .ssDisabled then .rxDetect else l.ltssm }).upRecord
        (upNo q.old) q.new.val q.cause q.lossUs q.discard).upEvt 0).bump (cntUpsel 0)) := by
  simp [Hub.upConnect, seq, ready, failover]

end

/-- Settles O1: each command where its conditions hold, then each as the operation it names. The record of a
full-speed release has no new pod, no loss and no discards (log 111). -/
theorem upstreamEvents : Obligations.UpstreamEvents := by
  refine ⟨fun s u sp m => ⟨?loss, ?recovered, ?release, ?failover, ?stays, ?switch, ?connect⟩, fun s => ⟨?pods, ?husk, ?command⟩⟩
  case loss => exact fun hs active first => onPod_acts hs (Hub.upLinkLoss_active active first)
  case recovered => exact fun hs active lost ufp ok timing => onPod_acts hs (Hub.upRecovered_timing active lost ufp ok timing)
  case release => exact fun hs active idle => onPod_acts hs (Hub.upFsRelease_active active idle)
  case failover =>
    exact fun out active timing ready on detached => perform_acts out (Hub.upFail_failover active timing ready on detached)
  case stays =>
    exact fun out active timing other off attached => perform_acts out (Hub.upFail_stays active timing other off attached)
  case switch => exact fun takes active ok => masterCommand_acts takes (Hub.upSwitch_taken active ok)
  case connect => exact fun q out seq ready failover => perform_acts out (Hub.upConnect_failover seq ready failover)
  case pods => exact fun u hs => ⟨onPod_acts hs rfl, fun _ => onPod_acts hs rfl, onPod_acts hs rfl⟩
  case husk => exact fun out => ⟨perform_acts out rfl, perform_acts out rfl⟩
  case command => exact fun m takes => masterCommand_acts takes rfl

/-! The PD timers, each where its wait is under way. -/

section
variable {h : Hub} {p : PodIx}

/-- SinkTxNG has stood for tSinkTx and capabilities wait: they are offered (R77). -/
theorem Hub.pdSinkTx_caps (waits : (h.pde p).sinkTxNg = true) (ready : (h.pde p).state = .ready)
    (noAlert : (h.pde p).pendAlert = false) (caps : (h.pde p).pendCaps = true) (noAuth : h.authOpen p = false) :
    h.pdSinkTx p = (h.vconnPlan p).pdOffer p := by
  have kept : ((h.vconnPlan p).pde p).pendCaps = true := by simpa [Hub.vconnPlan] using caps
  simp [Hub.pdSinkTx, waits, ready, noAlert, noAuth, kept]

/-- Short of nCapsCount the capabilities go out again (R89). -/
theorem Hub.capsTimer_again (sends : (h.pde p).state = .sendCaps) (first : (h.pde p).madeExplicit = false)
    (few : (h.pde p).capsCount < 50) : h.capsTimer p = h.pdSendCaps p := by
  simp [Hub.capsTimer, sends, first, Nat.not_le.mpr few]

/-- After nCapsCount capabilities without an answer the partner has no PD (R89). -/
theorem Hub.capsTimer_noPd (sends : (h.pde p).state = .sendCaps) (first : (h.pde p).madeExplicit = false)
    (many : 50 ≤ (h.pde p).capsCount) :
    h.capsTimer p = h.modPde p fun e => { e with state := .noPd, await := .nothing } := by
  simp [Hub.capsTimer, sends, first, many]

/-- tPSHardReset ends: VBUS goes off (R89). -/
theorem Hub.pdPsReset_hardReset (reset : (h.pde p).state = .hardReset) :
    h.pdPsReset p = (h.modPde p fun e => { e with state := .hardResetRecover }).vbRequestOff (podPath p) :=
  if_pos reset

/-- tSrcRecover ends on a source pod that is not shed: the engine starts as after attach (R79, R89). -/
theorem Hub.pdSrcRecover_restart (src : (h.pde p).roleSrc = true) (attached : (h.tc p).srcAttached = true)
    (recovers : (h.pde p).state = .hardResetRecover) (unshed : h.consShed (podPath p) = false) :
    h.pdSrcRecover p = h.pdRestart p := by
  simp [Hub.pdSrcRecover, src, attached, recovers, unshed]

/-- A message with a bad CRC is counted by a working engine, and captured (R90, R98). -/
theorem Hub.pdCrcBad_counted {f : PdFrame} (works : (h.pde p).state ≠ .disabled) :
    h.pdCrcBad p f = (h.bump (cntPd p 2)).captureMsg p 0x24 0 false f.retries f.header f.words := by
  simp [Hub.pdCrcBad, works]

/-- Hard Reset signalling reaches a working engine of an attached pod (R89, R95). -/
theorem Hub.pdResetReceived_working (works : (h.pde p).state ≠ .disabled) (attached : (h.tc p).attached = true) :
    let k := ((h.captureReset p 0x22).pdResetAll p false 2).modPde p fun e => { e with hrRun := min 15 (e.hrRun + 1) }
    h.pdResetReceived p = (k.pdResetNote p false (k.pde p).lastViol).pdRunLimit p := by
  simp [Hub.pdResetReceived, works, attached]

/-- What is noted of a message without GoodCRC leaves the engine acting. -/
theorem Hub.captureFail_pdActive (header : BitVec 16) : (h.captureFail p header).pdActive p = h.pdActive p := by
  unfold Hub.captureFail
  split <;> rfl

/-- A Soft_Reset without GoodCRC is answered with Hard Reset (R94). -/
theorem Hub.pdTxFail_softReset (acts : h.pdActive p = true) : h.pdTxFail p 13 = (h.captureFail p 13).pdViolHard p 4 13 := by
  simp [Hub.pdTxFail, Hub.captureFail_pdActive, acts]

/-- A Reject without GoodCRC is a violation in the run (R94, R95). -/
theorem Hub.pdTxFail_reject (acts : h.pdActive p = true) : h.pdTxFail p 4 = (h.captureFail p 4).pdViolSoft p 3 4 := by
  simp [Hub.pdTxFail, Hub.captureFail_pdActive, acts]

/-- The partner does not answer the DR_Swap: the pod serves power only (R19). -/
theorem Hub.drSwapNo_refused {u : UpIx} (up : podUp p = some u) (awaits : (h.pde p).await = .drSwap) :
    h.drSwapNo p = ((h.modPde p fun e => { e with drWaits := 0 }).upRefused u).pdReady p := by
  simp [Hub.drSwapNo, up, awaits]

/-- The DR_Swap that waited after a Wait is sent where its reason stands (R19, R91). -/
theorem Hub.drSwapSend_again {u : UpIx} (up : podUp p = some u) (ready : (h.pde p).state = .ready) (src : (h.pde p).roleSrc = true)
    (dfp : (h.pde p).dfp = true) (contract : (h.pde p).contract.ctype ≠ 0) (unrefused : h.upsel.refused[u] = false) :
    (h.modPde p fun e => { e with drWaiting := false }).drSwapSend p =
      (h.modPde p fun e => { e with drWaiting := false, state := .drSwap, await := .drSwap }).pdCtl p .drSwap := by
  simp [Hub.drSwapSend, up, ready, src, dfp, Pde.explicit, contract, unrefused, Hub.modPde_modPde]

end

/-- Settles O9: each timer where its wait is under way, then each as the operation it names. -/
theorem pdTimers : Obligations.PdTimers := by
  refine ⟨fun s p hs => ⟨?regulator, ?reoffer, ?sinkTx, ?pps, ?epr, ?vconn, ?soft, ?request, ?caps, ?noPd, ?hardReset, ?recover,
    ?vbus, ?quiet, ?crc, ?softLost, ?rejectLost, ?received, ?drSilent, ?drWait⟩, fun s p hs => ?general⟩
  case regulator => exact fun st asked => onPod_acts hs (if_pos (by simp [st, asked]))
  case reoffer => exact fun due ready src => onPod_acts hs (if_pos (by simp [due, ready, src]))
  case sinkTx => exact fun waits ready noAlert caps noAuth => onPod_acts hs (Hub.pdSinkTx_caps waits ready noAlert caps noAuth)
  case pps => exact fun pps src => onPod_acts hs (if_pos (by simp [pps, src]))
  case epr => exact fun epr => onPod_acts hs (if_pos epr)
  case vconn => exact fun awaits => onPod_acts hs (if_pos awaits)
  case soft => exact fun awaits => onPod_acts hs (if_pos awaits)
  case request => exact fun awaits contract => onPod_acts hs (if_pos (by simp [awaits, Pde.explicit, contract]))
  case caps => exact fun sends first few => onPod_acts hs (Hub.capsTimer_again sends first few)
  case noPd => exact fun sends first many => onPod_acts hs (Hub.capsTimer_noPd sends first many)
  case hardReset => exact fun reset => onPod_acts hs (Hub.pdPsReset_hardReset reset)
  case recover =>
    exact fun src attached recovers unshed => onPod_acts hs (Hub.pdSrcRecover_restart src attached recovers unshed)
  case vbus => exact fun sink recovers => onPod_acts hs (if_pos (by simp [sink, Hub.pdHardResetRecovery, recovers]))
  case quiet => exact fun contract => onPod_acts hs (if_pos (by simp [Pde.explicit, contract]))
  case crc => exact fun f works => onPod_acts hs (Hub.pdCrcBad_counted works)
  case softLost => exact fun acts => onPod_acts hs (Hub.pdTxFail_softReset acts)
  case rejectLost => exact fun acts => onPod_acts hs (Hub.pdTxFail_reject acts)
  case received => exact fun works attached => onPod_acts hs (Hub.pdResetReceived_working works attached)
  case drSilent => exact fun u up awaits => onPod_acts hs (Hub.drSwapNo_refused up awaits)
  case drWait =>
    exact fun u up waits ready src dfp contract unrefused =>
      onPod_acts hs ((if_pos waits).trans (Hub.drSwapSend_again up ready src dfp contract unrefused))
  case general =>
    exact ⟨onPod_acts hs rfl, onPod_acts hs rfl, onPod_acts hs rfl, onPod_acts hs rfl, onPod_acts hs rfl, onPod_acts hs rfl,
      onPod_acts hs rfl, fun _ => onPod_acts hs rfl⟩

/-! The host's requests to a port: the status stage goes up on UQ_0 and leaves the port, its connector and a held credit alone. -/

/-- A SETUP packet counted changes counters alone (R204). -/
theorem countSetup_frame (h : Hub) : h.countSetup.links = h.links ∧ h.countSetup.sched = h.sched := by
  unfold Hub.countSetup Hub.countHostRx Hub.countRx
  split <;> simp

/-- A packet put into UQ_0 leaves a held credit (R173, R178). -/
theorem uq0Put_credit (h : Hub) (x : UpPkt) : (h.uq0Put x).sched.credit = h.sched.credit := by
  have wake : ∀ g : Hub, g.upWake.sched = g.sched := by
    intro g
    unfold Hub.upWake
    dsimp only
    split
    · rfl
    · split <;> rfl
  have put : ∀ y : UpPkt, (h.upPut 0 y).sched.credit = h.sched.credit := fun y => by rw [Hub.upPut, wake]; rfl
  unfold Hub.uq0Put Hub.notePool
  dsimp only
  split
  · exact put _
  · exact put _

/-- An answer of the MF or the hub leaves a held credit. -/
theorem answer_credit (h : Hub) (src ep rank mx bytes : Nat) (o : Output) :
    (h.answer src ep rank mx bytes o).sched.credit = h.sched.credit := by
  have fold : ∀ (l : List (Nat × Nat)) (g : Hub) (f : Nat × Nat → UpPkt),
      (l.foldl (fun h k => h.uq0Put (f k)) g).sched.credit = g.sched.credit := by
    intro l
    induction l with
    | nil => exact fun _ _ => rfl
    | cons x l ih => exact fun g f => (ih _ f).trans (uq0Put_credit g _)
  unfold Hub.answer
  split
  · rfl
  · dsimp only
    split
    · exact fold _ h _
    · exact uq0Put_credit h _

section
variable {h : Hub} {p : PodIx}

/-- The status stage of a request changes no downstream port. -/
theorem statusStage_link (d : isD p = true) (ws : List Word) : (h.countSetup.hubReply ws).link p = h.link p := by
  rw [(hubReply_frame h.countSetup ws d).1, Hub.link, (countSetup_frame h).1]
  rfl

/-- The status stage of a request leaves a held credit. -/
theorem statusStage_credit (ws : List Word) : (h.countSetup.hubReply ws).sched.credit = h.sched.credit := by
  rw [Hub.hubReply, answer_credit, (countSetup_frame h).2]

/-- Without a bounce hold there is none to end (R56). -/
theorem Hub.endHold_none (free : (h.tc p).hold = none) (code : Nat) : h.endHold p code = h := by
  simp [Hub.endHold, free]

/-! #### Connections -/

/-- A link that was awake comes up (R54). -/
theorem Hub.linkUpEvent_awake {v : Speed} (free : (h.tc p).hold = none) (may : h.mayConnect p = true) (ok : speedOk p v = true)
    (awake : (h.link p).ltssm ≠ .u3) (running : (h.link p).u2 ≠ .suspended) (resumed : (h.link p).u2 ≠ .resuming) :
    h.linkUpEvent p v = (((h.linkUpAt p v).modTc p fun t => { t with bhAvail := t.bhAvail || isD p }).sendDeferred p).domCheck := by
  simp [Hub.linkUpEvent, free, may, ok, awake, running, resumed]

/-- A device connects on a port that has none (R17, R287, R345). -/
theorem Hub.deviceConnect_new {b : Bool} (free : (h.tc p).hold = none) (may : h.mayConnect p = true) (d : isD p = true)
    (empty : (h.link p).speed = .none) :
    h.deviceConnect p b = ((h.modLink p fun l =>
      { l with onSs := b, ltssm := if b then .polling else .ssDisabled
               u2 := if b then .notConnected else .disabled }).portConnect p |>.wakeSource 17) := by
  simp [Hub.deviceConnect, d, may, empty, free]

/-! #### Resets -/

/-- A reset of a connected USB 2.0 port, in no bounce hold (R56, R194, R196). -/
theorem Hub.portRequest_reset (d : isD p = true) (free : (h.tc p).hold = none) (allowed : (h.link p).disReason ≠ 3)
    (conn : (h.link p).conn = true) (usb2 : (h.link p).onSs = false) :
    h.portRequest p .reset = (((h.countSetup.hubReply []).portClear p).deferForget p).modLink p fun l =>
      { l with portEn := false, disReason := 0, viols := [], resetting := true, warm := false
               ltssm := if l.onSs then .hotReset else l.ltssm, u2 := if l.onSs then l.u2 else .resetting } := by
  rw [← statusStage_link d []] at allowed conn usb2
  simp [Hub.portRequest, Hub.endHold_none free, Hub.portReset, d, allowed, conn, usb2]

/-- A Warm Reset of a connected SuperSpeed port, in no bounce hold, is signalled on its link (R56, R194, R196). -/
theorem Hub.portRequest_warmReset (d : isD p = true) (free : (h.tc p).hold = none) (allowed : (h.link p).disReason ≠ 3)
    (conn : (h.link p).conn = true) (ss : (h.link p).onSs = true) :
    h.portRequest p .warmReset = ((((h.countSetup.hubReply []).portClear p).deferForget p).modLink p fun l =>
      { l with portEn := false, disReason := 0, viols := [], resetting := true, warm := l.onSs
               ltssm := if l.onSs then .rxDetect else l.ltssm, u2 := if l.onSs then l.u2 else .resetting }).emit
        (.linkCmd p.val .warmReset) := by
  rw [← statusStage_link d []] at allowed conn ss
  simp [Hub.portRequest, Hub.endHold_none free, Hub.portReset, d, allowed, conn, ss]

/-- The reset of a port disabled for POLICY ends as a failed one (R281). -/
theorem Hub.portRequest_policy (d : isD p = true) (free : (h.tc p).hold = none) (policy : (h.link p).disReason = 3) :
    h.portRequest p .reset = ((h.countSetup.hubReply []).modLink p fun l => { l with cReset := true }).statusChange := by
  rw [← statusStage_link d []] at policy
  simp [Hub.portRequest, Hub.endHold_none free, Hub.portReset, d, policy]

/-! #### Link power -/

/-- The deferred entries of a port leave it, and nothing else of its link (R188, R196). -/
theorem Hub.deferForget_link : (h.deferForget p).link p = { h.link p with deferred := [], waking := [] } :=
  Hub.modLink_link _ p _

/-- A link in U0 with nothing stored or held for it enters U3 at once (R184, R196). -/
theorem Hub.linkToU3_now (awake : (h.link p).ltssm = .u0) (sent : (h.link p).down = []) (noCredit : h.sched.credit = none) :
    h.linkToU3 p = ((h.deferForget p).modLink p fun l => { l with u3Pending := true }).linkU3 p := by
  have free : ((h.deferForget p).modLink p fun l => { l with u3Pending := true }).creditOf p = false := by
    simp [Hub.creditOf, Hub.deferForget, noCredit]
  simp [Hub.linkToU3, Hub.u3Try, Hub.deferForget_link, awake, sent, free]

/-- Without a bounce hold SetPortFeature(PORT_LINK_STATE, U3) is its status stage and the way to U3 (R184). -/
theorem Hub.portU3_now (d : isD p = true) (free : (h.tc p).hold = none) (awake : (h.link p).ltssm = .u0)
    (sent : (h.link p).down = []) (noCredit : h.sched.credit = none) :
    h.portU3 p =
      (((h.countSetup.hubReply []).deferForget p).modLink p fun l => { l with u3Pending := true }).linkU3 p := by
  rw [← statusStage_link d []] at awake sent
  rw [← statusStage_credit []] at noCredit
  rw [Hub.portU3, if_pos d, Hub.endHold_none free, Hub.linkToU3_now awake sent noCredit]

/-- An enabled port is suspended after the status stage (R185). -/
theorem Hub.portSuspend_enabled (d : isD p = true) (enabled : (h.link p).u2 = .enabled) :
    h.portSuspend p = (h.countSetup.hubReply []).modLink p fun l => { l with u2 := .suspended } := by
  simp [Hub.portSuspend, d, statusStage_link d, enabled]

end

/-- Settles O23: each connection and request where its conditions hold, then each as the operation it names. The port disabled for
POLICY follows R281; a request counts as its SETUP packet (log 94), and a device that connects raises source 17 (log 90). -/
theorem portRequests : Obligations.PortRequests := by
  refine ⟨fun s p v b port => ⟨?linkUp, ?connect, ?reset, ?warm, ?policy, ?status, ?sleep, ?suspend⟩, fun s => ⟨?links, ?requests⟩⟩
  case linkUp =>
    exact fun hs free may ok awake running resumed => onPod_acts hs (Hub.linkUpEvent_awake free may ok awake running resumed)
  case connect => exact fun hs free may d empty => onPod_acts hs (Hub.deviceConnect_new free may d empty)
  case reset => exact fun hs d free allowed conn usb2 => onPe_acts hs (Hub.portRequest_reset d free allowed conn usb2)
  case warm => exact fun hs d free allowed conn ss => onPe_acts hs (Hub.portRequest_warmReset d free allowed conn ss)
  case policy => exact fun hs d free policy => onPe_acts hs (Hub.portRequest_policy d free policy)
  case status => exact fun hs => onPe_acts hs rfl
  case sleep => exact fun hs d free awake sent noCredit => onPe_acts hs (Hub.portU3_now d free awake sent noCredit)
  case suspend => exact fun hs d enabled => onPe_acts hs (Hub.portSuspend_enabled d enabled)
  case links => exact fun p hs => ⟨fun _ => onPod_acts hs rfl, fun _ => onPod_acts hs rfl⟩
  case requests =>
    exact fun hs => ⟨fun _ _ => onPe_acts hs rfl, fun _ => onPe_acts hs rfl, fun _ => onPe_acts hs rfl, fun _ => onPe_acts hs rfl⟩

end Sys2Proof.Machine

namespace Sys2Proof.Machine

/-! The toggle of a dual-role pod takes the level of its Rp back to Default: a sink may still show the level of its partner's. -/

/-- The machines of a state are those of the block put there. -/
theorem State.put_tc (s : State) (h : Hub) (p : PodIx) : (s.put h).hub.tc p = h.tc p := rfl

/-- A dual-role pod that toggles advertises Default (R35). -/
theorem Hub.drpToggle_rpLevel {h : Hub} {p : PodIx} (drp : (h.tc p).drp = true) (free : (h.tc p).unattached = true) :
    ((h.drpToggle p).tc p).rpLevel = 0 := by
  simp [Hub.drpToggle, drp, free]

/-- UA right after reset, with Rp of 1.5 A on both CC pins. -/
def debugAccessorySeen : State := State.reset.put (State.reset.hub.quiet.ccChange 0 (.rp 1) (.rp 1))

/-- One command from reset leads there. -/
theorem exec_tcTerminationSeen_reset : exec (.tcTerminationSeen 0 (.rp 1) (.rp 1)) State.reset = .next debugAccessorySeen := rfl

/-- An accessory leaves the dual-role pod UA an unattached sink, and its level is shown (R35, R61). -/
theorem debugAccessorySeen_tc :
    (debugAccessorySeen.hub.tc 0).drp = true ∧ (debugAccessorySeen.hub.tc 0).state = .unattachedSnk ∧
      (debugAccessorySeen.hub.tc 0).rpLevel = 1 := by decide

/-- Refutes O2: UA, an unattached sink that shows the 1.5 A of an accessory's Rp, toggles and advertises Default (R35), where the
clause for DRP_TOGGLE keeps RP_LEVEL at 1. -/
theorem not_connectionTimersAndCommands : ¬ Obligations.ConnectionTimersAndCommands := by
  rintro ⟨clauses, -⟩
  obtain ⟨timers, -⟩ := clauses debugAccessorySeen 1 0
  have works : debugAccessorySeen.works (podDom 0) := ⟨rfl, rfl⟩
  obtain ⟨-, -, toSource, -⟩ := timers works
  obtain ⟨drp, sink, level⟩ := debugAccessorySeen_tc
  have toggled : exec (.drpToggle 0) debugAccessorySeen =
      .next (debugAccessorySeen.put (debugAccessorySeen.hub.quiet.drpToggle 0)) := onPod_acts works rfl
  have same := Host.Outcome.next.inj (toggled.symm.trans (toSource drp sink))
  have reset : ((debugAccessorySeen.hub.quiet.drpToggle 0).tc 0).rpLevel = 0 :=
    Hub.drpToggle_rpLevel drp (by simp [Tc.unattached, sink])
  have kept : ((debugAccessorySeen.hub.quiet.drpToggle 0).tc 0).rpLevel = (debugAccessorySeen.hub.tc 0).rpLevel := by
    have levels := congrArg (fun t : State => (t.hub.tc 0).rpLevel) same
    simpa only [State.put_tc, Hub.modTc_tc, Hub.quiet_tc] using levels
  omega

/-! The connection machine on its way to an attach, and out of one. -/

section
variable {h : Hub} {p : PodIx} {c1 c2 : Term} {mv : Nat}

/-! #### Terminations -/

/-- The pins and the level that they show are one change of the machine. -/
theorem Hub.ccPins_rpSeen :
    ((h.ccPins p c1 c2).modTc p fun t => { t with rpLevel := t.rpSeen c1 c2 }) =
      h.modTc p fun t => { t with cc1 := c1, cc2 := c2, rpLevel := t.rpSeen c1 c2 } :=
  Hub.modTc_modTc _ _ _ _

/-- An unattached pod evaluates its pins as they now read (R35, R36, R61). -/
theorem Hub.ccChange_unattached (closed : (h.tc p).ccOpen = false) (on : h.domOn (podDom p) = true)
    (free : (h.tc p).unattached = true) :
    h.ccChange p c1 c2 =
      (h.modTc p fun t => { t with cc1 := c1, cc2 := c2, rpLevel := (h.tc p).rpSeen c1 c2 }).evalUnattached p := by
  simp only [Hub.ccChange, Hub.ccPins_rpSeen, closed, on, free, Bool.not_true, Bool.or_false, if_true, Bool.false_eq_true, if_false]
  exact congrArg (Hub.evalUnattached · p) (Hub.modTc_congr _ rfl)

/-- Rd on exactly one pin of an unattached source: it waits to attach (R36, R39). -/
theorem Hub.ccChange_attachWaitSrc (state : (h.tc p).state = .unattachedSrc) (on : h.domOn (podDom p) = true)
    (noPair : accessoryPair true c1 c2 = false) (rd : wanted true c1 c2 = true) :
    h.ccChange p c1 c2 = (h.modTc p fun t =>
      { t with cc1 := c1, cc2 := c2, state := .attachWaitSrc, rpLevel := 0, debounced := false, lost := false
               vbusCounted := false, checking := false }).chatterTransition p := by
  rw [Hub.ccChange_unattached (by simp [Tc.ccOpen, state]) on (by simp [Tc.unattached, state])]
  simp [Hub.evalUnattached, state, noPair, rd, Hub.modTc_modTc]

/-- The connected pin of an attached source no longer shows Rd (R36, R57). -/
theorem Hub.ccChange_lost (state : (h.tc p).state = .attachedSrc) (on : h.domOn (podDom p) = true)
    (gone : (h.tc p).rdStays c1 c2 = false) :
    h.ccChange p c1 c2 = h.modTc p fun t => { t with cc1 := c1, cc2 := c2, lost := true } := by
  have lost : h.ccChange p c1 c2 =
      (h.modTc p fun t => { t with cc1 := c1, cc2 := c2, rpLevel := t.rpSeen c1 c2 }).modTc p fun t =>
        { t with lost := !t.rdStays c1 c2 } := by
    simp [Hub.ccChange, Hub.ccPins_rpSeen, Tc.ccOpen, Tc.unattached, Tc.srcAttached, state, on]
  have level : (h.tc p).rpSeen c1 c2 = (h.tc p).rpLevel := if_pos (by simp [Tc.actsSrc, Tc.srcAttached, state])
  rw [lost, Hub.modTc_modTc]
  refine Hub.modTc_congr _ ?_
  simp only [level]
  rw [Tc.rdStays] at gone
  simp only [Tc.rdStays, gone, Bool.not_false]

/-- An attached sink's pins show the level of its partner's Rp (R61). -/
theorem Hub.ccChange_attachedSnk (state : (h.tc p).state = .attachedSnk) (on : h.domOn (podDom p) = true) :
    h.ccChange p c1 c2 = h.modTc p fun t => { t with cc1 := c1, cc2 := c2, rpLevel := t.rpSeen c1 c2 } := by
  simp [Hub.ccChange, Hub.ccPins_rpSeen, Tc.ccOpen, Tc.unattached, Tc.srcAttached, Tc.attached, state, on]

/-! #### Debounces and the moisture check -/

/-- A waiting pod's termination was stable for tCCDebounce: the moisture check starts, where there is one (R36, R45). -/
theorem Hub.ccDebounce_waiting (state : (h.tc p).state = .attachWaitSrc ∨ (h.tc p).state = .attachWaitSnk)
    (stands : (h.tc p).lost = false) (idle : (h.tc p).checking = false) (first : (h.tc p).debounced = false)
    (seen : wanted (h.tc p).actsSrc (h.tc p).cc1 (h.tc p).cc2 = true) :
    h.ccDebounce p mv =
      if h.moistEn p then h.modTc p fun t => { t with checking := true, vconnOn := false } else h.afterDry p mv := by
  simp [Hub.ccDebounce, stands, idle, first, seen, state]

/-- The partner of an attached source stays away for tPDDebounce: it is detached (R57). -/
theorem Hub.pdDebounce_attached (src : (h.tc p).srcAttached = true) (gone : (h.tc p).lost = true) :
    h.pdDebounce p mv =
      (if (h.tc p).cc1 == .open && (h.tc p).cc2 == .open then h.modTc p fun t => { t with accCounted := false }
        else h).typecDetach p 3 0 none := by
  have state : (h.tc p).state = .attachedSrc ∨ (h.tc p).state = .bounceHold := by simpa [Tc.srcAttached] using src
  obtain state | state := state <;> simp [Hub.pdDebounce, state, gone]

/-- A waiting pod whose termination stays away for tPDDebounce is unattached again (R36, R39). -/
theorem Hub.pdDebounce_waiting (state : (h.tc p).state = .attachWaitSrc ∨ (h.tc p).state = .attachWaitSnk)
    (gone : (h.tc p).lost = true) (seen : (h.tc p).cc1 ≠ .open) :
    h.pdDebounce p mv = (h.enterUnattached p).chatterTransition p := by
  obtain state | state := state <;> simp [Hub.pdDebounce, state, gone, seen]

/-! #### The partner's VBUS -/

/-- Partner VBUS at a debounced sink: it attaches (R36). -/
theorem Hub.partnerVbus_attaches (state : (h.tc p).state = .attachWaitSnk) (debounced : (h.tc p).debounced = true)
    (stands : (h.tc p).lost = false) (rp : wanted false (h.tc p).cc1 (h.tc p).cc2 = true) :
    h.partnerVbus p = h.attachSnk p := by
  simp [Hub.partnerVbus, Hub.trySnkAttach, state, debounced, stands, rp]

/-- Partner VBUS below the threshold of the contract, outside Hard Reset recovery, detaches a sink (R57, R471). -/
theorem Hub.sinkDisconnect_detaches (state : (h.tc p).state = .attachedSnk) (calm : h.pdHardResetRecovery p = false)
    (below : mv < (h.pde p).sinkThreshold) : h.sinkDisconnect p mv = h.typecDetach p 0 0 none := by
  simp [Hub.sinkDisconnect, state, calm, below]

/-! #### The live check of the SBU pins -/

/-- An attached pod with SBU_LIVE_EN whose SBU pins are not on CSB is checked (R51). -/
theorem Hub.liveCheckable_attached (attached : (h.tc p).attached = true) (live : h.sbuLive p = true)
    (offCsb : (h.tc p).sbuCsb = false) : h.liveCheckable p = true := by
  simp [Hub.liveCheckable, attached, live, offCsb]

/-- The second reading decides where the first was wet, without a LOCKOUT request beside it (R51). -/
theorem Hub.liveConfirm_decides {r2 r3 : Nat} (may : h.liveCheckable p = true) (wet : (h.tc p).liveWet = true) :
    h.liveConfirm p r2 r3 false =
      (if (h.measurePins p [(2, r2), (3, r3)]).sbuWet p
        then ((h.measurePins p [(2, r2), (3, r3)]).enterWet p).leaveAs p ((h.measurePins p [(2, r2), (3, r3)]).tc p).srcAttached 4 2
        else (((h.measurePins p [(2, r2), (3, r3)]).modTc p fun t => { t with liveWet := false }).bump (cntTc p 2)).liveCheckDry
          p) := by
  simp [Hub.liveConfirm, may, wet]

/-! #### The unattached state, and the multiplexers -/

/-- The role then in effect decides the state that is entered, and every debounce ends (R36, R59, R61). -/
theorem Hub.enterUnattached_eq :
    h.enterUnattached p = h.modTc p fun t =>
      { t with role := h.tcRole p, trySrc := h.tcTrySrc p
               state := if h.tcRole p = 1 then .unattachedSrc else .unattachedSnk
               orient := false, vconnOn := false, rpLevel := 0, sbuCsb := false, dryCnt := 0, vconnOc := false
               checking := false, debounced := false, lost := false, vbusCounted := false, liveWet := false } := by
  simp [Hub.enterUnattached, Hub.latchRole, Hub.modTc_modTc, Tc.srcOnly]

/-- The multiplexers of an attached pod follow its orientation (R41). -/
theorem Tc.muxes_attached {t : Tc} (attached : t.attached = true) :
    t.ssLane = some (if t.orient then 2 else 1) ∧
      (t.vconnOn = true → t.vconnPin = some (if t.orient then 1 else 2)) ∧
      (t.sbuCsb = true → t.csbPins = some (if t.orient then (2, 1) else (1, 2))) :=
  ⟨if_pos attached, fun on => if_pos on, fun csb => if_pos (by simp [attached, csb])⟩

end

/-- Settles O3: each command where its conditions hold, the entry to an unattached state, the multiplexers, then each command as
the operation it names. -/
theorem attachEvents : Obligations.AttachEvents := by
  refine ⟨fun s p c1 c2 mv r0 r1 r2 r3 hs => ⟨?wait, ?evaluate, ?lost, ?level, ?debounced, ?checked, ?gone, ?returns, ?partner,
    ?disconnect, ?live, ?vconn, Hub.enterUnattached_eq, Tc.muxes_attached⟩, fun s p hs => ?general⟩
  case wait => exact fun state on noPair rd => onPod_acts hs (Hub.ccChange_attachWaitSrc state on noPair rd)
  case evaluate => exact fun closed on free => onPod_acts hs (Hub.ccChange_unattached closed on free)
  case lost => exact fun state on gone => onPod_acts hs (Hub.ccChange_lost state on gone)
  case level => exact fun state on => onPod_acts hs (Hub.ccChange_attachedSnk state on)
  case debounced =>
    exact fun state stands idle first seen => onPod_acts hs (Hub.ccDebounce_waiting state stands idle first seen)
  case checked => exact fun checking => onPod_acts hs (if_pos checking)
  case gone => exact fun src gone => onPod_acts hs (Hub.pdDebounce_attached src gone)
  case returns => exact fun state gone seen => onPod_acts hs (Hub.pdDebounce_waiting state gone seen)
  case partner => exact fun state debounced stands rp => onPod_acts hs (Hub.partnerVbus_attaches state debounced stands rp)
  case disconnect => exact fun state calm below => onPod_acts hs (Hub.sinkDisconnect_detaches state calm below)
  case live =>
    intro attached live offCsb
    have may : s.hub.quiet.liveCheckable p = true := Hub.liveCheckable_attached attached live offCsb
    exact ⟨onPod_acts hs (if_pos may), fun wet => onPod_acts hs (Hub.liveConfirm_decides may wet)⟩
  case vconn => exact fun on => onPod_acts hs (if_pos on)
  case general =>
    exact ⟨fun _ _ => onPod_acts hs rfl, fun _ _ => onPod_acts hs rfl, fun _ => onPod_acts hs rfl,
      fun _ _ _ _ _ => onPod_acts hs rfl, fun _ => onPod_acts hs rfl, onPod_acts hs rfl, fun _ => onPod_acts hs rfl,
      fun _ _ => onPod_acts hs rfl, fun _ _ _ => onPod_acts hs rfl, onPod_acts hs rfl⟩

/-! The data link lost and back, VBUS below 0.8 V, attach sensing of the Husk. -/

section
variable {h : Hub} {p : PodIx}

/-- A link whose loss a hold may bridge detects it: it is not in SS.Disabled (R53, R437). -/
theorem Link.losable_detects {l : Link} (losable : l.losable = true) : (l.speed.ss && l.ltssm == .ssDisabled) = false := by
  cases ss : l.speed.ss with
  | false => rfl
  | true =>
    have live : l.ltssm.live = true := by
      simp only [Link.losable, ss, if_true, Bool.and_eq_true] at losable
      exact losable.2
    cases state : l.ltssm with
    | ssDisabled => rw [state] at live; contradiction
    | _ => rfl

/-- An attached source with a window and a connection to hold starts a bounce hold (R53, R54). -/
theorem Hub.dataLinkLoss_holds (d : isD p = true) (linked : (h.link p).speed ≠ .none) (state : (h.tc p).state = .attachedSrc)
    (window : h.bhWin p ≠ 0) (free : (h.tc p).hold = none) (avail : (h.tc p).bhAvail = true) (stands : (h.tc p).lost = false)
    (powered : h.vbOn (podPath p) = true) (losable : (h.link p).losable = true) :
    h.dataLinkLoss p = (h.modTc p fun t =>
      { t with state := .bounceHold, hold := some { lossTb := h.tb, since := h.clk, speed := (h.link p).speed }
               lastUsb2 := (h.link p).speed.usb2 }).linkHoldStart p := by
  simp only [Hub.dataLinkLoss, Link.losable_detects losable]
  simp [d, linked, state, window, free, avail, stands, powered, losable]

/-- Outside Attached.SRC a loss that the link detects is reported at once (R53, R55). -/
theorem Hub.dataLinkLoss_reported (d : isD p = true) (linked : (h.link p).speed ≠ .none) (state : (h.tc p).state ≠ .attachedSrc)
    (free : (h.tc p).hold = none) (detects : (h.link p).speed.ss = true → (h.link p).ltssm ≠ .ssDisabled) :
    h.dataLinkLoss p = h.portDisconnect p := by
  have reports : ((h.link p).speed.ss && (h.link p).ltssm == .ssDisabled) = false := by simpa using detects
  simp only [Hub.dataLinkLoss, reports]
  simp [d, linked, state, free]

/-- The link is back at the speed it was lost at (R56). -/
theorem Hub.holdRecover_same {hd : Hold} (held : (h.tc p).hold = some hd) :
    h.holdRecover p hd.speed = (h.endHold p 0).linkHoldRecovered p hd.speed := by
  simp [Hub.holdRecover, held]

/-- The link is back at another speed: the hold ends as an expiry, and the link comes up anew (R54, R56). -/
theorem Hub.holdRecover_other {hd : Hold} {speed : Speed} (held : (h.tc p).hold = some hd) (other : speed ≠ hd.speed)
    (ok : speedOk p speed = true) :
    h.holdRecover p speed = ((h.endHold p 7).linkUpAt p speed).modTc p fun t => { t with bhAvail := true } := by
  simp [Hub.holdRecover, held, Ne.symm other, ok]

/-- On a path that is off and no pod's, VBUS below 0.8 V ends the discharge and no more (R133). -/
theorem Hub.below0v8_off {x : PathIx} (off : (h.vb x).state = .off) (noPod : pathPod x = none) :
    h.below0v8 x = h.modVb x fun e => { e with low := true, dsch := false } := by
  simp [Hub.below0v8, Hub.vbBelow0v8, off, noPod]

/-- The Husk wakes the domain of a retained source pod that senses Rd (R52, R345). -/
theorem Hub.huskSense_wakes {c1 c2 : Term} (ret : (h.dom (podDom p)).state = .ret) (senses : h.stbySense p = true)
    (src : h.tcRole p = 1) (rd : c1 = .rd) : h.huskSense p c1 c2 = h.wakeSource p.val := by
  simp [Hub.huskSense, ret, senses, src, rd]

end

/-- A command of a path whose domain works ends in the block its operation makes (R333). -/
theorem onPath_acts {s : State} {x : PathIx} {f : Hub → Hub} {k : Hub} (hs : s.works (pathDom x)) (made : f s.hub.quiet = k) :
    onPath s x f = .next (s.put k) := by
  obtain ⟨out, works⟩ := hs
  rw [onPath_run out works, made]

/-- Out of reset VBUS_BELOW_0V8 is a command of its path. -/
theorem exec_vbusBelow0v8_acts {s : State} {x : PathIx} {k : Hub} (hs : s.works (pathDom x)) (made : s.hub.quiet.below0v8 x = k) :
    exec (.vbusBelow0v8 x) s = .next (s.put k) :=
  (if_pos hs.1).trans (onPath_acts hs made)

/-- HUSK_ATTACH_SENSE is a command of the Husk: it waits for no domain (R52). -/
theorem exec_huskAttachSense_acts {s : State} {p : PodIx} {c1 c2 : Term} {k : Hub} (out : s.hub.held = .none)
    (made : s.hub.quiet.huskSense p c1 c2 = k) : exec (.huskAttachSense p c1 c2) s = .next (s.put k) :=
  perform_acts (f := fun h => h.huskSense p c1 c2) out made

/-- Settles O4: each command where its conditions hold, then each as the operation it names; of a device held in reset VBUS's fall
alone (R463). -/
theorem holdAndSense : Obligations.HoldAndSense := by
  refine ⟨fun s p x sp c1 c2 => ⟨?holds, ?reported, ?recover, ?expiry, ?fall, ?sense⟩,
    fun s => ⟨?path, ?inReset, ?pods, ?husk⟩⟩
  case holds =>
    exact fun hs d linked state window free avail stands powered losable =>
      onPod_acts hs (Hub.dataLinkLoss_holds d linked state window free avail stands powered losable)
  case reported =>
    exact fun hs d linked state free detects => onPod_acts hs (Hub.dataLinkLoss_reported d linked state free detects)
  case recover =>
    exact fun hd hs held => ⟨onPod_acts hs (Hub.holdRecover_same held),
      fun other ok => onPod_acts hs (Hub.holdRecover_other held other ok)⟩
  case expiry => exact fun hs => onPod_acts hs rfl
  case fall => exact fun hs off noPod => exec_vbusBelow0v8_acts hs (Hub.below0v8_off off noPod)
  case sense => exact fun out ret senses src rd => exec_huskAttachSense_acts out (Hub.huskSense_wakes ret senses src rd)
  case path => exact fun x hs => exec_vbusBelow0v8_acts hs rfl
  case inReset => exact fun x held => if_neg held
  case pods => exact fun p hs => ⟨onPod_acts hs rfl, fun _ => onPod_acts hs rfl, onPod_acts hs rfl⟩
  case husk => exact fun out _ _ _ => exec_huskAttachSense_acts out rfl

end Sys2Proof.Machine

namespace Sys2Proof.Machine

/-! What a capability list offers and what a granted Request takes. -/

section
variable {h : Hub} {p : PodIx}

/-! #### One offer -/

/-- The current that a power carries at a voltage, rounded down, takes no more than that power (R72). -/
theorem mul_floorCurrent_le (q v step : Nat) : v * floorCurrent q v step ≤ 2500 * q :=
  calc v * floorCurrent q v step ≤ v * (q * 2500 / v) := Nat.mul_le_mul_left v (Nat.div_mul_le_self _ _)
    _ ≤ q * 2500 := Nat.mul_div_le _ _
    _ = 2500 * q := Nat.mul_comm _ _

/-- An offered current keeps the connector's 5 A, the cable's current and the pod's power (R72). -/
def Hub.carries (h : Hub) (p : PodIx) (v i : Nat) : Prop := i ≤ 500 ∧ i ≤ h.cableAmps p ∧ v * i ≤ 2500 * h.pdPower p

/-- An object of a list keeps the limits; with one but that of 5 V come 1.00 A at least, at a voltage of the cable (R72). -/
def Hub.offerOk (h : Hub) (p : PodIx) : PdObject → Prop
  | .none => True
  | .fixed v i => h.carries p v i ∧ (v ≠ 500 → 100 ≤ i ∧ v ≤ h.cableVolts p)
  | .pps v i => h.carries p v i ∧ 100 ≤ i ∧ v ≤ h.cableVolts p

/-- A current cut to the limit and to the power keeps both (R72). -/
theorem Hub.carries_min (v step : Nat) :
    h.carries p v (min (min 500 (h.cableAmps p)) (floorCurrent (h.pdPower p) v step)) := by
  have power := mul_floorCurrent_le (h.pdPower p) v step
  have cut := Nat.mul_le_mul_left v (Nat.min_le_right (min 500 (h.cableAmps p)) (floorCurrent (h.pdPower p) v step))
  exact ⟨by omega, by omega, cut.trans power⟩

/-- The 5 V object is always offered (R72). -/
theorem fixedOffer_5v (q lim : Nat) : fixedOffer q lim 500 true = [.fixed 500 (min lim (floorCurrent q 500 1))] := rfl

/-- A fixed object of a voltage that the cable carries keeps the limits. -/
theorem Hub.fixedOffer_ok {v : Nat} {enabled : Bool} (cable : v = 500 ∨ (enabled = true → v ≤ h.cableVolts p)) :
    ∀ o ∈ fixedOffer (h.pdPower p) (min 500 (h.cableAmps p)) v enabled, h.offerOk p o := by
  intro o ho
  unfold fixedOffer at ho
  dsimp only at ho
  split at ho
  · next five =>
    obtain rfl := List.mem_singleton.mp ho
    exact ⟨Hub.carries_min v 1, absurd five⟩
  · next higher =>
    split at ho
    · next offered =>
      simp only [Bool.and_eq_true, decide_eq_true_eq] at offered
      obtain ⟨on, amp⟩ := offered
      obtain rfl := List.mem_singleton.mp ho
      exact ⟨Hub.carries_min v 1, fun _ => ⟨amp, cable.resolve_left higher on⟩⟩
    · exact absurd ho List.not_mem_nil

/-- A PPS object keeps the limits. -/
theorem Hub.ppsOffer_ok (vmax : Nat) :
    ∀ o ∈ ppsOffer (h.pdPower p) (min 500 (h.cableAmps p)) vmax (h.cableVolts p), h.offerOk p o := by
  intro o ho
  unfold ppsOffer at ho
  dsimp only at ho
  split at ho
  · next offered =>
    obtain rfl := List.mem_singleton.mp ho
    exact ⟨Hub.carries_min vmax 5, offered⟩
  · exact absurd ho List.not_mem_nil

/-- A cable that permits EPR carries 28 V (R71). -/
theorem Hub.cableVolts_of_cableEpr (epr : h.cableEpr p = true) : h.cableVolts p = 2800 := by
  simp only [Hub.cableEpr, Bool.and_eq_true, decide_eq_true_eq] at epr
  exact epr.2

/-! #### The list -/

/-- The objects of SPR, by position (R72). -/
def Hub.sprList (h : Hub) (p : PodIx) : List PdObject :=
  let q := h.pdPower p
  let lim := min 500 (h.cableAmps p)
  let vc := h.cableVolts p
  fixedOffer q lim 500 true
    ++ fixedOffer q lim 900 ((h.fixEn p).testBit 0 && 900 ≤ vc)
    ++ fixedOffer q lim 1500 ((h.fixEn p).testBit 1 && 1500 ≤ vc)
    ++ fixedOffer q lim 2000 ((h.fixEn p).testBit 2 && 2000 ≤ vc)
    ++ (if h.ppsEn p && (h.pde p).r3 && h.rev3En p then ppsOffer q lim 1100 vc ++ ppsOffer q lim 2100 vc else [])

/-- A list is that of SPR; in EPR mode 28 V may follow at position 8, over a cable that permits it and with 1.00 A at least
(R72). -/
theorem Hub.pdList_cases (h : Hub) (p : PodIx) :
    h.pdList p = h.sprList p ∨
      ∃ n, ∃ i, i = min (min 500 (h.cableAmps p)) (floorCurrent (h.pdPower p) 2800 1) ∧ 100 ≤ i ∧ h.cableEpr p = true ∧
        h.pdList p = h.sprList p ++ List.replicate n PdObject.none ++ [.fixed 2800 i] := by
  unfold Hub.pdList
  dsimp only
  split
  · next epr =>
    simp only [Bool.and_eq_true, decide_eq_true_eq] at epr
    obtain ⟨⟨-, cable⟩, amp⟩ := epr
    exact .inr ⟨_, _, rfl, amp, cable, rfl⟩
  · exact .inl rfl

/-- Every object of SPR keeps the limits. -/
theorem Hub.sprList_ok : ∀ o ∈ h.sprList p, h.offerOk p o := by
  intro o ho
  simp only [Hub.sprList, List.mem_append] at ho
  obtain (((v5 | v9) | v15) | v20) | pps := ho
  · exact Hub.fixedOffer_ok (.inl rfl) o v5
  · exact Hub.fixedOffer_ok (.inr fun on => of_decide_eq_true (Bool.and_eq_true_iff.mp on).2) o v9
  · exact Hub.fixedOffer_ok (.inr fun on => of_decide_eq_true (Bool.and_eq_true_iff.mp on).2) o v15
  · exact Hub.fixedOffer_ok (.inr fun on => of_decide_eq_true (Bool.and_eq_true_iff.mp on).2) o v20
  · split at pps
    · exact (List.mem_append.mp pps).elim (Hub.ppsOffer_ok 1100 o) (Hub.ppsOffer_ok 2100 o)
    · exact absurd pps List.not_mem_nil

/-- Every object of a list keeps the limits (R72). -/
theorem Hub.pdList_ok : ∀ o ∈ h.pdList p, h.offerOk p o := by
  intro o ho
  obtain spr | ⟨n, i, cut, amp, epr, all⟩ := h.pdList_cases p
  · exact Hub.sprList_ok o (spr ▸ ho)
  · rw [all, List.mem_append, List.mem_append, List.mem_replicate, List.mem_singleton] at ho
    obtain (low | ⟨-, rfl⟩) | rfl := ho
    · exact Hub.sprList_ok o low
    · trivial
    · exact ⟨cut ▸ Hub.carries_min 2800 1, fun _ => ⟨amp, (Hub.cableVolts_of_cableEpr epr).ge⟩⟩

/-- A list starts with the 5 V object (R72). -/
theorem Hub.pdList_5v (h : Hub) (p : PodIx) : ∃ i rest, h.pdList p = .fixed 500 i :: rest := by
  obtain spr | ⟨n, i, -, -, -, all⟩ := h.pdList_cases p
  · exact ⟨_, _, spr⟩
  · exact ⟨_, _, all⟩

end

/-! #### A granted Request -/

/-- The charge of a contract covers its voltage and current (R74, R154). -/
theorem mul_le_charge (v i : Nat) : v * i ≤ 2500 * max 18 ((v * i + 2499) / 2500) := by omega

/-- A granted Request names an offered object, by a position from 1 on (R74). -/
theorem requestOf_some_cases {offers : List PdObject} {r : PdRdo} {k : Contract} {c : Nat} (granted : requestOf offers r = (some k, c)) :
    1 ≤ r.pos ∧ k.pos = r.pos ∧ k.charge = c ∧ c = max 18 ((k.v * k.i + 2499) / 2500) ∧
      ((∃ v i, offers.getD (r.pos - 1) .none = .fixed v i ∧ k.v = v ∧ k.i ≤ i) ∨
        ∃ v i, offers.getD (r.pos - 1) .none = .pps v i ∧ k.v = r.ppsV ∧ 330 ≤ k.v ∧ k.v ≤ v ∧ k.i ≤ i) := by
  unfold requestOf at granted
  split at granted
  · cases granted
  · next v i offer =>
    dsimp only at granted
    split at granted
    · cases granted
    · next pos =>
      split at granted
      · cases granted
      · cases granted
        exact ⟨Nat.one_le_iff_ne_zero.mpr pos, rfl, rfl, rfl, .inl ⟨v, i, offer, rfl, Nat.min_le_right _ _⟩⟩
  · next v i offer =>
    dsimp only at granted
    split at granted
    · cases granted
    · next pos =>
      split at granted
      · cases granted
      · next inRange =>
        simp only [Bool.or_eq_true, decide_eq_true_eq, not_or, Nat.not_lt] at inRange
        obtain ⟨⟨-, low⟩, high⟩ := inRange
        cases granted
        exact ⟨Nat.one_le_iff_ne_zero.mpr pos, rfl, rfl, rfl, .inr ⟨v, i, offer, rfl, low, high, Nat.min_le_right _ _⟩⟩

/-- Settles O5: every object of a list keeps the limits, and a granted Request takes what its object offers. -/
theorem offersAndContracts : Obligations.OffersAndContracts := by
  refine ⟨Hub.pdList_5v, fun h p v i offered => ?fixed, fun h p v i offered => ?pps, fun offers r k c granted => ?granted⟩
  case fixed =>
    obtain ⟨⟨amps, cable, power⟩, high⟩ : h.offerOk p (.fixed v i) := Hub.pdList_ok _ offered
    exact ⟨amps, cable, power, high⟩
  case pps =>
    obtain ⟨⟨amps, cable, power⟩, high⟩ : h.offerOk p (.pps v i) := Hub.pdList_ok _ offered
    exact ⟨amps, cable, power, high⟩
  case granted =>
    obtain ⟨first, pos, charge, rfl, offer⟩ := requestOf_some_cases granted
    refine ⟨charge, le_max_left _ _, mul_le_charge _ _, pos, first, fun v i fixed => ?_, fun v i pps => ?_⟩
    · obtain ⟨v', i', same, volts, amps⟩ | ⟨v', i', other, -⟩ := offer
      · cases fixed.symm.trans same
        exact ⟨volts, amps⟩
      · cases fixed.symm.trans other
    · obtain ⟨v', i', other, -⟩ | ⟨v', i', same, takes⟩ := offer
      · cases pps.symm.trans other
      · cases pps.symm.trans same
        exact takes

end Sys2Proof.Machine

namespace Sys2Proof.Machine

/-! A PD message as its answer finds the hub: it was counted and captured, and the engine's revision is settled. -/

section
variable (h : Hub) (p q : PodIx) (f : PdFrame) (cable : Bool)

/-- Of an engine the receipt of a message leaves everything that decides an answer, but for the revision (R70). -/
theorem Hub.pdRx_engine :
    let e := (h.pdRx p f cable).pde q
    e.state = (h.pde q).state ∧ e.roleSrc = (h.pde q).roleSrc ∧ e.dfp = (h.pde q).dfp ∧ e.eprMode = (h.pde q).eprMode ∧
      e.contract = (h.pde q).contract ∧ e.pending = (h.pde q).pending ∧ e.offers = (h.pde q).offers ∧ e.await = (h.pde q).await ∧
      e.waits = (h.pde q).waits ∧ e.swap = (h.pde q).swap ∧ e.cable = (h.pde q).cable ∧ e.discDone = (h.pde q).discDone ∧
      e.probe = (h.pde q).probe := by
  obtain ⟨known, three, engine⟩ := h.pdRx_pde p f cable q
  simp [engine]

/-- The receipt of a message changes no programmable bit. -/
theorem Hub.pdRx_flag (off bit : Nat) : (h.pdRx p f cable).flag off bit = h.flag off bit := by
  simp [Hub.flag, Hub.cfg, Hub.act, Hub.pdRx_frame]

/-- The receipt of a message changes no path. -/
theorem Hub.pdRx_vb (x : PathIx) : (h.pdRx p f cable).vb x = h.vb x := by
  simp [Hub.vb, Hub.pdRx_frame]

end

/-- A message that the engine hears ends in the block its answer makes of the hub as received. -/
theorem hears_acts {s : State} {p : PodIx} {f : PdFrame} {act : Hub → Hub} {k : Hub} (hs : s.hears p)
    (made : act (s.hub.quiet.pdRx p f false) = k) : (onPod s p fun h => h.pdOn p f act) = .next (s.put k) := by
  rw [hears_run hs, made]

/-! #### Answers that Revision 2.0 rules do not have -/

section
variable {h : Hub} {p : PodIx} {k : PdKind} {bs : List (BitVec 8)}

/-- Under Revision 3 rules an extended question that applies gets its extended answer (R70). -/
theorem Hub.pdAnswerExt_r3 {ok : Bool} (applies : ok = true) (r3 : (h.pde p).r3 = true) :
    h.pdAnswerExt p ok k bs = h.pdSendExt p k bs := by
  simp [Hub.pdAnswerExt, applies, r3]

/-- An extended question that does not apply is not supported (R90). -/
theorem Hub.pdAnswerExt_inapplicable {ok : Bool} (inapplicable : ok = false) : h.pdAnswerExt p ok k bs = h.pdNotSup p := by
  simp [Hub.pdAnswerExt, inapplicable]

/-- Under Revision 2.0 rules an extended question is rejected (R70, R90). -/
theorem Hub.pdAnswerExt_r2 {ok : Bool} (r2 : (h.pde p).r3 = false) : h.pdAnswerExt p ok k bs = h.pdCtl p .reject := by
  simp [Hub.pdAnswerExt, Hub.pdNotSup, r2]

end

/-- Settles O6: messages that are captured only, rejected, violations, questions, and structured VDMs. The answers outside PDE.READY
are log 69, the record of a received Alert log 47, the layouts log 42. -/
theorem plainMessages : Obligations.PlainMessages := by
  intro s p f svid hs g
  obtain ⟨-, -, dfp, -⟩ := s.hub.quiet.pdRx_engine p p f false
  refine ⟨?ping, ?sinkCaps, ?asked, ?unasked, ?attention, ?cableReset, ?drSwap, ?prSwap, ?unsupported, ?malformed, ?unexpected,
    ?extended, ?rejected, ?revision, ?alert, ?softReset, ?identity, ?downstream, ?upstream, ?svids, ?svid⟩
  case ping | sinkCaps | asked | unasked | attention | malformed | unexpected => exact hears_acts hs rfl
  case drSwap | prSwap | unsupported | revision | alert | softReset | identity | svid => exact hears_acts hs rfl
  case cableReset => exact onPod_acts hs.1 rfl
  case extended => exact fun r3 => ⟨hears_acts hs (Hub.pdAnswerExt_r3 rfl r3), hears_acts hs (Hub.pdAnswerExt_r3 rfl r3)⟩
  case rejected => exact fun r2 => ⟨hears_acts hs (Hub.pdAnswerExt_r2 r2), hears_acts hs (Hub.pdAnswerExt_r2 r2)⟩
  case downstream =>
    intro down
    have down' : (g.pde p).dfp = true := dfp.trans down
    exact ⟨hears_acts hs (if_neg (by simp [g, down'])), hears_acts hs (if_neg (by simp [g, down'])), hears_acts hs (if_pos down')⟩
  case upstream =>
    intro up
    have up' : (g.pde p).dfp = false := dfp.trans up
    exact ⟨hears_acts hs (if_pos (by simp [g, up', octalmyaVid])), hears_acts hs (if_neg (by simp [g, up']))⟩
  case svids =>
    intro up cascade
    have up' : (g.pde p).dfp = false := dfp.trans up
    have cascade' : g.casEn p = true := (Hub.pdRx_flag _ _ _ _ _ _).trans cascade
    exact hears_acts hs (if_pos (by simp [g, up', cascade']))

/-! What a partner may ask of a pod, where the pod has the answer. -/

section
variable {h : Hub} {p : PodIx} {f : PdFrame}

/-- EPR is not for a pod that is no D pod (R81, R90). -/
theorem Hub.eprReceived_upstream (d : isD p = false) (a : EprAction) : h.eprReceived p f a = h.pdNotSup p := by
  simp [Hub.eprReceived, d]

/-- The partner leaves EPR mode: the list of SPR follows (R82). -/
theorem Hub.eprReceived_exit (d : isD p = true) (r3 : (h.pde p).r3 = true) (epr : (h.pde p).eprMode = true) :
    h.eprReceived p f .exit = (h.pdEprEnd p).pdSendCaps p := by
  simp [Hub.eprReceived, d, r3, epr]

/-- EPR entry in PDE.READY under a contract that allows it (R81). -/
theorem Hub.eprReceived_enter (d : isD p = true) (r3 : (h.pde p).r3 = true) (asked : (h.pde p).sprAsked = true)
    (ready : (h.pde p).state = .ready) : h.eprReceived p f .enter = h.eprEnter p := by
  simp [Hub.eprReceived, d, r3, asked, ready]

/-- EPR entry without such a contract fails at row 1 (R81). -/
theorem Hub.eprReceived_unasked (d : isD p = true) (r3 : (h.pde p).r3 = true) (unasked : (h.pde p).sprAsked = false) :
    h.eprReceived p f .enter = h.eprFail p 1 := by
  simp [Hub.eprReceived, d, r3, unasked]

/-- BIST on a sink without an explicit contract, whose VBUS is vSafe5V (R91). -/
theorem Hub.bistReceived_sink {mode : BistMode} (carried : mode ≠ .sharedTest) (enabled : h.bistEn p = true)
    (sink : (h.pde p).roleSrc = false) (implicit : (h.pde p).contract.ctype = 0) :
    h.bistReceived p mode = h.emit (.bist p.val mode) := by
  simp [Hub.bistReceived, Pde.explicit, carried, enabled, sink, implicit]

/-- Shared Test Mode is ignored (R91). -/
theorem Hub.bistReceived_sharedTest : h.bistReceived p .sharedTest = h := by
  simp [Hub.bistReceived]

end

/-- Settles O7: each question where its conditions hold, then those with conditions as the operations they name. The answers outside
PDE.READY are log 69, the layouts log 42, the order of R81's rows log 98. -/
theorem partnerQuestions : Obligations.PartnerQuestions := by
  refine ⟨fun s p f hs => ?messages, fun s p hs => ?general⟩
  case messages =>
    intro g
    obtain ⟨state, roleSrc, -, eprMode, contract, -⟩ := s.hub.quiet.pdRx_engine p p f false
    refine ⟨?source, ?sink, ?pps, ?noPps, ?downstream, ?upstream, ?epr, ?enter, ?unasked, ?bist, ?sharedTest⟩
    case source =>
      intro src
      have src' : (g.pde p).roleSrc = true := roleSrc.trans src
      exact ⟨hears_acts hs (if_pos src'), fun r3 => hears_acts hs (Hub.pdAnswerExt_r3 src' r3), hears_acts hs (if_pos src')⟩
    case sink =>
      intro sink
      have sink' : (g.pde p).roleSrc = false := roleSrc.trans sink
      exact ⟨hears_acts hs (Hub.pdAnswerExt_inapplicable sink'), hears_acts hs (if_neg (by simp [g, sink']))⟩
    case pps =>
      exact fun pps r3 => hears_acts hs (Hub.pdAnswerExt_r3 (decide_eq_true (by rw [contract]; exact pps)) r3)
    case noPps =>
      exact fun other => hears_acts hs (Hub.pdAnswerExt_inapplicable (decide_eq_false (by rw [contract]; exact other)))
    case downstream =>
      exact fun d => ⟨hears_acts hs (if_pos d), hears_acts hs (Hub.pdAnswerExt_inapplicable (by simp [d])),
        fun r3 => hears_acts hs (if_pos (by rw [d, r3]; rfl))⟩
    case upstream =>
      exact fun d => ⟨hears_acts hs (if_neg (by simp [d])), fun r3 => hears_acts hs (Hub.pdAnswerExt_r3 (by simp [d]) r3),
        hears_acts hs (if_neg (by simp [d])), hears_acts hs (Hub.eprReceived_upstream d .enter)⟩
    case epr =>
      intro epr
      have epr' : (g.pde p).eprMode = true := eprMode.trans epr
      exact ⟨hears_acts hs (if_pos epr'), fun d r3 => hears_acts hs (Hub.eprReceived_exit d r3 epr')⟩
    case enter => exact fun d r3 asked ready => hears_acts hs (Hub.eprReceived_enter d r3 asked (state.trans ready))
    case unasked => exact fun d r3 unasked => hears_acts hs (Hub.eprReceived_unasked d r3 unasked)
    case bist =>
      intro mode carried enabled sink implicit
      refine hears_acts hs (Hub.bistReceived_sink carried ?_ (roleSrc.trans sink) (by rw [contract]; exact implicit))
      exact (Hub.pdRx_flag _ _ _ _ _ _).trans enabled
    case sharedTest => exact hears_acts hs Hub.bistReceived_sharedTest
  case general =>
    exact ⟨fun _ => hears_acts hs rfl, fun _ _ => hears_acts hs rfl, fun _ _ => hears_acts hs rfl, fun _ => hears_acts hs rfl,
      fun _ => hears_acts hs rfl, fun _ => hears_acts hs rfl⟩

/-! Requests and their answers, a sink's Request, contracts coming into force. -/

section
variable {h : Hub} {p : PodIx} {f : PdFrame}

/-- A source pod that has sent capabilities takes a Request (R74). -/
theorem Pde.takesRequest_negotiate {e : Pde} (src : e.roleSrc = true) (sent : e.state = .negotiate) : e.takesRequest = true := by
  simp [Pde.takesRequest, src, sent]

/-- A valid Request within the charge is accepted (R74). -/
theorem Hub.pdRequest_within {r : PdRdo} {k : Contract} {c : Nat} (takes : (h.pde p).takesRequest = true)
    (valid : requestOf (h.pde p).offers r = (some k, c)) (fits : c ≤ (h.budIdle.cons (podPath p)).charge) :
    h.pdRequest p f r = h.budIdle.pdAccept p k r.eprCap := by
  simp [Hub.pdRequest, takes, valid, fits]

/-- An invalid Request is rejected, counted and journaled as a violation (R74, R94). -/
theorem Hub.pdRequest_invalid {r : PdRdo} {c : Nat} (takes : (h.pde p).takesRequest = true)
    (invalid : requestOf (h.pde p).offers r = (none, c)) :
    h.pdRequest p f r =
      ((((((h.pdCtl p .reject).pdEvt p 6).bump (cntPd p 9)).raise (srcPd p) 0x2080 1 (1 :: le16 c)).pdViolNote p 9
        f.header.toNat).modPde p fun e => { e with resend := e.resend || !e.explicit }).pdReady p := by
  simp [Hub.pdRequest, takes, invalid]

/-- The source accepts a sink's Request before the sink switch closes: the transition starts (R83, R91). -/
theorem Hub.pdAccepted_switchOpen (awaits : (h.pde p).await = .accept) (off : h.vbOn (podPath p) = false) :
    h.pdAccepted p f = h.modPde p fun e => { e with state := .transition, await := .nothing } := by
  have off' : (h.modPde p fun e => { e with state := .transition, await := .nothing }).vbOn (podPath p) = false := off
  simp only [Hub.pdAccepted, awaits, off']
  split <;> simp

/-- The source accepts a sink's Request with the sink switch closed: it is a voltage transition from there on (R137). -/
theorem Hub.pdAccepted_switchClosed {c : Contract} (awaits : (h.pde p).await = .accept) (on : h.vbOn (podPath p) = true)
    (sink : (h.vb (podPath p)).sinkDir = true) (pending : (h.pde p).pending = some c) :
    h.pdAccepted p f =
      (h.modPde p fun e => { e with state := .transition, await := .nothing }).vbSetTarget (podPath p) c.v := by
  have closed : (h.modPde p fun e => { e with state := .transition, await := .nothing }).vbOn (podPath p) = true := on
  have sink' : ((h.modPde p fun e => { e with state := .transition, await := .nothing }).vb (podPath p)).sinkDir = true := sink
  simp [Hub.pdAccepted, awaits, pending, closed, sink']

/-- A refused Request leaves nothing pending (R83, R91). -/
theorem Hub.pdRefused_request (awaits : (h.pde p).await = .accept) (notSup : Bool) :
    h.pdRefused p f notSup = (h.modPde p fun e => { e with pending := none }).pdBack p := by
  simp only [Hub.pdRefused, awaits]

/-- A Request put off leaves nothing pending (R91). -/
theorem Hub.pdWaited_request (awaits : (h.pde p).await = .accept) :
    h.pdWaited p f = (h.modPde p fun e => { e with pending := none }).pdBack p := by
  simp only [Hub.pdWaited, awaits]

/-- Up to three Waits put the pod's VCONN_Swap off (R86). -/
theorem Hub.pdWaited_vconnSwap (awaits : (h.pde p).await = .vconnSwap) (few : (h.pde p).waits < 3) :
    h.pdWaited p f =
      (h.modPde p fun e => { e with waits := e.waits + 1, vcWaiting := true, swap := .idle, swapOwn := false }).pdReady p := by
  simp [Hub.pdWaited, awaits, Nat.not_le.mpr few]

/-- A fourth Wait refuses the pod's VCONN_Swap (R86). -/
theorem Hub.pdWaited_fourth (awaits : (h.pde p).await = .vconnSwap) (many : 3 ≤ (h.pde p).waits) :
    h.pdWaited p f = h.vconnRefused p := by
  simp [Hub.pdWaited, awaits, many]

/-- PS_RDY outside a swap puts a sink's contract into force (R83). -/
theorem Hub.psRdyReceived_contract (noSwap : (h.pde p).swap ≠ .awaitPsRdy) (sink : (h.pde p).roleSrc = false)
    (transition : (h.pde p).state = .transition) : h.psRdyReceived p f = h.snkPsRdy p := by
  simp [Hub.psRdyReceived, noSwap, sink, transition]

/-- A contract at the present voltage, PPS neither before nor after, is in force at once (R75). -/
theorem Hub.pdSrcTransition_same {c : Contract} (pending : (h.pde p).pending = some c) (transition : (h.pde p).state = .transition)
    (unasked : (h.pde p).converterAsked = false) (src : (h.pde p).roleSrc = true) (same : c.v = (h.vb (podPath p)).vTgt)
    (noPps : c.ctype ≠ 2) (wasNoPps : (h.pde p).contract.ctype ≠ 2) : h.pdSrcTransition p = h.pdPsRdy p := by
  simp [Hub.pdSrcTransition, pending, transition, unasked, src, same, noPps, wasNoPps]

/-- A contract at another voltage asks the converter for it (R75). -/
theorem Hub.pdSrcTransition_other {c : Contract} (pending : (h.pde p).pending = some c) (transition : (h.pde p).state = .transition)
    (unasked : (h.pde p).converterAsked = false) (src : (h.pde p).roleSrc = true) (other : c.v ≠ (h.vb (podPath p)).vTgt)
    (noPps : c.ctype ≠ 2) :
    h.pdSrcTransition p =
      ((h.modPde p fun e => { e with converterAsked := true }).vbSetTarget (podPath p) c.v).rlRequest (pathOwner (podPath p))
        (.voltage c.v) := by
  simp [Hub.pdSrcTransition, Contract.converter, pending, transition, unasked, src, other, noPps]

end

/-- Settles O8: each message of a negotiation where its conditions hold, then each as the operation it names. -/
theorem negotiation : Obligations.Negotiation := by
  refine ⟨fun s p f hs => ?messages, fun s p hs => ?general⟩
  case messages =>
    intro g
    obtain ⟨state, roleSrc, -, -, -, pending, offers, await, waits, swap, -⟩ := s.hub.quiet.pdRx_engine p p f false
    have vb := s.hub.quiet.pdRx_vb p f false (podPath p)
    have takes : (s.hub.pde p).roleSrc = true → (s.hub.pde p).state = .negotiate → (g.pde p).takesRequest = true :=
      fun src sent => Pde.takesRequest_negotiate (roleSrc.trans src) (state.trans sent)
    refine ⟨?within, ?invalid, ?sinkAsks, ?sourceOffered, ?switchOpen, ?switchClosed, ?refused, ?waits, ?fourth, ?inForce, ?swapped,
      ?same, ?other⟩
    case within =>
      exact fun r k c src sent valid fits =>
        hears_acts hs (Hub.pdRequest_within (takes src sent) (by rw [offers]; exact valid) fits)
    case invalid =>
      exact fun r c src sent invalid => hears_acts hs (Hub.pdRequest_invalid (takes src sent) (by rw [offers]; exact invalid))
    case sinkAsks => exact fun objs sink => hears_acts hs (if_neg (by rw [roleSrc]; simp [sink]))
    case sourceOffered => exact fun objs src => hears_acts hs (if_pos (roleSrc.trans src))
    case switchOpen =>
      exact fun awaits off => hears_acts hs (Hub.pdAccepted_switchOpen (await.trans awaits) (by rw [Hub.vbOn, vb]; exact off))
    case switchClosed =>
      exact fun c awaits on sink asked => hears_acts hs
        (Hub.pdAccepted_switchClosed (await.trans awaits) (by rw [Hub.vbOn, vb]; exact on) (by rw [vb]; exact sink)
          (pending.trans asked))
    case refused =>
      intro awaits
      have awaits' : (g.pde p).await = .accept := await.trans awaits
      exact ⟨hears_acts hs (Hub.pdRefused_request awaits' false), hears_acts hs (Hub.pdWaited_request awaits'),
        hears_acts hs (Hub.pdRefused_request awaits' true)⟩
    case waits =>
      exact fun awaits few => hears_acts hs (Hub.pdWaited_vconnSwap (await.trans awaits) (by rw [waits]; exact few))
    case fourth =>
      exact fun awaits many => hears_acts hs (Hub.pdWaited_fourth (await.trans awaits) (by rw [waits]; exact many))
    case inForce =>
      exact fun noSwap sink transition => hears_acts hs
        (Hub.psRdyReceived_contract (by rw [swap]; exact noSwap) (roleSrc.trans sink) (state.trans transition))
    case swapped => exact fun awaits => hears_acts hs (if_pos (swap.trans awaits))
    case same =>
      exact fun c asked transition unasked src same noPps wasNoPps =>
        onPod_acts hs.1 (Hub.pdSrcTransition_same asked transition unasked src same noPps wasNoPps)
    case other =>
      exact fun c asked transition unasked src other noPps =>
        onPod_acts hs.1 (Hub.pdSrcTransition_other asked transition unasked src other noPps)
  case general =>
    exact ⟨fun _ _ => hears_acts hs rfl, fun _ => hears_acts hs rfl, fun _ => hears_acts hs rfl, fun _ => hears_acts hs rfl,
      fun _ => hears_acts hs rfl, fun _ => hears_acts hs rfl, fun _ => hears_acts hs rfl⟩

/-! Discovery of the cable, swaps of VCONN, the cascade probe. -/

section
variable {h : Hub} {p : PodIx}

/-! #### The cable -/

/-- With VCONN on, a working engine asks the cable, which counts as an attempt (R84). -/
theorem Hub.cableAsk_asks (vconn : (h.tc p).vconnOn = true) (works : (h.pde p).state ≠ .disabled) :
    h.cableAsk p =
      (h.modPde p fun e => { e with attempts := e.attempts + 1, cable := .asked }).pdSend p .vdm true [h.vdmHead p 0xFF00 0 0 1] :=
  if_pos (by simp [vconn, works])

/-- The first attempt on the cable (R84). -/
theorem Hub.cableFirst_asks (src : (h.pde p).roleSrc = true) (first : (h.pde p).discDone = false) (idle : (h.pde p).cable = .idle)
    (vconn : (h.tc p).vconnOn = true) (works : (h.pde p).state ≠ .disabled) :
    h.cableFirst p =
      (h.modPde p fun e => { e with attempts := e.attempts + 1, cable := .asked }).pdSend p .vdm true
        [h.vdmHead p 0xFF00 0 0 1] := by
  rw [← Hub.cableAsk_asks vconn works]
  simp [Hub.cableFirst, src, first, idle, vconn]

/-- A cable that did not answer is asked again in an AMS of its own (R84). -/
theorem Hub.cableAgain_silent (silent : (h.pde p).cable = .silent) (left : (h.pde p).attempts ≤ h.cblRetry p)
    (src : (h.pde p).roleSrc = true) (vconn : (h.tc p).vconnOn = true) :
    h.cableAgain p = (h.modPde p fun e => { e with pendCable := true }).pdTxPlan p := by
  simp [Hub.cableAgain, silent, left, src, vconn]

/-- A cable that was BUSY is asked again in the discovery under way (R84). -/
theorem Hub.cableAgain_busy (busy : (h.pde p).cable = .busy) (vconn : (h.tc p).vconnOn = true)
    (discovery : (h.pde p).state = .cableDisc) :
    h.cableAgain p =
      (h.modPde p fun e => { e with attempts := e.attempts + 1, cable := .asked }).pdSend p .vdm true
        [h.vdmHead p 0xFF00 0 0 1] := by
  rw [← Hub.cableAsk_asks vconn (by simp [discovery])]
  simp [Hub.cableAgain, busy, vconn, discovery]

/-- The first discovery ends without an answer: the capabilities go out (R84). -/
theorem Hub.cableEnded_first (discovery : (h.pde p).state = .cableDisc) :
    h.cableEnded p .silent false false = (h.modPde p fun e => { e with discDone := true, cable := .silent }).pdSendCaps p := by
  simp [Hub.cableEnded, discovery]

/-- BUSY at the first discovery does not count as an attempt (R84). -/
theorem Hub.cableAnswer_busy (asked : (h.pde p).cable = .asked) (first : (h.pde p).discDone = false) :
    h.cableAnswer p .busy = h.modPde p fun e => { e with attempts := e.attempts - 1, cable := .busy } := by
  simp [Hub.cableAnswer, asked, first]

/-- The cable's identity is noted and journaled (R71, R84). -/
theorem Hub.cableAnswer_ack (asked : (h.pde p).cable = .asked) (five : Bool) (v : Fin 4) (epr act : Bool) :
    h.cableAnswer p (.ack five v epr act) =
      (let k := h.modPde p fun e =>
         { e with emarked := true, discDone := true, iCbl := if five then 2 else 1, vCbl := v.val, eprCable := epr, activeCbl := act }
       ((k.pdEvt p 15).raise (srcPd p) 0x2040 1 (le32 (k.pde p).cableWord)).cableEnded p .answered true (h.pde p).discDone) := by
  simp [Hub.cableAnswer, asked]

/-! #### VCONN swaps -/

/-- In PDE.READY a permitted VCONN_Swap of the partner is accepted and runs (R85). -/
theorem Hub.vconnReceived_accepted (ready : (h.pde p).state = .ready) (enabled : h.vconnSwapEn p = true)
    (whole : (h.tc p).vconnOc = false) :
    h.vconnReceived p =
      ((h.modPde p fun e => { e with swap := .byPartner, swapOwn := false }).pdCtl p .accept).vconnRun p := by
  simp [Hub.vconnReceived, ready, enabled, whole]

/-- In PDE.READY a VCONN_Swap that is not permitted is rejected (R85). -/
theorem Hub.vconnReceived_rejected (ready : (h.pde p).state = .ready) (disabled : h.vconnSwapEn p = false) :
    h.vconnReceived p = h.pdCtl p .reject := by
  simp [Hub.vconnReceived, ready, disabled]

/-- In PDE.READY a sink sends its VCONN_Swap at once (R86). -/
theorem Hub.vconnNow_sink (ready : (h.pde p).state = .ready) (sink : (h.pde p).roleSrc = false) (due : h.vconnDue p = true) :
    h.vconnNow p = h.vconnSend p := by
  simp [Hub.vconnNow, ready, sink, due]

/-! #### Cascade mode -/

/-- A DFP refuses Enter Mode (R93). -/
theorem Hub.enterModeReceived_dfp (dfp : (h.pde p).dfp = true) (svid mode : Nat) :
    h.enterModeReceived p svid mode = h.vdmSend p svid mode 2 4 [] := by
  simp [Hub.enterModeReceived, dfp]

/-- A UFP that accepts a parent is a WORKER at once (R93, R259). -/
theorem Hub.enterModeReceived_parent (ufp : (h.pde p).dfp = false) (cascade : h.casEn p = true) (accepts : h.csbAccepts p = true) :
    h.enterModeReceived p octalmyaVid 1 =
      ((h.modPde p fun e => { e with enterAcked := true }).csbSetRole 1).vdmSend p octalmyaVid 1 1 4 [] := by
  simp [Hub.enterModeReceived, ufp, cascade, accepts]

/-- In its own AMS the probe waits for nothing but its answer (R93). -/
theorem Pde.probeWaits_vdmDisc {e : Pde} (discovery : e.state = .vdmDisc) : e.probeWaits = false := by
  simp [Pde.probeWaits, discovery]

/-- A suitable identity takes the probe on to Discover SVIDs (R93). -/
theorem Hub.probeAnswer_identity (discovery : (h.pde p).state = .vdmDisc) (step : (h.pde p).probe = .identity) :
    h.probeAnswer p (.identity true) = h.probeStep p .svids := by
  simp [Hub.probeAnswer, Pde.probeWaits_vdmDisc discovery, step]

/-- The partner's ACK to Enter Mode enters the mode and ends the probe (R93). -/
theorem Hub.probeAnswer_entered (discovery : (h.pde p).state = .vdmDisc) (step : (h.pde p).probe = .enter) :
    h.probeAnswer p .entered = (h.pdCasEnter p).probeEnd p := by
  simp [Hub.probeAnswer, Pde.probeWaits_vdmDisc discovery, step]

/-- After BUSY the probe's command goes out again in PDE.READY (R93). -/
theorem Hub.probeRetry_svids (busy : 0 < (h.pde p).busy) (step : (h.pde p).probe = .svids) (ready : (h.pde p).state = .ready)
    (noneDue : (h.pde p).probeDue = false) :
    h.probeRetry p = (h.modPde p fun e => { e with state := .vdmDisc, probeDue := false }).vdmSend p 0xFF00 0 0 2 [] := by
  simp [Hub.probeRetry, Hub.probeSend, busy.ne', step, ready, noneDue]

/-- A probe that ends in its own AMS goes back to PDE.READY (R93). -/
theorem Hub.probeEnd_vdmDisc (discovery : (h.pde p).state = .vdmDisc) :
    h.probeEnd p = (h.modPde p fun e => { e with probe := .ended, vdo := none, busy := 0 }).pdReady p := by
  simp [Hub.probeEnd, discovery]

end

/-- The cable's answer reaches a working engine, counted and captured as a message on SOP' (R71, R84). -/
theorem exec_cableIdentityResponse_acts {s : State} {p : PodIx} {f : PdFrame} {a : CableAnswer} {k : Hub} (hs : s.works (podDom p))
    (works : (s.hub.pde p).state ≠ .disabled) (made : (s.hub.quiet.pdRx p f true).cableAnswer p a = k) :
    exec (.cableIdentityResponse p f a) s = .next (s.put k) :=
  onPod_acts hs ((if_neg works).trans made)

/-- The cable, asked by a working engine, does not answer (R84). -/
theorem exec_cableDiscoveryTimeout_acts {s : State} {p : PodIx} {k : Hub} (hs : s.works (podDom p))
    (asked : (s.hub.pde p).cable = .asked) (works : (s.hub.pde p).state ≠ .disabled)
    (made : s.hub.quiet.cableEnded p .silent false (s.hub.pde p).discDone = k) :
    exec (.cableDiscoveryTimeout p) s = .next (s.put k) :=
  onPod_acts hs ((if_neg (by simp [asked, works])).trans made)

/-- A probe that awaits an answer ends without it (R93). -/
theorem exec_vdmResponseTimeout_acts {s : State} {p : PodIx} {k : Hub} (hs : s.works (podDom p)) (begun : (s.hub.pde p).probe ≠ .idle)
    (unended : (s.hub.pde p).probe ≠ .ended) (awaits : (s.hub.pde p).probeWaits = false) (made : s.hub.quiet.probeEnd p = k) :
    exec (.vdmResponseTimeout p) s = .next (s.put k) :=
  onPod_acts hs ((if_neg (by simp [begun, unended, awaits])).trans made)

/-- Settles O10: each event of the cable, of a VCONN swap and of the probe where its conditions hold, then each as the operation it
names. -/
theorem cableVconnProbe : Obligations.CableVconnProbe := by
  refine ⟨fun s p f hs works => ?events, fun s => ⟨fun p hs => ?timers, fun p hs => ?messages⟩⟩
  case events =>
    intro g
    obtain ⟨state, -, dfp, -, -, -, -, -, -, -, -, -, probe⟩ := s.hub.quiet.pdRx_engine p p f false
    obtain ⟨-, -, -, -, -, -, -, -, -, -, cable, discDone, -⟩ := s.hub.quiet.pdRx_engine p p f true
    have flag := s.hub.quiet.pdRx_flag p f false (podBase p + 0x200)
    refine ⟨?first, ?again, ?busyAgain, ?silent, ?busy, ?identified, ?accepted, ?rejected, ?send, ?waited, ?crossed, ?now, ?refused,
      ?parent, ?entered, ?svids, ?child, ?retry, ?unanswered⟩
    case first =>
      exact fun src undone idle vconn => onPod_acts hs (Hub.cableFirst_asks src undone idle vconn works)
    case again => exact fun silent left src vconn => onPod_acts hs (Hub.cableAgain_silent silent left src vconn)
    case busyAgain =>
      exact fun busy vconn discovery => onPod_acts hs (Hub.cableAgain_busy busy vconn discovery)
    case silent =>
      exact fun asked discovery first =>
        exec_cableDiscoveryTimeout_acts hs asked works (by rw [first]; exact Hub.cableEnded_first discovery)
    case busy =>
      exact fun asked first =>
        exec_cableIdentityResponse_acts hs works (Hub.cableAnswer_busy (cable.trans asked) (discDone.trans first))
    case identified =>
      intro asked five v epr act
      refine exec_cableIdentityResponse_acts hs works ((Hub.cableAnswer_ack (cable.trans asked) five v epr act).trans ?_)
      rw [discDone]
      rfl
    case accepted =>
      exact fun active ready enabled whole => hears_acts ⟨hs, active⟩
        (Hub.vconnReceived_accepted (state.trans ready) ((flag 4).trans enabled) (by rw [Hub.pdRx_tc]; exact whole))
    case rejected =>
      exact fun active ready disabled =>
        hears_acts ⟨hs, active⟩ (Hub.vconnReceived_rejected (state.trans ready) ((flag 4).trans disabled))
    case send => exact fun _ pending sink => onPod_acts hs (if_pos (by simp [pending, sink]))
    case waited => exact fun waits => onPod_acts hs (if_pos waits)
    case crossed => exact fun crossed => onPod_acts hs (if_pos crossed)
    case now => exact fun ready sink due => Hub.vconnNow_sink ready sink due
    case refused =>
      exact fun active down svid mode =>
        hears_acts ⟨hs, active⟩ (Hub.enterModeReceived_dfp (dfp.trans down) svid.toNat mode)
    case parent =>
      exact fun active up cascade accepts => hears_acts ⟨hs, active⟩
        (Hub.enterModeReceived_parent (dfp.trans up) ((flag 7).trans cascade) accepts)
    case entered => exact fun acked => onPod_acts hs (if_pos acked)
    case svids =>
      exact fun active discovery step =>
        hears_acts ⟨hs, active⟩ (Hub.probeAnswer_identity (state.trans discovery) (probe.trans step))
    case child =>
      exact fun active discovery step =>
        hears_acts ⟨hs, active⟩ (Hub.probeAnswer_entered (state.trans discovery) (probe.trans step))
    case retry => exact fun busy step ready noneDue => onPod_acts hs (Hub.probeRetry_svids busy step ready noneDue)
    case unanswered =>
      exact fun step discovery => exec_vdmResponseTimeout_acts hs (by simp [step]) (by simp [step])
        (Pde.probeWaits_vdmDisc discovery) (Hub.probeEnd_vdmDisc discovery)
  case timers =>
    exact ⟨onPod_acts hs rfl, onPod_acts hs rfl, onPod_acts hs rfl,
      fun works _ _ => exec_cableIdentityResponse_acts hs works rfl,
      fun asked works => exec_cableDiscoveryTimeout_acts hs asked works rfl,
      fun begun undone awaits => exec_vdmResponseTimeout_acts hs begun undone awaits rfl⟩
  case messages => exact ⟨fun _ => hears_acts hs rfl, fun _ _ _ => hears_acts hs rfl, fun _ _ => hears_acts hs rfl⟩

/-! A read of the capture FIFO of a domain that is being entered waits at its master. -/

/-- The device after a request of pod 3's domain for OFF, right after reset: the domain drains. -/
def pod3Draining : State :=
  State.reset.put (((State.reset.hub.quiet.laneReached 0x2130).setAct 0x2130 2).parWritten 0x2130 false |>.domRequest 3 .off false)

/-- One command from reset leads there. -/
theorem exec_tgt_reset : exec (.tgt 1 3 2 false) State.reset = .next pod3Draining := rfl

/-- The domain holds reads of the pod's capture FIFO (R334). -/
theorem pod3Draining_holds : pod3Draining.hub.accHeld 1 (podBase 3 + 0x808) 2 = true := by decide

/-- A held read of the capture FIFO waits: nothing is popped or put out (R334, R336). -/
theorem exec_capDataRead_held {s : State} {m : Master} {p : PodIx} (out : s.hub.held = .none)
    (held : s.hub.accHeld m (podBase p + 0x808) 2 = true) :
    exec (.capDataRead m p) s =
      .next (s.put (s.hub.quiet.accHold { m := m, addr := podBase p + 0x808, size := 2, word := none })) := by
  change execCapDataRead m p s = _
  unfold execCapDataRead
  exact perform_acts out (if_pos (by exact held))

/-- Refutes O11: while pod 3's domain drains, a read of its capture FIFO waits (R334), where the clause for every read out of reset
has its word put out at once. -/
theorem not_pdCommands : ¬ Obligations.PdCommands := by
  rintro ⟨-, general⟩
  obtain ⟨-, -, reads⟩ := general pod3Draining
  have held := exec_capDataRead_held (s := pod3Draining) rfl pod3Draining_holds
  have same := Host.Outcome.next.inj ((reads 1 3 rfl).symm.trans held)
  have outputs := congrArg (fun t : State => t.hub.out.length) same
  exact absurd outputs (by decide)

end Sys2Proof.Machine

namespace Sys2Proof.Machine

/-! The sequencer of a path: what a timer or comparator does in the state it belongs to, what a trip leaves, commands and presence. -/

section
variable {h : Hub} {x : PathIx}

/-! #### The turn-on -/

/-- Entry to VB.RAMP with the pre-charge gate as the direction of the path has it (R117, R137, log 114). -/
theorem Hub.vbEnterRamp_dir {sink : Bool} (dir : (h.vb x).sinkDir = sink) :
    h.vbEnterRamp x = h.modVb x fun e => { e with state := .ramp, gmain := true, gpre := !sink, low := false } :=
  Hub.modVb_congr h (by rw [dir])

/-- A source path waits out INSERT_DELAY once its window is qualified (R117). -/
theorem Hub.vbWindowOk_source (state : (h.vb x).state = .windowWait) (source : (h.vb x).sinkDir = false) :
    h.vbWindowOk x = h.modVb x fun e => { e with state := .insertDelay } := by
  simp [Hub.vbWindowOk, state, source]

/-- A sink path ramps up as soon as its window is qualified (R117, R137). -/
theorem Hub.vbWindowOk_sink (state : (h.vb x).state = .windowWait) (sink : (h.vb x).sinkDir = true) :
    h.vbWindowOk x = h.modVb x fun e => { e with state := .ramp, gmain := true, gpre := false, low := false } := by
  rw [Hub.vbWindowOk, state, sink]
  exact Hub.vbEnterRamp_dir sink

/-- A pre-charged source path ramps up (R117). -/
theorem Hub.vbPrecharged_source (state : (h.vb x).state = .precharge) (source : (h.vb x).sinkDir = false) :
    h.vbPrecharged x = h.modVb x fun e => { e with state := .ramp, gmain := true, gpre := true, low := false } :=
  (if_pos (beq_iff_eq.mpr state)).trans (Hub.vbEnterRamp_dir source)

/-- I_LIM follows I_C and the registers alone (R121, R147). -/
theorem Hub.vbILim_modVb {f : Efuse → Efuse} (same : (f (h.vb x)).iC = (h.vb x).iC) : (h.modVb x f).vbILim x = h.vbILim x := by
  unfold Hub.vbILim
  rw [Hub.modVb_vb, same]
  rfl

/-- An outlet's ramp ends in VB.ON with event 3, counter 0 and record 0x3001; no pod hears of it (R117, R120, R151). -/
theorem Hub.vbRampDone_outlet (state : (h.vb x).state = .ramp) (outlet : pathPod x = none) :
    h.vbRampDone x =
      (((h.modVb x fun e =>
        { e with state := .on, gpre := false, gmain := true, enhanced := true, pg := true, onSince := h.clk
                 low := false }).vbEvt x 3).bump (cntVb x 0)).raise (srcVb x) 0x3001 1
        (le16 (h.vb x).vTgt ++ le16 (min 4095 (h.vbILim x)) ++ le16 ((h.clk - (h.vb x).attemptAt) / 10000)
          ++ [(h.vb x).retryCnt]) := by
  simp [Hub.vbRampDone, state, outlet, Hub.vbILim_modVb]

/-! #### Running, and the way out of a trip -/

/-- The running trips are armed in RAMP and ON (R122). -/
theorem Hub.vbArmed_of_ramp_or_on (state : (h.vb x).state = .on ∨ (h.vb x).state = .ramp) : h.vbArmed x = true := by
  simp [Hub.vbArmed, state.symm]

/-- A trip below RETRY_MAX is followed by the backoff once the gates are off (R117, R129). -/
theorem Hub.vbGatesOff_retry (left : (h.vb x).retryCnt < h.retryMax x) (state : (h.vb x).state = .tripped) :
    h.vbGatesOff x = h.modVb x fun e => { e with state := .retryWait } :=
  (if_pos (beq_iff_eq.mpr state)).trans (if_pos left)

/-- Before the estimate's seed no temperature holds the cool-down; without a request it ends in VB.OFF (R117, R126). -/
theorem Hub.vbCoolEnd_unrequested (state : (h.vb x).state = .coolDown) (unseeded : (h.vb x).seeded = false)
    (noRequest : (h.vb x).request = false) : h.vbCoolEnd x = h.vbToOff x := by
  simp [Hub.vbCoolEnd, Hub.vbCool, state, unseeded, noRequest]

/-- A discharge that leaves VBUS at 0.8 V or more is reported (R133). -/
theorem Hub.vbDschTimeout_reports (on : h.dschOn x = true) (high : (h.vb x).low = false) :
    h.vbDschTimeout x =
      ((h.vbEvt x 5).bump (cntVb x 6)).raise (srcVb x) 0x3005 3 (le16 (h.vb x).vbusV) :=
  if_pos (by simp [on, high])

/-! #### The thermal model -/

/-- An event changes no path. -/
theorem Hub.evt_vb (off bit : Nat) : (h.evt off bit).vb x = h.vb x := rfl

/-- Outside a voltage transition and CHECK_0V a sample of VBUS is noted, and ends the discharge below 0.8 V (R133). -/
theorem Hub.vbSample_off (vbus : Nat) (state : (h.vb x).state = .off) (steady : (h.vb x).transition = false) :
    h.vbSample x vbus = h.modVb x fun e =>
      { e with vbusNow := vbus, low := decide (vbus < 80), dsch := e.dsch && decide (80 ≤ vbus) } := by
  simp [Hub.vbSample, state, steady]

section
variable (state : (h.vb x).state = .off) (unseeded : (h.vb x).seeded = false) (die : h.btSrc x = false)
  (steady : (h.vb x).transition = false) (uv : Int) (vbus vsrc : Nat) (t : Int) (vin : Nat)
include state unseeded die steady

/-- In VB.OFF before its seed the estimate stands 25 degrees above the die; a tenth step shows the measurements (R125, R126,
R146, logs 45, 81, 100). -/
theorem Hub.vbThermal_off_tenth (tenth : (h.vb x).measDiv = 9) :
    h.vbThermal x uv vbus vsrc t vin =
      ((((h.budVin vin).modVb x fun e =>
        { e with tEst := t * 1000000 + 25000000, measDiv := 0, vbusV := vbus, iMeas := h.senseCurrent x uv
                 tEstMeas := t * 1000000 + 25000000, vsrcV := vsrc
                 measSeq := (e.measSeq + 1) % 128 }).evt (vbBase x + 0x24) 31).evt (vbBase x + 0x28) 31).modVb x fun e =>
        { e with vbusNow := vbus, low := decide (vbus < 80), dsch := e.dsch && decide (80 ≤ vbus) } := by
  have part : (h.budVin vin).vb x = h.vb x := rfl
  have idle : (VbState.off == .ramp || VbState.off == .on) = false := rfl
  have die' : (h.budVin vin).btSrc x = false := die
  simp [Hub.vbThermal, Hub.boardMicro, Hub.vbSample_off, Hub.evt_vb, part, die', idle, state, unseeded, steady, tenth]
  congr 3
  exact Hub.modVb_congr _ (by simp [part, tenth])

/-- A step between shows nothing (R125, R126, R146). -/
theorem Hub.vbThermal_off_between (between : (h.vb x).measDiv < 9) :
    h.vbThermal x uv vbus vsrc t vin =
      (h.budVin vin).modVb x fun e =>
        { e with tEst := t * 1000000 + 25000000, measDiv := e.measDiv + 1, vbusNow := vbus, low := decide (vbus < 80)
                 dsch := e.dsch && decide (80 ≤ vbus) } := by
  have part : (h.budVin vin).vb x = h.vb x := rfl
  have idle : (VbState.off == .ramp || VbState.off == .on) = false := rfl
  have die' : (h.budVin vin).btSrc x = false := die
  simp [Hub.vbThermal, Hub.boardMicro, Hub.vbSample_off, part, die', idle, state, unseeded, steady, between.ne, Hub.modVb_modVb]
  exact Hub.modVb_congr _ (by simp [part, Nat.mod_eq_of_lt (Nat.succ_lt_succ between)])
end

end

/-- Settles O12: each timer and comparator where its conditions hold, then each as the operation it names. A sink's pre-charge gate is log
114, the estimate before its seed log 45, the VIN sample log 81, the rounding of the current log 100. -/
theorem sequencerSteps : Obligations.SequencerSteps := by
  refine ⟨fun s x above below below95 hs => ?events, fun s x hs => ?general⟩
  case events =>
    refine ⟨?source, ?sink, ?insert, ?precharge, ?stable, ?current, ?window, ?transition, ?gates, ?backoff, ?cool, ?discharge, ?ramp,
      ?thermal⟩
    case source => exact fun state source => onPath_acts hs (Hub.vbWindowOk_source state source)
    case sink => exact fun state sink => onPath_acts hs (Hub.vbWindowOk_sink state sink)
    case insert | stable | window | backoff => exact fun state => onPath_acts hs (if_pos (beq_iff_eq.mpr state))
    case precharge => exact fun state source => onPath_acts hs (Hub.vbPrecharged_source state source)
    case current => exact fun state => onPath_acts hs (if_pos (Hub.vbArmed_of_ramp_or_on state))
    case transition => exact fun transition => onPath_acts hs (if_pos transition)
    case gates => exact fun left state => onPath_acts hs (Hub.vbGatesOff_retry left state)
    case cool =>
      exact fun state unseeded noRequest => onPath_acts hs (Hub.vbCoolEnd_unrequested state unseeded noRequest)
    case discharge => exact fun on high => onPath_acts hs (Hub.vbDschTimeout_reports on high)
    case ramp => exact fun state outlet => onPath_acts hs (Hub.vbRampDone_outlet state outlet)
    case thermal =>
      intro i vbus vsrc die vin state unseeded board steady
      constructor
      · exact fun tenth => onPath_acts hs
          (Hub.vbThermal_off_tenth (h := s.hub.quiet) state unseeded board steady i vbus vsrc die vin tenth)
      · exact fun between => onPath_acts hs
          (Hub.vbThermal_off_between (h := s.hub.quiet) state unseeded board steady i vbus vsrc die vin between)
  case general =>
    exact ⟨onPath_acts hs rfl, onPath_acts hs rfl, onPath_acts hs rfl, onPath_acts hs rfl, fun _ => onPath_acts hs rfl,
      fun _ _ => onPath_acts hs rfl, onPath_acts hs rfl, onPath_acts hs rfl, onPath_acts hs rfl, onPath_acts hs rfl,
      onPath_acts hs rfl, onPath_acts hs rfl, fun _ _ _ _ _ => onPath_acts hs rfl⟩

/-! What a trip leaves of an outlet's path. -/

/-- A path as a trip leaves it: gates off, TRIPPED, the backoff and the floor of now (R127, R129, R138). -/
def Efuse.tripped (e : Efuse) (code now floor : Nat) : Efuse :=
  { e.gatesOff with state := .tripped, lastTrip := code, tripAt := some now, retrying := false
                    backoff := 100 * ticksPerMs * 2 ^ e.retryCnt, floor := floor }

section
variable {h : Hub} {x : PathIx}

/-- On an outlet's path the end of VB.ON counts and ends no bounce hold (R152, R440). -/
theorem Hub.leftOn_outlet (outlet : pathPod x = none) : ∃ counters, h.leftOn x = { h with counters := counters } := by
  simp only [Hub.leftOn, Hub.countOnTime, outlet]
  split
  · exact ⟨_, rfl⟩
  · exact ⟨_, rfl⟩

/-- Beside the outlet's path a trip reaches counters, events and the records raised alone (R127, R151, R152). -/
theorem Hub.vbTrip_outlet (outlet : pathPod x = none) (code : Nat) : ∃ counters evts raised,
    h.vbTrip x code =
      { h.modVb x fun e => e.tripped code h.clk (h.tFloor x * 100 * ticksPerMs) with
        counters := counters, evts := evts, nvm := { h.nvm with raised := raised } } := by
  obtain ⟨counters, left⟩ := Hub.leftOn_outlet (h := h) outlet
  simp only [Hub.vbTrip, left, outlet]
  cases tripCounter code with
  | none => exact ⟨_, _, _, rfl⟩
  | some k => exact ⟨_, _, _, rfl⟩

/-- The path after a trip. -/
theorem Hub.vbTrip_vb (outlet : pathPod x = none) (code : Nat) :
    (h.vbTrip x code).vb x = (h.vb x).tripped code h.clk (h.tFloor x * 100 * ticksPerMs) := by
  obtain ⟨_, _, _, trip⟩ := Hub.vbTrip_outlet (h := h) outlet code
  rw [trip]
  exact Hub.modVb_vb h x fun e => e.tripped code h.clk (h.tFloor x * 100 * ticksPerMs)

end

/-- Settles O13: each trip where its condition holds, what a trip of an outlet leaves, and each command as the operation it names. -/
theorem trips : Obligations.Trips := by
  refine ⟨fun s x hs => ?causes, fun h x code outlet => ?effect, fun s x hs => ?general⟩
  case causes =>
    refine ⟨?zero, ?window, ?precharge, ?rampTime, ?fastRamp, ?fastOn, ?overcurrent, ?overvoltage, ?under, ?reverse⟩
    case zero | window | precharge | rampTime | fastRamp | overvoltage =>
      exact fun state => onPath_acts hs (if_pos (beq_iff_eq.mpr state))
    case fastOn =>
      intro on
      have noRamp : ¬((s.hub.vb x).state == .ramp) = true := by simp [on]
      exact onPath_acts hs ((if_neg noRamp).trans (if_pos (beq_iff_eq.mpr on)))
    case overcurrent => exact fun on => onPath_acts hs (if_pos (Hub.vbArmed_of_ramp_or_on (.inl on)))
    case under =>
      intro on acts
      have due : ((s.hub.vb x).state == .on && !s.hub.uvSuppressed x) = true := by simp [on, acts]
      exact onPath_acts hs (if_pos due)
    case reverse => exact fun ramp => onPath_acts hs (if_pos (Hub.vbArmed_of_ramp_or_on (.inr ramp)))
  case effect =>
    have path := Hub.vbTrip_vb (h := h) outlet code
    obtain ⟨counters, evts, raised, trip⟩ := Hub.vbTrip_outlet (h := h) outlet code
    have enabled : (h.vbTrip x code).dschEn x = h.dschEn x := by rw [trip]; rfl
    have others : ∀ y, y ≠ x → (h.vbTrip x code).vb y = h.vb y := fun y other => by
      rw [trip]
      exact Hub.modVb_vb_ne h (fun e => e.tripped code h.clk (h.tFloor x * 100 * ticksPerMs)) other.symm
    have discharge : (h.vbTrip x code).dschOn x = (h.dschEn x && !(h.vb x).low) := by
      rw [Hub.dschOn, path, enabled, Bool.and_comm]
      rfl
    refine ⟨?_, ?_, ?_, ?_, ?_, ?_, ?_, ?_, ?_, discharge, ?_, ?_, others, ?rest⟩
    case rest =>
      rw [trip]
      exact ⟨rfl, rfl, rfl, rfl⟩
    all_goals rw [path]; rfl
  case general =>
    refine ⟨?_, ?_, ?_, ?_, ?_, ?_, ?_, ?_, ?_⟩
    all_goals exact onPath_acts hs rfl

/-! A load that comes while OUT is being entered: the wake ends the entry, and the outlet, whose domain runs again, acts at once. -/

section
variable {h : Hub}

/-- Where no job waits for a transition none ends (R390). -/
theorem Hub.planJobsEnd_noJobs (jobs : h.seq.jobs = []) : h.planJobsEnd = h := by
  simp only [Hub.planJobsEnd, jobs, List.filter_nil, List.foldl_nil, Hub.modSeq]
  rw [← jobs]

/-- Where no request and no job waits nothing runs after an entry (R334, R343). -/
theorem Hub.domNext_idle (waiting : h.seq.waiting = []) (plan : h.seq.plan = []) (jobs : h.seq.jobs = []) : h.domNext = h := by
  have turn : ∀ n, h.turnOf n = h := fun n => by simp [Hub.turnOf, waiting, plan]
  have turns : planOrder.foldl Hub.turnOf h = h := List.foldl_fixed' turn planOrder
  simp [Hub.domNext, turns, Hub.planJobsEnd_noJobs jobs]

/-- A wake that ends OUT's entry lets the outlet act at once on the presence it came with (R134, R337, R345). -/
theorem Hub.outletPresence_woken {k : Hub} {o : OutIx} {pin pres : Bool} (stopped : h.domRuns domOut = false)
    (level : (if h.presPol o then pin else !pin) = pres)
    (woken : (h.modOut o fun q => { q with pres := pres, missed := true }).wakeSource 22 = k)
    (runs : k.domRuns domOut = true) : h.outletPresence o pin = k.outletCatch o := by
  have off : ∀ f, (h.modOut o f).domOn domOut = false := fun _ => (Bool.or_eq_false_iff.mp stopped).1
  simp [Hub.outletPresence, off, level, woken, runs]

end

/-- OUTLET_PRESENCE_CHANGE is a command of the Husk: it waits for no domain (R345). -/
theorem exec_outletPresenceChange_acts {s : State} {o : OutIx} {pin : Bool} {k : Hub} (out : s.hub.held = .none)
    (made : s.hub.quiet.outletPresence o pin = k) : exec (.outletPresenceChange o pin) s = .next (s.put k) :=
  perform_acts (f := fun h => h.outletPresence o pin) out made

/-- Putting a block in place puts its outlets in place. -/
theorem State.put_outlet (s : State) (h : Hub) (o : OutIx) : (s.put h).hub.outlet o = h.outlet o := rfl

/-- The device after a request of OUT's domain for OFF, right after reset: the domain drains. -/
def outDraining : State :=
  State.reset.put (((State.reset.hub.quiet.laneReached 0x2270).setAct 0x2270 2).parWritten 0x2270 false |>.domRequest domOut .off false)

/-- The device once OUT has drained: its domain is being entered, before the commit point (R333, R334). -/
def outEntering : State := outDraining.put (outDraining.hub.quiet.domDrained domOut)

/-- Two commands from reset lead there. -/
theorem exec_tgt_domainDrained_reset :
    exec (.tgt 1 domOut 2 false) State.reset = .next outDraining ∧
      exec (.domainDrained domOut) outDraining = .next outEntering := ⟨rfl, rfl⟩

/-- A low level of outlet 0's presence pin shows a load there (R150). -/
theorem outEntering_load : (if outEntering.hub.presPol 0 then false else !false) = true := rfl

/-- The block with that load noted. -/
def outLoaded : Hub := outEntering.hub.quiet.modOut 0 fun q => { q with pres := true, missed := true }

/-- The block once the wake of source 22 has ended OUT's entry (R337). -/
def outWoken : Hub := ((outLoaded.bump (cntHusk 22)).wakeItem 0x71 22).domRefuse domOut 4 1 22

/-- The wake ends OUT's entry, and nothing waits for its end (R337, R345). -/
theorem wakeSource_outLoaded : outLoaded.wakeSource 22 = outWoken :=
  calc outLoaded.wakeSource 22
      = (outLoaded.bump (cntHusk 22)).wakeRun 22 [domOut] 0x70 := if_pos rfl
    _ = (outWoken.exitAll 22 [domOut]).domNext := (if_neg nofun).trans ((if_neg nofun).trans (if_neg nofun))
    _ = outWoken.domNext := congrArg Hub.domNext (show outWoken.exitAll 22 [domOut] = outWoken from rfl)
    _ = outWoken := Hub.domNext_idle rfl rfl rfl

/-- OUT runs again, so the outlet acts on the load (R134). -/
theorem exec_outletPresenceChange_outEntering :
    exec (.outletPresenceChange 0 false) outEntering = .next (outEntering.put (outWoken.outletCatch 0)) := by
  have stopped : outEntering.hub.quiet.domRuns domOut = false := rfl
  have runs : outWoken.domRuns domOut = true := rfl
  exact exec_outletPresenceChange_acts (by exact rfl)
    (Hub.outletPresence_woken stopped outEntering_load wakeSource_outLoaded runs)

/-- The wake leaves the load noted, and the outlet, once it has acted, has nothing left to act on. -/
theorem outWoken_missed : (outWoken.outlet 0).missed = true ∧ ((outWoken.outletCatch 0).outlet 0).missed = false := ⟨rfl, rfl⟩

/-- Refutes O14: OUT does not run while it is being entered, but before the commit point the load's wake ends the entry (R337), and the
outlet acts on the load, where the clause leaves it noted. -/
theorem not_pathCommands : ¬ Obligations.PathCommands := by
  rintro ⟨commands, -⟩
  obtain ⟨-, -, -, -, noted⟩ := commands outEntering 1 16 0 false
  have stays := noted (by exact rfl) (by exact rfl)
  rw [outEntering_load, ← outLoaded, wakeSource_outLoaded, exec_outletPresenceChange_outEntering] at stays
  have same := congrArg (fun t : State => (t.hub.outlet 0).missed) (Host.Outcome.next.inj stays)
  obtain ⟨waits, acted⟩ := outWoken_missed
  simp only [State.put_outlet, waits, acted] at same
  contradiction

end Sys2Proof.Machine

namespace Sys2Proof.Machine

/-! The budget unit: the recomputation while the charges fit B, what a granted claim rests on, the brownout commands. -/

section
variable {h : Hub} {x : PathIx}

/-! #### Within B -/

/-- With the charges of the unmarked consumers within B, R155 only drops the targets: it cuts, marks and sheds none. -/
theorem Hub.budFold_within (within : sumBy (fun q => if q.marked then 0 else q.charge) h.bud.cons.toList ≤ h.bud.bEff) :
    h.budFold = h.modBud fun b => { b with cons := b.cons.map fun q => { q with target := none } } := by
  have fits : (sumBy (fun q => if q.marked then 0 else q.charge) h.bud.cons.toList : Int) - h.bud.bEff ≤ 0 :=
    Int.sub_nonpos_of_le (Int.ofNat_le.mpr within)
  simp only [Hub.budFold, Hub.modBud_bud, budCut_none _ _ _ fits, budShedPick_none _ _ _ _ fits]
  exact budShedAll_none _ _ _ fun _ => rfl

/-! #### Claims -/

/-- What a consumer sees of a headroom is 0, or at most that headroom (R155). -/
theorem Hub.visible_le (hr : Int) : h.visible hr x = 0 ∨ (h.visible hr x : Int) ≤ hr := by
  unfold Hub.visible
  omega

/-- A granted claim passed each of its three tests (R156, R313). -/
theorem Hub.budClaimOk_iff {c : Nat} :
    h.budClaimOk x c = true ↔
      h.inSafe 26 = false ∧ h.chargeSum ≤ h.bud.bEff ∧ c - (h.cons x).charge ≤ h.visible h.headroomNow x := by
  simp [Hub.budClaimOk, and_assoc]

/-! #### The input warning -/

/-- Two changes of the budget unit are one change. -/
theorem Hub.modBud_modBud (f g : Budget → Budget) : (h.modBud f).modBud g = h.modBud fun b => g (f b) := rfl

theorem Hub.modBud_congr {f g : Budget → Budget} (same : f h.bud = g h.bud) : h.modBud f = h.modBud g :=
  congrArg (fun b => { h with bud := b }) same

/-- The first cause asserts the warning: cause 1 is VIN (R158). -/
theorem Hub.budSetWarn_first (vin : h.bud.warnVin = false) (noOver : h.bud.warnOver = false) :
    h.budSetWarn true false = (h.modBud fun b => { b with warnVin := true, warnOver := false }).budWarnOn 1 := by
  simp [Hub.budSetWarn, Hub.budWarn, vin, noOver]

/-- While OVERDRAFT holds, the end of the cause VIN clears no warning (R158). -/
theorem Hub.budSetWarn_overdraft (vin : h.bud.warnVin = true) :
    h.budSetWarn false true = h.modBud fun b => { b with warnVin := false, warnOver := true } := by
  simp [Hub.budSetWarn, Hub.budWarn, vin]

/-- VIN below VIN_WARN asserts the warning where no cause holds; B follows (R158, R159). -/
theorem Hub.budVinWarn_asserts {v : Nat} (vin : h.bud.warnVin = false) (noOver : h.bud.warnOver = false) (low : v < h.vinWarn) :
    h.budVinWarn v =
      ((h.modBud fun b => { b with vinMeas := min 1023 v, warnVin := true, warnOver := false }).budWarnOn 1).budNewB := by
  have low' : ¬(h.budVin v).vinWarn ≤ v := Nat.not_le.mpr low
  have vin' : (h.budVin v).bud.warnVin = false := vin
  have noOver' : (h.budVin v).bud.warnOver = false := noOver
  have calm : (h.budVin v).budWarn = false := by simp [Hub.budWarn, vin', noOver']
  simp only [Hub.budVinWarn, low', calm, noOver', Hub.budSetWarn_first vin' noOver', if_false, Bool.false_and, Bool.false_eq_true]
  rfl

/-- VIN below VIN_FAIL asserts FAIL once (R158). -/
theorem Hub.budVinFail_asserts {v : Nat} (calm : h.bud.fail = false) (low : v < h.vinFail) :
    h.budVinFail v = ((h.modBud fun b => { b with vinMeas := min 1023 v, fail := true }).budEvt 2).bump (cntBud 1) := by
  have acts : ((h.budVin v).bud.fail || decide ((h.budVin v).vinFail ≤ v)) = false := by
    rw [show (h.budVin v).bud.fail = false from calm, Bool.false_or]
    exact decide_eq_false (Nat.not_le.mpr low)
  simp only [Hub.budVinFail, acts, Bool.false_eq_true, if_false]
  rfl

/-- VIN above the warning's hysteresis ends FAIL and the cause VIN; OVERDRAFT keeps the warning (R158). -/
theorem Hub.budVinClear_overdraft {v : Nat} (vin : h.bud.warnVin = true) (byOver : h.bud.warnOver = true)
    (high : h.vinWarn + h.vinHyst < v) :
    h.budVinClear v =
      (h.modBud fun b => { b with vinMeas := min 1023 v, fail := false, warnVin := false, warnOver := true }).budNewB := by
  have high' : ¬v ≤ (h.budVin v).vinWarn + (h.budVin v).vinHyst := Nat.not_le.mpr high
  have vin' : ((h.budVin v).modBud fun b => { b with fail := false }).bud.warnVin = true := vin
  have byOver' : (h.budVin v).bud.warnOver = true := byOver
  simp only [Hub.budVinClear, high', byOver', Hub.budSetWarn_overdraft vin', if_false]
  rfl

/-- tSinkAdj after Rp was lowered, a source pod without contract is charged its implicit power (R157). -/
theorem Hub.budRpCharge_lowered {p : PodIx} (lower : (h.cons (podPath p)).rpLower = true) (src : (h.tc p).srcAttached = true)
    (implicit : (h.pde p).explicit = false) :
    h.budRpCharge p = h.budSetCharge (podPath p) (implicitCharge (h.tc p).rpLevel) :=
  if_pos (by simp [lower, src, implicit])

end

/-- Settles O16: the charges exceed B by nothing, so each pass of R155 finds nothing to do. A target that would equal the
charge is none (log 39). -/
theorem noCutWithinBudget : Obligations.NoCutWithinBudget :=
  fun _ within => Hub.budFold_within within

/-- Settles O17: a granted claim passed the tests of R156 and R313, and the visible headroom is at most the headroom. -/
theorem claimNeedsHeadroom : Obligations.ClaimNeedsHeadroom := by
  intro h x c granted
  obtain ⟨noSafe, fits, increase⟩ := Hub.budClaimOk_iff.mp granted
  refine ⟨fits, noSafe, ?_⟩
  obtain nothing | within := h.visible_le (x := x) h.headroomNow
  · exact .inl (Nat.sub_eq_zero_iff_le.mp (Nat.le_zero.mp (nothing ▸ increase)))
  · exact .inr ((Int.ofNat_le.mpr increase).trans within)

/-- Settles O15: each command where its conditions hold, then each as the operation it names. The B_EFF of record 0x3101 is log 70. -/
theorem budgetCommands : Obligations.BudgetCommands := by
  refine ⟨fun s p vin c out => ⟨?recompute, ?rp, ?warn, ?fail, ?failShed, ?ewShed, ?resolve, ?clear, ?restore⟩,
    fun s out => ?general⟩
  case recompute => exact perform_acts out rfl
  case rp =>
    exact fun lower src implicit =>
      perform_acts (f := fun h => h.budRpCharge p) out (Hub.budRpCharge_lowered lower src implicit)
  case warn =>
    exact fun noVin noOver low => perform_acts (f := fun h => h.budVinWarn vin) out (Hub.budVinWarn_asserts noVin noOver low)
  case fail => exact fun calm low => perform_acts (f := fun h => h.budVinFail vin) out (Hub.budVinFail_asserts calm low)
  case failShed => exact fun fails => perform_acts out (if_pos fails)
  case ewShed | resolve => exact fun warned => perform_acts out (if_pos warned)
  case clear =>
    exact fun byVin byOver high =>
      perform_acts (f := fun h => h.budVinClear vin) out (Hub.budVinClear_overdraft byVin byOver high)
  case restore => exact fun restoring => perform_acts out (if_pos restoring)
  case general =>
    exact ⟨perform_run out _, fun p => perform_run out fun h => h.budRpCharge p,
      fun vin => perform_run out fun h => h.budVinWarn vin, fun vin => perform_run out fun h => h.budVinFail vin, perform_run out _, perform_run out _, perform_run out _,
      fun vin => perform_run out fun h => h.budVinClear vin, fun _ => perform_run out _⟩

end Sys2Proof.Machine

namespace Sys2Proof.Machine

/-! The next request of the regulator link: the search for the least rank starts from 100000, so a request of a higher rank is not
taken. The ranks of the eight classes stay far below it, but the classes that BUDGET's safe response holds are any numbers. -/

section
variable {h : Hub}

/-- The only request of an idle link is taken if its rank is in the search (R166). -/
theorem Hub.rlNext_sole {r : RlReq} (idle : h.rl.active = []) (sole : h.rl.queue = [r]) :
    h.rlNext = if h.rlRank r ≤ 100000 then some r else none := by
  by_cases low : h.rlRank r ≤ 100000
  · simp [Hub.rlNext, idle, sole, low]
  · have other : h.rlRank r ≠ 100000 := by omega
    simp [Hub.rlNext, idle, sole, low, Nat.le_of_not_le low, other]

/-- With no request to take and no slot to read, the link does nothing (R163, R166). -/
theorem Hub.rlStart_nothing {acks : Nat} {mode rev : BitVec 8} (idle : h.rl.active = []) (next : h.rlNext = none)
    (read : h.rlUnprobed = none) : h.rlStart acks mode rev = h := by
  simp [Hub.rlStart, idle, next, read]

end

/-- Outlet 1 (owner 17) asks for 5 V. -/
def turnOn17 : RlReq := { owner := 17, kind := .voltage 500 }

/-- The device right after reset with that request queued, its slot 2 enabled and read, and class 1000 held for every consumer. -/
def heldClass1000 : State :=
  State.reset.put ((((State.reset.hub.modRl fun l => { l with queue := [turnOn17] }).setAct 0x4110 (0x80 + 17 * 0x80000)).modSlot 2
    fun x => { x with probed := true }).modBud fun b => { b with heldPrio := some (Vector.replicate 20 1000) })

/-- The rank of a turn-on is 1000 + 100 * class + owner (R166). -/
theorem heldClass1000_rank : heldClass1000.hub.quiet.rlRank turnOn17 = 101017 := rfl

/-- The request waits for ever: RLINK_REQUEST_START leaves the block as it is. -/
theorem heldClass1000_start (acks : Nat) (mode rev : BitVec 8) :
    heldClass1000.hub.quiet.rlStart acks mode rev = heldClass1000.hub.quiet := by
  refine Hub.rlStart_nothing rfl ?_ (by decide)
  rw [Hub.rlNext_sole (r := turnOn17) rfl rfl, heldClass1000_rank]
  rfl

/-- Refutes O18: in the clause for RLINK_REQUEST_START a class may be any number that `heldPrio` holds, and with class 1000 the only
request is not taken. The state is no reset's or command's: what they put there is of three bits (R313), and the clause lacks that
bound. -/
theorem not_regulatorLink : ¬ Obligations.RegulatorLink := by
  rintro ⟨steps, general⟩
  obtain ⟨starts, -⟩ := steps heldClass1000 2 0 0 0 2 rfl
  obtain ⟨served, -⟩ := starts turnOn17 rfl rfl (by decide) (by decide) (by decide)
  obtain ⟨start, -⟩ := general heldClass1000 rfl
  have same := (start 2 0 0).symm.trans (served (by decide))
  rw [heldClass1000_start] at same
  have queue := congrArg (fun t : State => t.hub.rl.queue) (Host.Outcome.next.inj same)
  exact absurd queue (by decide)

end Sys2Proof.Machine

namespace Sys2Proof.Machine

/-! What the host sends to a device on a pod: requests, headers and OUT data pass where no header credit is held. -/

section
variable {h : Hub} {p : PodIx} {addr ep : Nat}

/-- A lookup noted leaves the links and the connectors (R208). -/
theorem noteHit_frame (h : Hub) (p : PodIx) (addr ep : Nat) (dirIn : Bool) (m : MapHit) :
    (h.noteHit p addr ep dirIn m).links = h.links ∧ (h.noteHit p addr ep dirIn m).tcs = h.tcs := by
  unfold Hub.noteHit
  dsimp only
  split
  · exact ⟨rfl, rfl⟩
  · split <;> exact ⟨rfl, rfl⟩

/-- A link takes a header after a lookup as before it. -/
theorem noteHit_linkTakes (dirIn : Bool) (m : MapHit) : (h.noteHit p addr ep dirIn m).linkTakes p = h.linkTakes p := by
  obtain ⟨links, tcs⟩ := noteHit_frame h p addr ep dirIn m
  simp only [Hub.linkTakes, Hub.link, Hub.tc, links, tcs]

/-- A request with NumP joins the pacing queue of its map entry (R175, R222). -/
theorem Hub.hostIn_joins {numP : Nat} (d : isD p = true) (noCredit : h.sched.credit = none)
    (allowed : (h.countHostRx 0).blockedAt p addr = false) (takes : (h.countHostRx 0).linkTakes p = true) (asks : numP ≠ 0)
    (first : (((h.countHostRx 0).noteHit p addr ep true ((h.countHostRx 0).mapFind p addr ep true)).reqHeld addr ep) = false) :
    h.hostIn p addr ep numP =
      let m := (h.countHostRx 0).mapFind p addr ep true
      let h1 := (h.countHostRx 0).noteHit p addr ep true m
      (h1.passDrop addr ep).reqJoin m.queue
        { pod := p, addr := addr, ep := ep, numP := numP, pass := h1.sched.passes.contains (addr, ep), since := h1.clk } := by
  simp [Hub.hostIn, Hub.takesHeaders, noteHit_linkTakes, d, noCredit, allowed, takes, asks, first]

/-- A header from the host that no firewall blocks goes to the device, or is deferred (R178, R187). -/
theorem Hub.hostHeader_passes {dirIn : Bool} (d : isD p = true) (noCredit : h.sched.credit = none)
    (allowed : (h.countHostRx 0).blockedAt p addr = false) :
    h.hostHeader p addr ep dirIn =
      if (h.countHostRx 0).linkTakes p then (h.countHostRx 0).sendHeader p addr ep false
      else (h.countHostRx 0).deferral p addr ep dirIn := by
  simp [Hub.hostHeader, Hub.takesHeaders, d, noCredit, allowed]

/-- OUT data to a blocked address is discarded and counted (R281). -/
theorem Hub.hostOut_blocked {bytes : Nat} {how : Arrival} (d : isD p = true) (noCredit : h.sched.credit = none)
    (blocked : (h.countHostRx bytes).blockedAt p addr = true) :
    h.hostOut p addr ep bytes how = (h.countHostRx bytes).bump (cntFwl p 3) := by
  simp [Hub.hostOut, Hub.takesHeaders, d, noCredit, blocked]

/-- OUT data that no policer measures is stored where it finds room, and held as the one credit where it finds none (R177, R178). -/
theorem Hub.hostOut_unpoliced {bytes : Nat} {how : Arrival} {m : MapHit} {h1 : Hub} (d : isD p = true)
    (noCredit : h.sched.credit = none) (allowed : (h.countHostRx bytes).blockedAt p addr = false)
    (found : (h.countHostRx bytes).mapFind p addr ep false = m) (noPol : m.pol = none)
    (noted : (h.countHostRx bytes).noteHit p addr ep false m = h1) (takes : h1.linkTakes p = true) {x : DownPkt}
    (stored : x = { addr := addr, ep := ep, bytes := bytes, damaged := how != .good
                    iso := (h.countHostRx bytes).isoEp p addr ep false m }) :
    h.hostOut p addr ep bytes how =
      if h1.downFits p x then h1.downPut p x
      else (h1.modSched fun y => { y with credit := some { pod := p, pkt := x } }).bump (cntMap 4) := by
  simp [Hub.hostOut, Hub.takesHeaders, Hub.polDiscards, Hub.police, d, noCredit, allowed, found, noPol, noted, takes, stored]

/-- The hold's expiry discards the held packet where it still finds no room (R178, R203). -/
theorem Hub.creditExpire_discards {c : CreditHold} (held : h.sched.credit = some c) (full : h.downFits c.pod c.pkt = false) :
    h.creditExpire =
      (((((h.modSched fun y => { y with credit := none }).linkEvt c.pod 3).shellEvt 2).bump (cntLink c.pod 8)).raise
        (srcLink c.pod) 0x4002 2 ([c.pkt.addr, c.pkt.ep] ++ le16 (h.link c.pod).dsRsv ++ le16 h.poolFree)).creditEnded c.pod := by
  have still : h.creditTry = h := by simp [Hub.creditTry, held, full]
  simp [Hub.creditExpire, still, held]

end

/-- Settles O19: each packet of the host where its conditions hold, then each as the operation it names. A blocked address is
R281's. -/
theorem hostPackets : Obligations.HostPackets := by
  refine ⟨fun s p addr ep numP bytes dirIn how hs d => ⟨?request, ?header, ?deferred, ?blocked, ?data, ?expiry⟩,
    fun s hs => ⟨?requests, ?headers, ?payload, ?expiries⟩⟩
  case request =>
    exact fun noCredit allowed takes asks first =>
      onPe_acts hs (Hub.hostIn_joins (h := s.hub.quiet) d noCredit allowed takes asks first)
  case header =>
    exact fun noCredit allowed takes =>
      onPe_acts hs ((Hub.hostHeader_passes (h := s.hub.quiet) d noCredit allowed).trans (if_pos takes))
  case deferred =>
    exact fun noCredit allowed refuses =>
      onPe_acts hs ((Hub.hostHeader_passes (h := s.hub.quiet) d noCredit allowed).trans (if_neg (Bool.eq_false_iff.mp refuses)))
  case blocked => exact fun noCredit blocked => onPe_acts hs (Hub.hostOut_blocked (h := s.hub.quiet) d noCredit blocked)
  case data =>
    exact fun noCredit allowed m h1 x found noPol noted takes stored =>
      onPe_acts hs (Hub.hostOut_unpoliced (h := s.hub.quiet) d noCredit allowed found noPol noted takes stored)
  case expiry => exact fun c held full => onPe_acts hs (Hub.creditExpire_discards (h := s.hub.quiet) held full)
  case requests => exact fun _ _ _ _ => onPe_acts hs rfl
  case headers => exact fun _ _ _ _ => onPe_acts hs rfl
  case payload => exact fun _ _ _ _ _ => onPe_acts hs rfl
  case expiries => exact onPe_acts hs rfl

end Sys2Proof.Machine

namespace Sys2Proof.Machine

/-! What a device sends on a link in U0: data into its reservation, notifications, packets of a blocked address. -/

section
variable {h : Hub} {p : PodIx} {addr ep bytes : Nat} {last : Bool} {how : Arrival}

/-- A SuperSpeed data packet of a device that no firewall blocks is judged by the endpoint's maximum (R195, R281). -/
theorem Hub.deviceData_measured (d : isD p = true) (awake : (h.link p).ltssm = .u0)
    (allowed : (h.countRx p bytes).blockedAt p addr = false) :
    h.deviceData p addr ep bytes last how false =
      if (h.countRx p bytes).maxPkt p addr ep true < bytes then (h.countRx p bytes).violation p .overLength addr
      else (h.countRx p bytes).dataIn p addr ep bytes last how := by
  simp [Hub.deviceData, d, awake, allowed]

/-- Requested data that no policer measures shrinks its reservation and joins its queue (R176, R179, R223). -/
theorem Hub.dataIn_requested {m : MapHit} {h1 : Hub} {r : Rsv} (found : h.mapFind p addr ep true = m) (noPol : m.pol = none)
    (noted : h.noteHit p addr ep true m = h1) (reserved : h1.rsvOf p addr ep = some r) (expected : 0 < r.pkts)
    (fits : cellsOf bytes ≤ r.cells) :
    h.dataIn p addr ep bytes last how =
      ((h1.rsvShrink r last).upPut m.queue
        { src := p.val, addr := addr, ep := ep, bytes := bytes, cells := cellsOf bytes, iso := h1.isoEp p addr ep true m
          damaged := how != .good, charge := some (bytes + r.ovh)
          counted := if r.counted then some r.queue else none }).roomFreed := by
  have own : (h1.rsvOf p addr ep).filter (fun r => decide (0 < r.pkts) && decide (cellsOf bytes ≤ r.cells)) = some r := by
    simp [reserved, expected, fits]
  simp only [Hub.dataIn, found, noted, own, noPol, Hub.polDiscards, Hub.police]
  simp

/-- A transaction packet of a blocked address is discarded and counted (R281). -/
theorem Hub.deviceTp_blocked {dirIn : Bool} {k : TpKind} (d : isD p = true) (awake : (h.link p).ltssm = .u0)
    (blocked : (h.countRx p 0).blockedAt p addr = true) :
    h.deviceTp p addr ep dirIn k = (h.countRx p 0).bump (cntFwl p 3) := by
  simp [Hub.deviceTp, d, awake, blocked]

/-- A notification joins UQ_3 (R181). -/
theorem Hub.deviceTp_notification {dirIn : Bool} (d : isD p = true) (awake : (h.link p).ltssm = .u0)
    (allowed : (h.countRx p 0).blockedAt p addr = false) :
    h.deviceTp p addr ep dirIn .notification =
      (h.countRx p 0).upPut 3 { src := p.val, addr := addr, ep := ep, dirIn := dirIn } := by
  simp [Hub.deviceTp, d, awake, allowed]

/-- The open reservation of an endpoint ends (R176). -/
theorem Hub.rsvEndOf_open {r : Rsv} (reserved : h.rsvOf p addr ep = some r) : h.rsvEndOf p addr ep = h.rsvEnd r := by
  simp [Hub.rsvEndOf, reserved]

end

/-- Settles O20: each packet of a device where its conditions hold, then each as the operation it names. -/
theorem devicePackets : Obligations.DevicePackets := by
  refine ⟨fun s p addr ep bytes last dirIn how r k hs d => ⟨?tooLong, ?requested, ?notification, ?blocked, ?idle⟩,
    fun s hs => ⟨?data, ?transactions, ?idles⟩⟩
  case tooLong =>
    exact fun awake allowed long =>
      onPe_acts hs ((Hub.deviceData_measured (h := s.hub.quiet) d awake allowed).trans (if_pos long))
  case requested =>
    exact fun awake allowed short m h1 found noPol noted reserved expected fits =>
      onPe_acts hs (((Hub.deviceData_measured (h := s.hub.quiet) d awake allowed).trans (if_neg (Nat.not_lt.mpr short))).trans
        (Hub.dataIn_requested found noPol noted reserved expected fits))
  case notification =>
    exact fun awake allowed => onPe_acts hs (Hub.deviceTp_notification (h := s.hub.quiet) d awake allowed)
  case blocked => exact fun awake blocked => onPe_acts hs (Hub.deviceTp_blocked (h := s.hub.quiet) d awake blocked)
  case idle =>
    exact fun reserved => onPe_acts hs (congrArg Hub.roomFreed (Hub.rsvEndOf_open (h := s.hub.quiet) reserved))
  case data => exact fun _ _ _ _ _ _ _ => onPe_acts hs rfl
  case transactions => exact fun _ _ _ _ _ => onPe_acts hs rfl
  case idles => exact fun _ _ _ => onPe_acts hs rfl

end Sys2Proof.Machine

namespace Sys2Proof.Machine

/-! Starts and completions on the links, where the reads are clean and nothing waits for the room that is freed. -/

section
variable {h g : Hub} {p e : PodIx} {n : QueueIx} {x : UpPkt}

/-! #### What waits for room -/

/-- No cell waits to be retired (R310). -/
theorem Hub.cellsReleased_none (none : h.nvm.toRetire = []) : h.cellsReleased = h := by
  simp [Hub.cellsReleased, none]

/-- Neither a held credit nor a status change waits for cells (R178, R216). -/
theorem Hub.roomFreed_none (noCredit : h.sched.credit = none) (noStatus : h.sched.statusDue = false) : h.roomFreed = h := by
  simp [Hub.roomFreed, Hub.creditTry, noStatus, noCredit]

/-- A link that is not to enter U3 stays (R184). -/
theorem Hub.u3Try_stays (stays : (h.link p).u3Pending = false) : h.u3Try p = h := by
  simp [Hub.u3Try, stays]

/-- A packet sent and counted leaves the links, the packet engine and the NVM unit. -/
theorem sent_frame (h : Hub) (p : PodIx) (bytes : Nat) (o : Output) :
    ((h.countTx p bytes).emit o).links = h.links ∧ ((h.countTx p bytes).emit o).sched = h.sched ∧
      ((h.countTx p bytes).emit o).nvm = h.nvm := ⟨rfl, rfl, rfl⟩

/-- Reports leave the packet engine and the NVM unit. -/
theorem reports_frame (l : List Output) (h : Hub) :
    (l.foldl Hub.emit h).sched = h.sched ∧ (l.foldl Hub.emit h).nvm = h.nvm := by
  induction l generalizing h with
  | nil => exact ⟨rfl, rfl⟩
  | cons o l ih => exact ih (h.emit o)

/-! #### Clean reads -/

@[simp] theorem isUe_clean : isUe .clean = false := rfl

/-- A clean read of a payload finds nothing (R308). -/
@[simp] theorem Hub.payloadRead_clean (marked : Bool) : h.payloadRead .clean marked = h := by simp [Hub.payloadRead]

/-- A clean read of a descriptor finds nothing (R308). -/
@[simp] theorem Hub.descRead_clean (known : Bool) : h.descRead .clean known = h := by simp [Hub.descRead]

/-! #### Starts -/

/-- A start opportunity starts the head of the selected queue (R213, R214). -/
theorem Hub.startOpp_starts {payload desc : EccRead} (free : h.startFree = some e) (selected : h.noteNoFit.select = (some n, g))
    (head : uqHead n (g.uq n).pkts = some x) : h.startOpp payload desc = g.startPacket e n x payload desc := by
  simp [Hub.startOpp, free, selected, head]

/-- With clean reads a packet starts, and its shaper is charged (R214, R217). -/
theorem Hub.startPacket_clean (async : x.iso = false) (unmarked : x.marked = false) (routed : x.noDesc = false) :
    h.startPacket e n x .clean .clean =
      ((h.uqTake n x).startCharge n x).modSched fun y => { y with sending := some (n, x), lastQ := n } := by
  have good : (isUe .clean || x.marked) = false := by simp [unmarked]
  have found : (isUe .clean || x.noDesc) = false := by simp [routed]
  have kept : (x.iso && (false || x.damaged)) = false := by simp [async]
  simp only [Hub.startPacket, good, found, kept, Hub.descRead_clean, Hub.payloadRead_clean, Bool.or_false, Bool.false_eq_true,
    if_false]

/-- A packet whose descriptor cannot be corrected is discarded (R191). -/
theorem Hub.startPacket_unrouted {payload desc : EccRead} (uncounted : x.counted = none) (lost : isUe desc = true) :
    h.startPacket e n x payload desc =
      ((((h.uqTake n x).descRead desc x.noDesc).hdrDiscard x.src e.val).mfLost x).cellsReleased.roomFreed := by
  simp [Hub.startPacket, Hub.outStarts, uncounted, lost]

/-! #### Completions -/

/-- The last byte of a good packet leaves on a downstream link (R174). -/
theorem Hub.downComplete_good {y : DownPkt} {rest : List DownPkt} (stored : (h.link p).down = y :: rest) (whole : y.damaged = false)
    (unmarked : y.marked = false) (routed : y.noDesc = false) (stays : (h.link p).u3Pending = false)
    (noCredit : h.sched.credit = none) (noStatus : h.sched.statusDue = false) (noRetire : h.nvm.toRetire = []) :
    h.downComplete p .clean .clean =
      ((h.modLink p fun l => { l with down := rest }).countTx p y.bytes).emit
        (.packet p.val y.addr y.ep y.bytes false y.deferred) := by
  obtain ⟨links, sched, nvm⟩ := sent_frame (h.modLink p fun l => { l with down := rest }) p y.bytes
    (.packet p.val y.addr y.ep y.bytes false y.deferred)
  generalize sent : ((h.modLink p fun l => { l with down := rest }).countTx p y.bytes).emit
    (.packet p.val y.addr y.ep y.bytes false y.deferred) = k at *
  have ends : k.cellsReleased.roomFreed.u3Try p = k := by
    rw [Hub.cellsReleased_none (nvm ▸ noRetire), Hub.roomFreed_none (sched ▸ noCredit) (sched ▸ noStatus), Hub.u3Try_stays]
    rw [Hub.link, links]
    exact (congrArg Link.u3Pending (h.modLink_link p _)).trans stays
  simp [Hub.downComplete, stored, whole, unmarked, routed, sent, ends]

/-- The last byte of a good packet leaves on the upstream link, which reports it (R174). -/
theorem Hub.upComplete_good (sending : h.sched.sending = some (n, x)) (whole : x.damaged = false) (unmarked : x.marked = false)
    (noCredit : h.sched.credit = none) (noStatus : h.sched.statusDue = false) (noRetire : h.nvm.toRetire = []) :
    h.upComplete p .clean .clean =
      x.say.foldl Hub.emit (((h.modSched fun y => { y with sending := none }).countTx p x.bytes).emit
        (.packet p.val x.addr x.ep x.bytes false false)) := by
  obtain ⟨sched, nvm⟩ := reports_frame x.say (((h.modSched fun y => { y with sending := none }).countTx p x.bytes).emit
    (.packet p.val x.addr x.ep x.bytes false false))
  generalize sent : x.say.foldl Hub.emit (((h.modSched fun y => { y with sending := none }).countTx p x.bytes).emit
    (.packet p.val x.addr x.ep x.bytes false false)) = k at *
  have ends : k.cellsReleased.roomFreed = k := by
    rw [Hub.cellsReleased_none (nvm ▸ noRetire), Hub.roomFreed_none (sched ▸ noCredit) (sched ▸ noStatus)]
  simp [Hub.upComplete, sending, whole, unmarked, sent, ends]

/-- The last byte on a D pod's link in U0 (R174). -/
theorem Hub.txComplete_down {payload desc : EccRead} (d : isD p = true) (awake : (h.link p).ltssm = .u0) :
    h.txComplete p payload desc = h.downComplete p payload desc := by
  simp [Hub.txComplete, d, awake]

/-- The last byte on the ACTIVE upstream pod's link (R174). -/
theorem Hub.txComplete_up {u : UpIx} {payload desc : EccRead} (up : podUp p = some u) (active : h.upsel.active = some u)
    (noD : isD p = false) : h.txComplete p payload desc = h.upComplete p payload desc := by
  simp [Hub.txComplete, noD, up, active]

end

/-- Settles O21: starts and completions where their conditions hold, then each as the operation it names. -/
theorem upstreamService : Obligations.UpstreamService := by
  refine ⟨fun s p payload desc hs => ⟨?starts, ?unrouted, ?down, ?up⟩,
    fun s hs => ⟨?opportunities, ?completions, ?requests, ?headers, ?payload, ?expiries⟩⟩
  case starts =>
    exact fun e n g x free selected head async unmarked routed =>
      onPe_acts hs ((Hub.startOpp_starts free selected head).trans (Hub.startPacket_clean async unmarked routed))
  case unrouted =>
    exact fun e n g x free selected head uncounted lost =>
      onPe_acts hs ((Hub.startOpp_starts free selected head).trans (Hub.startPacket_unrouted uncounted lost))
  case down =>
    exact fun d awake x rest stored whole unmarked routed stays noCredit noStatus noRetire =>
      onPe_acts hs ((Hub.txComplete_down (h := s.hub.quiet) d awake).trans
        (Hub.downComplete_good (h := s.hub.quiet) stored whole unmarked routed stays noCredit noStatus noRetire))
  case up =>
    exact fun u q x up active sending whole unmarked noCredit noStatus noRetire noD =>
      onPe_acts hs ((Hub.txComplete_up (h := s.hub.quiet) up active noD).trans
        (Hub.upComplete_good (h := s.hub.quiet) sending whole unmarked noCredit noStatus noRetire))
  case opportunities => exact fun _ _ => onPe_acts hs rfl
  case completions => exact fun _ _ _ => onPe_acts hs rfl
  case requests => exact fun _ _ _ _ => onPe_acts hs rfl
  case headers => exact fun _ _ _ _ => onPe_acts hs rfl
  case payload => exact fun _ _ _ _ _ => onPe_acts hs rfl
  case expiries => exact onPe_acts hs rfl

end Sys2Proof.Machine

namespace Sys2Proof.Machine

/-! The transaction translators: start-splits and complete-splits of OUT data, and what the hub answers to TT requests. -/

section
variable {h : Hub} {p : PodIx} {addr ep : Nat}

/-- A packet of the host counted leaves the links, the connectors and the NVM unit (R204). -/
theorem countHostRx_frame (h : Hub) (bytes : Nat) :
    (h.countHostRx bytes).links = h.links ∧ (h.countHostRx bytes).tcs = h.tcs ∧ (h.countHostRx bytes).nvm = h.nvm := by
  unfold Hub.countHostRx Hub.countRx
  split <;> exact ⟨rfl, rfl, rfl⟩

/-- The TT buffers of a pod, before and after a lookup. -/
theorem noteHit_ttRoom (dirIn : Bool) (m : MapHit) (periodic : Bool) (cells : Nat) :
    (h.noteHit p addr ep dirIn m).ttRoom p periodic cells = h.ttRoom p periodic cells := by
  have same : (h.noteHit p addr ep dirIn m).link p = h.link p := by simp only [Hub.link, noteHit_frame]
  rw [Hub.ttRoom, Hub.ttRoom, Hub.ttUsed, Hub.ttUsed, same]

/-! #### Start-splits -/

/-- A start-split for OUT that no firewall blocks is judged by the pod's buffers (R182). -/
theorem Hub.ttStart_out {bytes : Nat} {how : Arrival} {payload : EccRead} (live : h.ttLive p = true)
    (allowed : (h.countHostRx bytes).blockedAt p addr = false) :
    h.ttStart p addr ep false false bytes how payload = (h.countHostRx bytes).ttStartOut p addr ep bytes false how payload := by
  simp [Hub.ttStart, live, allowed]

/-- Without a free buffer the start-split is answered NAK (R182). -/
theorem Hub.ttStartOut_full {bytes : Nat} {how : Arrival} {payload : EccRead} (full : h.ttRoom p false (cellsOf bytes) = false) :
    h.ttStartOut p addr ep bytes false how payload =
      (h.noteHit p addr ep false (h.mapFind p addr ep false)).emit (.tt p.val .nak) := by
  simp [Hub.ttStartOut, noteHit_ttRoom, full]

/-- With a free buffer its data, which no policer measures, is kept and answered ACK (R182). -/
theorem Hub.ttStartOut_kept {bytes : Nat} {how : Arrival} {payload : EccRead} {m : MapHit} {h1 : Hub}
    (found : h.mapFind p addr ep false = m) (noPol : m.pol = none) (noted : h.noteHit p addr ep false m = h1)
    (async : h.isoEp p addr ep false m = false) (room : h.ttRoom p false (cellsOf bytes) = true) :
    h.ttStartOut p addr ep bytes false how payload = (h1.modLink p fun l =>
      { l with tt := l.tt ++ [{ addr := addr, ep := ep, dirIn := false, periodic := false, cells := cellsOf bytes
                                data := some bytes, damaged := how != .good, queue := m.queue }] }).emit (.tt p.val .ack) := by
  have room1 : h1.ttRoom p false (cellsOf bytes) = true := by rw [← noted, noteHit_ttRoom, room]
  simp [Hub.ttStartOut, Hub.polDiscards, Hub.police, found, noted, room1, noPol, async]

/-! #### Complete-splits -/

/-- A complete-split with no buffer is answered NYET (log 49). -/
theorem Hub.ttComplete_none {dirIn : Bool} {payload : EccRead} (live : h.ttLive p = true)
    (allowed : (h.countHostRx 0).blockedAt p addr = false) (empty : (h.link p).tt = []) :
    h.ttComplete p addr ep dirIn payload = (h.countHostRx 0).emit (.tt p.val .nyet) := by
  obtain ⟨links, -⟩ := countHostRx_frame h 0
  have empty' : ((h.countHostRx 0).link p).tt = [] := by rw [Hub.link, links]; exact empty
  simp [Hub.ttComplete, live, allowed, empty']

/-- The complete-split of OUT data that the TT can send goes on to the device (R182, R189). -/
theorem Hub.ttComplete_out {payload : EccRead} {b : TtBuf} {n : Nat} (live : h.ttLive p = true)
    (allowed : (h.countHostRx 0).blockedAt p addr = false) (reached : h.ttReaches p = true) (kept : (h.link p).tt = [b])
    (own : b.addr = addr ∧ b.ep = ep ∧ b.dirIn = false) (data : b.data = some n) :
    h.ttComplete p addr ep false payload = (h.countHostRx 0).ttHandOut p b n payload := by
  obtain ⟨links, tcs, -⟩ := countHostRx_frame h 0
  have kept' : ((h.countHostRx 0).link p).tt = [b] := by rw [Hub.link, links]; exact kept
  have reached' : (h.countHostRx 0).ttReaches p = true := by
    simp only [Hub.ttReaches, Hub.link, Hub.tc, links, tcs]
    exact reached
  simp [Hub.ttComplete, live, allowed, kept', reached', own, data]

/-- Good data whose read is clean is sent and answered ACK (R182, R190). -/
theorem Hub.ttHandOut_good {b : TtBuf} {n : Nat} (noRetire : h.nvm.toRetire = []) (whole : b.damaged = false)
    (unmarked : b.marked = false) :
    h.ttHandOut p b n .clean =
      (((h.ttTake p b).countTx p n).emit (.packet p.val b.addr b.ep n false false)).emit (.tt p.val .ack) := by
  have released : (h.ttTake p b).cellsReleased = h.ttTake p b := Hub.cellsReleased_none noRetire
  simp [Hub.ttHandOut, released, whole, unmarked]

/-! #### TT requests -/

/-- While no upstream is ACTIVE a stall goes out at once (R182). -/
theorem Hub.hubStall_inactive (inactive : h.upsel.active = none) : h.hubStall p = h.emit (.tt p.val .stall) := by
  simp [Hub.hubStall, Hub.countSetup, Hub.countHostRx, Hub.answer, inactive]

end

/-- Settles O22: each split transaction and TT request where its conditions hold, then each as the operation it names. NYET without a
buffer is log 49; a TT request counts as its SETUP packet of 8 bytes (log 94). -/
theorem transactionTranslators : Obligations.TransactionTranslators := by
  refine ⟨fun s p addr ep dirIn bytes how payload hs =>
    ⟨?kept, ?full, ?noBuffer, ?complete, ?clear, ?reset, ?getState, ?stop, ?inactive⟩, fun s hs =>
    ⟨?starts, ?completes, ?clears, ?resets, ?getStates, ?stops⟩⟩
  case kept =>
    exact fun live allowed m h1 found noPol noted async room =>
      onPe_acts hs ((Hub.ttStart_out (h := s.hub.quiet) live allowed).trans
        (Hub.ttStartOut_kept found noPol noted async room))
  case full =>
    exact fun live allowed full =>
      onPe_acts hs ((Hub.ttStart_out (h := s.hub.quiet) live allowed).trans (Hub.ttStartOut_full full))
  case noBuffer =>
    exact fun live allowed empty => onPe_acts hs (Hub.ttComplete_none (h := s.hub.quiet) live allowed empty)
  case complete =>
    intro live allowed noRetire noHold enabled b n kept addrEq epEq out data whole unmarked
    have reached : s.hub.quiet.ttReaches p = true := by simp [Hub.ttReaches, noHold, enabled]
    obtain ⟨-, -, nvm⟩ := countHostRx_frame s.hub.quiet 0
    have noRetire' : (s.hub.quiet.countHostRx 0).nvm.toRetire = [] := by rw [nvm]; exact noRetire
    exact onPe_acts hs ((Hub.ttComplete_out (h := s.hub.quiet) live allowed reached kept ⟨addrEq, epEq, out⟩ data).trans
      (Hub.ttHandOut_good noRetire' whole unmarked))
  case clear | reset | getState | stop => exact onPe_acts hs rfl
  case inactive => exact fun inactive => Hub.hubStall_inactive (h := s.hub.quiet) inactive
  case starts => exact fun _ _ _ _ _ _ _ _ => onPe_acts hs rfl
  case completes => exact fun _ _ _ _ _ => onPe_acts hs rfl
  case clears => exact fun _ _ _ _ => onPe_acts hs rfl
  case resets => exact fun _ => onPe_acts hs rfl
  case getStates => exact fun _ => onPe_acts hs rfl
  case stops => exact fun _ => onPe_acts hs rfl

end Sys2Proof.Machine

namespace Sys2Proof.Machine

/-! A wake or an exit of a domain leaves the data links and the upstream selection: it changes domains, rails and jobs. -/

/-- The data links and the upstream selection of the block. -/
def Hub.wiring (h : Hub) : Vector Link 16 × Upsel := (h.links, h.upsel)

section
variable (h : Hub)

@[simp] theorem modSeq_wiring (f : Seq → Seq) : (h.modSeq f).wiring = h.wiring := rfl

@[simp] theorem modDom_wiring (n : DomIx) (f : Dom → Dom) : (h.modDom n f).wiring = h.wiring := rfl

@[simp] theorem modRl_wiring (f : Rlink → Rlink) : (h.modRl f).wiring = h.wiring := rfl

@[simp] theorem modNvm_wiring (f : Nvm → Nvm) : (h.modNvm f).wiring = h.wiring := rfl

@[simp] theorem emit_wiring (o : Output) : (h.emit o).wiring = h.wiring := rfl

@[simp] theorem evt_wiring (off bit : Nat) : (h.evt off bit).wiring = h.wiring := rfl

@[simp] theorem bumpBy_wiring (slot n : Nat) : (h.bumpBy slot n).wiring = h.wiring := rfl

@[simp] theorem bump_wiring (slot : Nat) : (h.bump slot).wiring = h.wiring := rfl

@[simp] theorem raise_wiring (src code sev : Nat) (data : List Nat) : (h.raise src code sev data).wiring = h.wiring := rfl

@[simp] theorem jobEnd_wiring (j : Fin 8) (o : Outcome) : (h.jobEnd j o).wiring = h.wiring := rfl

/-- A fold keeps what each of its steps keeps. -/
theorem foldl_wiring {α : Type} {f : Hub → α → Hub} (keeps : ∀ g a, (f g a).wiring = g.wiring) (l : List α) :
    (l.foldl f h).wiring = h.wiring := by
  induction l generalizing h with
  | nil => rfl
  | cons a l ih => exact (ih (f h a)).trans (keeps h a)

/-! #### Items, jobs and rails -/

@[simp] theorem wakeItem_wiring (ty source : Nat) : (h.wakeItem ty source).wiring = h.wiring := by
  unfold Hub.wakeItem Hub.huskEvt
  dsimp only
  split
  · simp
  · split <;> simp

@[simp] theorem domJobsEnd_wiring (n : DomIx) (ok : Bool) : (h.domJobsEnd n ok).wiring = h.wiring := by
  rw [Hub.domJobsEnd, modSeq_wiring]
  exact foldl_wiring h (fun g j => jobEnd_wiring g _ _) _

@[simp] theorem planJobsEnd_wiring : h.planJobsEnd.wiring = h.wiring := by
  rw [Hub.planJobsEnd, modSeq_wiring]
  exact foldl_wiring h (fun g j => jobEnd_wiring g _ _) _

@[simp] theorem planStop_wiring (n : DomIx) : (h.planStop n).wiring = h.wiring := by
  rw [Hub.planStop, planJobsEnd_wiring]
  exact foldl_wiring _ (fun g d => modDom_wiring g d _) _

@[simp] theorem rlRequest_wiring (owner : Nat) (k : RlKind) : (h.rlRequest owner k).wiring = h.wiring := by
  unfold Hub.rlRequest Hub.rlEnqueue Hub.rlFailNow Hub.modSlot
  dsimp only
  split
  · simp
  · split <;> simp

@[simp] theorem exitRailFail_wiring (n : DomIx) (r : Fin 10) : (h.exitRailFail n r).wiring = h.wiring := by
  unfold Hub.exitRailFail Hub.domEvt
  dsimp only
  split <;> simp

@[simp] theorem railsKeep_wiring (n : DomIx) : (h.railsKeep n).wiring = h.wiring := rfl

@[simp] theorem railsRequestOn_wiring (n : DomIx) : (h.railsRequestOn n).wiring = h.wiring := by
  refine foldl_wiring h (fun g r => ?_) _
  dsimp only
  split
  · rfl
  · split <;> simp

/-! #### Exits and refusals -/

@[simp] theorem domExitOne_wiring (src : Nat) (n : DomIx) : (h.domExitOne src n).wiring = h.wiring := by
  unfold Hub.domExitOne
  dsimp only
  split
  · split <;> simp
  · rfl

@[simp] theorem domExit_wiring (src : Nat) (n : DomIx) : (h.domExit src n).wiring = h.wiring :=
  foldl_wiring h (fun g d => domExitOne_wiring g src d) _

@[simp] theorem exitAll_wiring (src : Nat) (set : List DomIx) : (h.exitAll src set).wiring = h.wiring :=
  foldl_wiring h (fun g d => domExit_wiring g src d) _

@[simp] theorem domBack_wiring (n : DomIx) (src : Nat) : (h.domBack n src).wiring = h.wiring := by
  unfold Hub.domBack Hub.stageFlush Hub.busTakes
  dsimp only
  (repeat' split) <;> simp

@[simp] theorem refuseNote_wiring (n : DomIx) (code owner detail : Nat) : (h.refuseNote n code owner detail).wiring = h.wiring := by
  unfold Hub.refuseNote Hub.domEvt
  dsimp only
  split <;> simp

@[simp] theorem domRefuse_wiring (n : DomIx) (code owner detail : Nat) : (h.domRefuse n code owner detail).wiring = h.wiring := by
  rw [Hub.domRefuse, refuseNote_wiring, domBack_wiring]

/-! #### What waits, and the wake itself -/

@[simp] theorem domEnter_wiring (n : DomIx) (t : DomTgt) : (h.domEnter n t).wiring = h.wiring := by
  unfold Hub.domEnter
  dsimp only
  split
  · simp
  · split <;> simp

@[simp] theorem domTake_wiring (n : DomIx) (t : DomTgt) : (h.domTake n t).wiring = h.wiring := by
  unfold Hub.domTake
  (repeat' split) <;> simp

@[simp] theorem queuedRun_wiring (n : DomIx) (planned : Bool) : (h.queuedRun n planned).wiring = h.wiring := by
  simp [Hub.queuedRun]

@[simp] theorem turnOf_wiring (n : DomIx) : (h.turnOf n).wiring = h.wiring := by
  unfold Hub.turnOf
  (repeat' split) <;> simp

@[simp] theorem domNext_wiring : h.domNext.wiring = h.wiring := by
  have turns := foldl_wiring h turnOf_wiring planOrder
  unfold Hub.domNext
  dsimp only
  split <;> simp [turns]

@[simp] theorem wakeRun_wiring (src : Nat) (set : List DomIx) (ty : Nat) : (h.wakeRun src set ty).wiring = h.wiring := by
  have refusals (l : List DomIx) (g : Hub) : (l.foldl (fun h e => h.domRefuse e 4 1 src) g).wiring = g.wiring :=
    foldl_wiring g (fun k e => domRefuse_wiring k e 4 1 src) l
  unfold Hub.wakeRun
  dsimp only
  (repeat' split) <;> simp [refusals]

/-- A wake source leaves the data links and the upstream selection (R345). -/
@[simp] theorem wakeSource_wiring (s : Nat) : (h.wakeSource s).wiring = h.wiring := by
  unfold Hub.wakeSource
  split <;> simp

theorem wakeSource_links (s : Nat) : (h.wakeSource s).links = h.links := congrArg Prod.fst (wakeSource_wiring h s)

theorem wakeSource_upsel (s : Nat) : (h.wakeSource s).upsel = h.upsel := congrArg Prod.snd (wakeSource_wiring h s)

end

end Sys2Proof.Machine

namespace Sys2Proof.Machine

/-! Link power, suspend, remote wake, snooped transfers and violations. -/

section
variable {h : Hub} {p : PodIx} {u : UpIx}

/-! #### Link power -/

/-- A SuperSpeed link in U0 with nothing stored for it goes to sleep at its idle timeout (R183). -/
theorem Hub.linkIdle_sleeps {toU2 enabled : Bool} (d : isD p = true) (awake : (h.link p).ltssm = .u0)
    (ss : (h.link p).speed.ss = true) (sent : (h.link p).down = []) :
    h.linkIdle p toU2 enabled =
      (((h.modLink p fun l => { l with ltssm := if toU2 then .u2 else .u1 }).bump (cntLink p (if toU2 then 13 else 12))).emit
        (.linkCmd p.val (if toU2 then .toU2 else .toU1))) := by
  simp [Hub.linkIdle, Hub.linkSleep, d, awake, ss, sent]

/-- LGO on a link in U0 is accepted with LAU where nothing is stored for the link, and answered with LXU otherwise (R183). -/
theorem Hub.linkGo_awake {toU2 enabled : Bool} (d : isD p = true) (awake : (h.link p).ltssm = .u0) :
    h.linkGo p toU2 enabled =
      if (h.link p).down.isEmpty then
        (((h.modLink p fun l => { l with ltssm := if toU2 then .u2 else .u1 }).bump (cntLink p (if toU2 then 13 else 12))).emit
          (.linkCmd p.val .lau))
      else h.emit (.linkCmd p.val .lxu) := by
  simp [Hub.linkGo, Hub.linkSleep, d, awake]

/-- The ACTIVE SuperSpeed link enters U3 from U0 with no held credit, and the links below follow (R184). -/
theorem Hub.upstreamU3_enters (active : h.upsel.active = some u) (ss : (h.link (upPod u)).speed.ss = true)
    (awake : (h.link (upPod u)).ltssm = .u0) (noCredit : h.sched.credit = none) :
    h.upstreamU3 = ((List.finRange 16).filter isD).foldl (fun h q => if (h.link q).ltssm == .recovery then h else h.linkToU3 q)
      ((h.modLink (upPod u) fun l => { l with ltssm := .u3, u3Pending := false }).bump (cntLink (upPod u) 14)) := by
  simp [Hub.upstreamU3, Hub.upstreamSleep, Ltssm.live, active, ss, awake, noCredit]

/-- The ACTIVE SuperSpeed link leaves U3 (R184). -/
theorem Hub.upstreamU3Exit_leaves (active : h.upsel.active = some u) (ss : (h.link (upPod u)).speed.ss = true)
    (asleep : (h.link (upPod u)).ltssm = .u3) :
    h.upstreamU3Exit = (h.modLink (upPod u) fun l => { l with ltssm := .u0 }).bump (cntLink (upPod u) 11) := by
  simp [Hub.upstreamU3Exit, active, ss, asleep]

/-- UPSTREAM_U3_EXIT is a command of the ACTIVE upstream pod: it acts without CLK_PE, and wakes PE (R184, R345). -/
theorem exec_upstreamU3Exit_acts {s : State} {k : Hub} (hs : s.works (podDom (upPod u))) (refClock : s.hub.seq.fallback = false)
    (active : s.hub.upsel.active = some u) (made : s.hub.quiet.upstreamU3Exit.wakeSource 17 = k) :
    exec .upstreamU3Exit s = .next (s.put k) := by
  obtain ⟨out, works⟩ := hs
  have runs : s.hub.quiet.domRuns (podDom (upPod u)) = true := works
  have dispatch : exec .upstreamU3Exit s = execUpstreamU3Exit s := rfl
  rw [dispatch, execUpstreamU3Exit]
  refine perform_acts out (Eq.trans ?_ made)
  simp [active, refClock, Hub.inDom_run runs]

/-- Where no port below is enabled, the ACTIVE connection alone suspends (R185). -/
theorem Hub.usb2Suspend_alone (active : h.upsel.active = some u) (enabled : (h.link (upPod u)).u2 = .enabled)
    (below : ∀ q, isD q = true → (h.link q).u2 ≠ .enabled) :
    h.usb2Suspend = h.modLink (upPod u) fun l => { l with u2 := .suspended } := by
  have still (q : PodIx) (d : isD q = true) :
      ((h.modLink (upPod u) fun l => { l with u2 := .suspended }).link q).u2 ≠ .enabled := by
    rw [h.modLink_link_ne _ (Ne.symm (upPod_ne d u))]
    exact below q d
  generalize suspended : (h.modLink (upPod u) fun l => { l with u2 := .suspended }) = k at *
  simp only [Hub.usb2Suspend, active, enabled, suspended, List.foldl_filter]
  refine List.foldl_fixed' (fun q => ?_) _
  split
  · next d => exact if_neg (by simpa using still q d)
  · rfl

/-! #### Remote wake -/

/-- A SuperSpeed device leaves U3 while no upstream is ACTIVE: the wake goes no further than the port (R186, R345). -/
theorem Hub.remoteWake_ssU3 {permitted : Bool} (d : isD p = true) (asleep : (h.link p).ltssm = .u3)
    (inactive : h.upsel.active = none) :
    h.remoteWake p .ssU3Exit permitted =
      (((((h.wakeSource 17).modLink p fun l => { l with ltssm := .u0, cLink := true }).bump (cntLink p 11)).wakeNoted
        p).statusChange) := by
  have asleep' : ((h.wakeSource 17).link p).ltssm = .u3 := by rw [Hub.link, wakeSource_links]; exact asleep
  have inactive' : (((((h.wakeSource 17).modLink p fun l => { l with ltssm := .u0, cLink := true }).bump
      (cntLink p 11)).wakeNoted p).statusChange).upsel.active = none := by
    have before : (h.wakeSource 17).upsel.active = none := by rw [wakeSource_upsel, inactive]
    simp [Hub.statusChange, Hub.wakeNoted, Hub.linkEvt, before]
  simp [Hub.remoteWake, d, asleep, asleep', inactive']

/-! #### Snooping and violations -/

/-- A transfer of a known device that the pod could not snoop is missed, and the device denied (R193, R203, R280). -/
theorem Hub.snoop_missed {addr : Nat} {direct hs : Bool} {x : SnoopXfer} (d : isD p = true) (known : (h.dev p addr).isSome = true) :
    h.snoop p addr direct hs false x =
      ((((h.linkEvt p 5).modDev p addr fun d => { d with missed := true }).raise (srcLink p) 0x4005 1 [addr, 3]).fwlJudge p addr
        false) := by
  simp [Hub.snoop, Hub.devSeen, Hub.snoopLack, d, known]

/-- A device behind a hub gets its address (R192, R194). -/
theorem Hub.snoop_address {addr : Nat} {hs : Bool} {a : Fin 128} (d : isD p = true) (given : a ≠ 0) :
    h.snoop p addr false hs true (.setAddress a) =
      ((((h.deviceGone p addr).deviceGone p a.val).dsUpdate p false).modSched fun y =>
        { y with devs := y.devs ++ [{ pod := p, addr := a.val, direct := false, hs := hs }] }) := by
  have given' : a.val ≠ 0 := fun zero => given (Fin.ext zero)
  simp [Hub.snoop, Hub.snoopKnown, Hub.snoopAddress, d, given']

/-- Babble disables its port at once (R195, R203). -/
theorem Hub.violation_babble {addr : Nat} (d : isD p = true) :
    h.violation p .babble addr =
      let recent := h.clk :: (h.link p).viols.filter fun t => h.clk < t + ticksPerSecond
      (((((h.modLink p fun l => { l with viols := recent.take 127 }).bump (cntLink p 10)).portDisable p 2).modLink p
        fun l => { l with viols := [] }).linkEvt p 0).raise (srcLink p) 0x4001 3 [1, min 255 recent.length, addr] := by
  simp [Hub.violation, violCode, d]

end

/-- Settles O24: each event of a link, a device or a snooped transfer where its conditions hold, then each as the operation it names.
Source 17, which a wake raises for PE, is R345's (log 90). -/
theorem linkPowerAndSnoop : Obligations.LinkPowerAndSnoop := by
  refine ⟨fun s p u b e addr a x d =>
    ⟨?idle, ?accepted, ?refused, ?enters, ?leaves, ?suspends, ?wakes, ?missed, ?address, ?babble⟩,
    fun s => ⟨fun p hs => ⟨?idles, ?gos, ?remoteWakes, ?violations⟩, fun hs => ⟨?entries, ?suspend, ?snoops⟩⟩⟩
  case idle => exact fun hs awake ss sent => onPod_acts hs (Hub.linkIdle_sleeps (h := s.hub.quiet) d awake ss sent)
  case accepted =>
    exact fun hs awake sent =>
      onPod_acts hs ((Hub.linkGo_awake (h := s.hub.quiet) d awake).trans (if_pos (List.isEmpty_iff.mpr sent)))
  case refused =>
    exact fun hs awake waits =>
      onPod_acts hs ((Hub.linkGo_awake (h := s.hub.quiet) d awake).trans (if_neg (mt List.isEmpty_iff.mp waits)))
  case enters =>
    exact fun hs active ss awake noCredit =>
      onPe_acts hs (Hub.upstreamU3_enters (h := s.hub.quiet) active ss awake noCredit)
  case leaves =>
    exact fun hs refClock active ss asleep =>
      exec_upstreamU3Exit_acts hs refClock active
        (congrArg (fun h => h.wakeSource 17) (Hub.upstreamU3Exit_leaves (h := s.hub.quiet) active ss asleep))
  case suspends =>
    exact fun hs active enabled below => onPe_acts hs (Hub.usb2Suspend_alone (h := s.hub.quiet) active enabled below)
  case wakes =>
    exact fun hs asleep inactive => onPod_acts hs (Hub.remoteWake_ssU3 (h := s.hub.quiet) d asleep inactive)
  case missed => exact fun hs known => onPe_acts hs (Hub.snoop_missed d known)
  case address =>
    rintro hs given rfl
    exact onPe_acts hs (Hub.snoop_address d given)
  case babble => exact fun hs => onPod_acts hs (Hub.violation_babble d)
  case idles => exact fun _ _ => onPod_acts hs rfl
  case gos => exact fun _ _ => onPod_acts hs rfl
  case remoteWakes => exact fun _ _ => onPod_acts hs rfl
  case violations => exact fun _ _ => onPod_acts hs rfl
  case entries => exact onPe_acts hs rfl
  case suspend => exact onPe_acts hs rfl
  case snoops => exact fun _ _ _ _ _ _ => onPe_acts hs rfl

end Sys2Proof.Machine

namespace Sys2Proof.Machine

/-! The timebase and the gate lists: ITPs, their absence, and time passing to a switch or to the end of an entry. -/

section
variable {h : Hub} {d : DirIx}

/-- An ITP on the ACTIVE upstream link in U0 goes on to the devices and disciplines the timebase (R180, R235). -/
theorem Hub.itpIn_forwards {u : UpIx} {delayed : Bool} {since : Nat} (active : h.upsel.active = some u)
    (awake : (h.link (upPod u)).ltssm = .u0) (noCredit : h.sched.credit = none) :
    h.itpIn delayed since = (h.itpForward delayed).itpSync delayed since := by
  simp [Hub.itpIn, Hub.takesHeaders, active, awake, noCredit]

/-- Where ITPs discipline the timebase, one with Delayed set is counted only (R235). -/
theorem Hub.itpSync_delayed {since : Nat} (byItp : h.discipline = 1) : h.itpSync true since = h.bump (cntMap 6) := by
  simp [Hub.itpSync, byItp]

/-- Without ITPs a timebase that they disciplined begins holdover (R236). -/
theorem Hub.itpSilent_holds (byItp : h.discipline = 1) (synced : h.timing.unsync = false) (used : h.timing.srcUsed = 1)
    (running : h.timing.holdover = false) :
    h.itpSilent =
      ((h.modTiming fun t => { t with holdover := true, holdAt := h.clk }).timeEvt 2).raise srcTime 0x5103 2 [1] := by
  simp [Hub.itpSilent, Hub.holdoverOn, byItp, synced, used, running]

/-- The entry in force ends, with no switch to truncate it (R239). -/
theorem Hub.gateAdvance_entry {k left : Nat} {x : GateEnt} (entry : (h.gate d).entryAt h.tb.toNat = some (k, x, left))
    (alone : (h.gate d).pending = false) : h.gateAdvance d = (h.passTo (h.tb.toNat + left)).gatesSettle := by
  simp [Hub.gateAdvance, entry, alone]

end

/-- Settles O30: each event of time where its conditions hold, then each as the operation it names. What else passes with the time to a
switch or an entry's end is log 56. -/
theorem timeAndGates : Obligations.TimeAndGates := by
  refine ⟨fun s u since d => ⟨?itp, ?silent, ?switch, ?entry, ?delayed⟩,
    fun s => ⟨fun hs => ⟨?itps, ?silence, ?switches, ?entries⟩, ?cancel⟩⟩
  case itp =>
    intro hs active awake noCredit
    have forwards (delayed : Bool) :=
      Hub.itpIn_forwards (h := s.hub.quiet) (delayed := delayed) (since := since) active awake noCredit
    exact ⟨onPe_acts hs (forwards true), onPe_acts hs (forwards false)⟩
  case silent =>
    exact fun hs byItp synced used running =>
      onPe_acts hs (Hub.itpSilent_holds (h := s.hub.quiet) byItp synced used running)
  case switch => exact fun hs pending => onPe_acts hs (if_pos pending)
  case entry =>
    exact fun k x left hs entry alone => onPe_acts hs (Hub.gateAdvance_entry (h := s.hub.quiet) entry alone)
  case delayed => exact Hub.itpSync_delayed
  case itps => exact fun _ _ => onPe_acts hs rfl
  case silence => exact onPe_acts hs rfl
  case switches => exact fun _ => onPe_acts hs rfl
  case entries => exact fun _ => onPe_acts hs rfl
  case cancel => exact fun _ _ takes => masterCommand_acts takes rfl

end Sys2Proof.Machine

namespace Sys2Proof.Machine

/-! The Endpoint Map as a master writes it, and the timers of the pacing queues. -/

/-! #### A word of the map read after a write -/

/-- A word set reads back in its own bank at its own index, and no other word changes (R207). -/
theorem Hub.mapWord_setMapWord (h : Hub) (b c : Bool) (i j : Nat) (w : Word) :
    (h.setMapWord b i w).mapWord c j = if c = b ∧ j = i then w else h.mapWord c j := by
  cases b <;> cases c <;> simp [Hub.mapWord, Hub.setMapWord, Hub.modSched, smGet_smSet]

/-- The addresses of map entries lie in the map's own block (R422). -/
theorem blockOf_mapOff (bankB : Bool) (idx : Fin 4064) : blockOf (mapOff bankB idx.val) = 28 := by
  have last := idx.isLt
  have inMap : 0x40000 ≤ mapOff bankB idx.val ∧ mapOff bankB idx.val < 0x48000 := by
    cases bankB <;> simp only [mapOff, Bool.false_eq_true, if_true, if_false] <;> omega
  generalize mapOff bankB idx.val = off at inMap
  rw [blockOf]
  iterate 9 rw [if_neg (by omega)]
  exact if_pos inMap.2

/-- The map's block leaves its safe response without an effect on the scheduler (R313, R314). -/
theorem Hub.safeEnd_map_sched (h : Hub) : (h.safeEnd 28).sched = h.sched := by
  unfold Hub.safeEnd
  split
  · rfl
  · split <;> rfl

/-- The end of a parity fault at a map entry leaves the scheduler (R314). -/
theorem Hub.parWritten_map_sched {off : Nat} (h : Hub) (ofMap : blockOf off = 28) :
    (h.parWritten off false).sched = h.sched := by
  refine List.foldlRecOn (motive := fun g : Hub => g.sched = h.sched) _ _ rfl fun g kept b blocks => ?_
  obtain ⟨f, ended, ofBlock⟩ := List.any_eq_true.mp (List.mem_filter.mp blocks).2
  have at_off : f.off = off := by simpa using (List.mem_filter.mp ended).2
  have isMap : b = 28 := by rw [← eq_of_beq ofBlock, at_off, ofMap]
  rw [isMap, g.safeEnd_map_sched, kept]

/-- A stored entry reads back with its reserved bits 0 and bit 18 set; every other entry of either bank stands (R207). -/
theorem Hub.mapWord_mapStore (h : Hub) (b c : Bool) (i : Fin 4064) (j : Nat) (w : Word) :
    (h.mapStore b i.val w).mapWord c j = if c = b ∧ j = i.val then mapStoredWord w else h.mapWord c j := by
  have words : (h.mapStore b i.val w).mapWord c j = (h.setMapWord b i.val (mapStoredWord w)).mapWord c j := by
    unfold Hub.mapStore Hub.mapWord
    rw [Hub.parWritten_map_sched _ (blockOf_mapOff b i)]
    rfl
  rw [words, Hub.mapWord_setMapWord]

/-! #### The write of an entry -/

section
variable {h : Hub} {m : Master} {off i : Nat} {bankB : Bool} {w : Word}

/-- A word whose SECURE bit is 0 is what it is without that bit. -/
theorem and_not_secure (clear : w.getLsbD 7 = false) : w &&& ~~~BitVec.twoPow 32 7 = w := by
  ext k _
  simp only [BitVec.getElem_and, BitVec.getElem_not, BitVec.getElem_twoPow]
  by_cases at7 : k = 7
  · subst at7
    simpa using clear
  · simp [at7]

/-- The verified core writes an entry as given, and another master does where SECURE is 0 before and after (R207, R416). -/
theorem Hub.mapWrite_stores (may : h.mayAccess m = true) (lit : h.domDark domPe = false)
    (permitted : h.secure m = true ∨ (h.mapWord bankB i).getLsbD 7 = false ∧ w.getLsbD 7 = false) :
    h.mapWrite m off bankB i w = h.mapStore bankB i w := by
  cases verified : h.secure m with
  | true => simp [Hub.mapWrite, may, lit, verified]
  | false =>
    obtain ⟨unguarded, clear⟩ := permitted.resolve_left (by simp [verified])
    have same : w &&& 0xFFFFFF7F#32 = w := and_not_secure clear
    simp [Hub.mapWrite, may, lit, verified, unguarded, clear, same, -BitVec.getLsbD_eq_getElem]

/-- An entry whose SECURE bit is 1 is denied to another master (R296, R416). -/
theorem Hub.mapWrite_guarded (may : h.mayAccess m = true) (other : h.secure m = false)
    (guarded : (h.mapWord bankB i).getLsbD 7 = true) : h.mapWrite m off bankB i w = h.denyAcc m off true := by
  simp [Hub.mapWrite, may, other, guarded]

/-- A denied access darkens no domain. -/
theorem Hub.denyAcc_domDark (write : Bool) (n : DomIx) : (h.denyAcc m off write).domDark n = h.domDark n := by
  unfold Hub.denyAcc
  split <;> rfl

/-- Another master's 1 for a SECURE bit that is 0 is denied, and the other fields are written (R296, R416, R417). -/
theorem Hub.mapWrite_keepsClear (may : h.mayAccess m = true) (lit : h.domDark domPe = false) (other : h.secure m = false)
    (unguarded : (h.mapWord bankB i).getLsbD 7 = false) (asked : w.getLsbD 7 = true) :
    h.mapWrite m off bankB i w = (h.denyAcc m off true).mapStore bankB i (w &&& 0xFFFFFF7F) := by
  simp [Hub.mapWrite, Hub.denyAcc_domDark, may, lit, other, unguarded, asked, -BitVec.getLsbD_eq_getElem]

end

section
variable {s : State} {m : Master} {bankB : Bool} {idx : Fin 4064} {w : Word}

/-- MAP_ENTRY_WRITE out of reset is the write of the entry, or waits where a domain holds the access (R207, R334). -/
theorem exec_mapEntryWrite (out : s.hub.held = .none) :
    exec (.mapEntryWrite m bankB idx w) s = .next (s.put
      (if s.hub.accHeld m (mapOff bankB idx.val) 2 = true then
        s.hub.quiet.accHold { m := m, addr := mapOff bankB idx.val, size := 2, word := some (w.setWidth 64) }
      else s.hub.quiet.mapWrite m (mapOff bankB idx.val) bankB idx.val w)) := by
  change execMapEntryWrite m bankB idx w s = _
  unfold execMapEntryWrite
  exact perform_run out _

/-- To a domain that holds no access it is the write at once. -/
theorem exec_mapEntryWrite_now {k : Hub} (out : s.hub.held = .none)
    (now : s.hub.accHeld m (mapOff bankB idx.val) 2 = false)
    (made : s.hub.quiet.mapWrite m (mapOff bankB idx.val) bankB idx.val w = k) :
    exec (.mapEntryWrite m bankB idx w) s = .next (s.put k) := by
  rw [exec_mapEntryWrite out, if_neg (Bool.eq_false_iff.mp now), made]

end

/-- Settles O27: the write is a store in the map, and an entry stored reads back as R207 has it. -/
theorem mapEntryReadsBack : Obligations.MapEntryReadsBack := by
  rintro s bankB idx j w ⟨out, may, verified, -, now⟩ lit
  have stored := exec_mapEntryWrite_now (w := w) out now
    (Hub.mapWrite_stores (h := s.hub.quiet) (by exact may) (by exact lit) (.inl (by exact verified rfl)))
  refine ⟨_, stored, ?same, fun other => ?others, ?otherBank⟩
  case same => exact (Hub.mapWord_mapStore ..).trans (if_pos ⟨rfl, rfl⟩)
  case others => exact (Hub.mapWord_mapStore ..).trans (if_neg fun at_idx => other (Fin.ext at_idx.2))
  case otherBank => exact (Hub.mapWord_mapStore ..).trans (if_neg fun at_idx => Bool.not_ne_self bankB at_idx.1)

/-! #### The pacing queues -/

section
variable {h : Hub} {n : QueueIx}

/-- A head that nothing holds and that waited for no cells is released, with its wait counted (R223, R227). -/
theorem Hub.paceHead_releases {r : PaceReq} {rest : List PaceReq} (head : (h.pq n).reqs = r :: rest) (free : h.pqBlock n r = 0)
    (noCells : r.cellAt = none) :
    h.paceHead n = ((h.modPq n fun q => { q with reqs := rest }).bumpBy (cntPq n 1) (h.clk - r.since)).reqRelease n r := by
  have waited (g : Hub) : g.reqWaited n r = g.bumpBy (cntPq n 1) (g.clk - r.since) := by simp [Hub.reqWaited, noCells]
  rw [Hub.paceHead, head]
  dsimp only
  rw [if_pos free, waited]
  rfl

end

/-- Settles O26: each write of an entry and each timer where its conditions hold, then each as the operation it names. A 0 written to a
SECURE bit that is 0 is no denied access (log 104); accesses that a domain holds are logs 7 and 107. -/
theorem mapAndPacing : Obligations.MapAndPacing := by
  refine ⟨fun s m bankB idx w n addr ep => ⟨?stores, ?guarded, ?keepsClear, ?held, ?releases, ?defers, ?passes⟩,
    fun s => ⟨?writes, fun hs => ⟨?heads, ?deferrals, ?drops⟩⟩⟩
  case stores =>
    rintro ⟨out, may, -, -, now⟩ lit permitted
    exact exec_mapEntryWrite_now out now (Hub.mapWrite_stores (h := s.hub.quiet) may lit permitted)
  case guarded =>
    rintro ⟨out, may, -, -, now⟩ other guarded
    exact exec_mapEntryWrite_now out now (Hub.mapWrite_guarded (h := s.hub.quiet) may other guarded)
  case keepsClear =>
    rintro ⟨out, may, -, -, now⟩ lit other unguarded asked
    exact exec_mapEntryWrite_now out now (Hub.mapWrite_keepsClear (h := s.hub.quiet) may lit other unguarded asked)
  case held => exact fun out held => by rw [exec_mapEntryWrite out, if_pos held]
  case releases =>
    exact fun r rest hs head free noCells => onPe_acts hs (Hub.paceHead_releases (h := s.hub.quiet) head free noCells)
  case defers => exact fun hs waits => onPe_acts hs (if_pos waits)
  case passes => exact fun hs => onPe_acts hs rfl
  case writes => exact fun _ _ _ _ out now => exec_mapEntryWrite_now out now rfl
  case heads => exact fun _ => onPe_acts hs rfl
  case deferrals => exact fun _ _ _ => onPe_acts hs rfl
  case drops => exact fun _ _ => onPe_acts hs rfl

end Sys2Proof.Machine

namespace Sys2Proof.Machine

/-! Token buckets: one unit of a bucket, and TOKEN_ACCRUAL on one shaper. -/

/-- A unit of a bucket with a rate stops at the burst (R217, R220). -/
theorem accrue_le_burst {rate : Nat} (on : rate ≠ 0) (burst : Nat) (t : Int) : accrue rate burst t ≤ tok (burst * 64) := by
  rw [accrue, if_neg on]
  exact min_le_left _ _

/-- A unit lowers no bucket that stands at or below its burst: what accrues is not negative (R217). -/
theorem le_accrue {rate burst : Nat} {t : Int} (on : rate ≠ 0) (within : t ≤ tok (burst * 64)) : t ≤ accrue rate burst t := by
  rw [accrue, if_neg on]
  have grows : 0 ≤ accrual rate := Int.natCast_nonneg _
  exact le_min within (by omega)

/-- A counter that counts on a condition changes no queue. -/
theorem Hub.bumpIf_sched (h : Hub) (c : Bool) (slot : Nat) : (if c then h.bump slot else h).sched = h.sched := by
  split <;> rfl

/-- Nor does it change a shaper's settings. -/
theorem Hub.bumpIf_shaper (h : Hub) (c : Bool) (slot : Nat) (n : QueueIx) :
    (if c then h.bump slot else h).shpRate n = h.shpRate n ∧ (if c then h.bump slot else h).shpBurst n = h.shpBurst n := by
  split <;> exact ⟨rfl, rfl⟩

/-- TOKEN_ACCRUAL on a shaper with a rate changes of the scheduler its bucket alone, by one unit (R217). -/
theorem Hub.accrueShaper_sched {h : Hub} {n : QueueIx} (on : h.shpRate n ≠ 0) :
    (h.accrueShaper n).sched =
      (h.modUq n fun u => { u with tokens := accrue (h.shpRate n) (h.shpBurst n) u.tokens }).sched := by
  simp only [Hub.accrueShaper, Hub.bumpIf_shaper, if_neg on, Hub.modUq, Hub.modSched, Hub.bumpIf_sched]

/-- Settles O28: a unit stops at the burst and adds nothing negative, and a shaper's unit is its own bucket's alone. -/
theorem tokenBuckets : Obligations.TokenBuckets := by
  refine ⟨fun s hs => onPe_acts hs rfl, fun rate burst t on => ⟨accrue_le_burst on burst t, le_accrue on⟩, fun _ _ => rfl,
    fun h n on => ?shaper⟩
  case shaper =>
    have queue (k : QueueIx) : (h.accrueShaper n).uq k =
        (h.modUq n fun u => { u with tokens := accrue (h.shpRate n) (h.shpBurst n) u.tokens }).uq k := by
      rw [Hub.uq, Hub.accrueShaper_sched on, Hub.uq]
    refine ⟨?own, fun k other => ?others⟩
    case own => rw [queue, Hub.modUq_uq]
    case others => rw [queue, h.modUq_uq_ne _ other.symm]

end Sys2Proof.Machine

namespace Sys2Proof.Machine

/-! Strict priority: the search of R214 goes from UQ_0 up. -/

/-- UQ_0 to UQ_3 are searched in the order of their numbers. -/
theorem strictQueues_val : ∀ i : Fin 4, (([0, 1, 2, 3] : List QueueIx)[i]).val = i.val := by
  decide

/-- The search finds the lowest of UQ_0 to UQ_3 that satisfies a predicate. -/
theorem find_lowest_strict {q : QueueIx → Bool} {n : QueueIx} (strict : n.val < 4) (ok : q n = true)
    (lowest : ∀ k : QueueIx, k.val < n.val → q k = false) : ([0, 1, 2, 3] : List QueueIx).find? q = some n := by
  refine List.find?_eq_some_iff_getElem.mpr ⟨ok, n.val, strict, Fin.ext (strictQueues_val ⟨n.val, strict⟩), fun j below => ?_⟩
  have at_j := strictQueues_val ⟨j, below.trans strict⟩
  simpa using lowest _ (at_j.trans_lt below)

/-- Settles O29: the search of UQ_0 to UQ_3 ends at the lowest eligible one, before the weighted part begins. -/
theorem strictPriority : Obligations.StrictPriority := by
  intro h n strict offers lowest
  rw [Hub.select, find_lowest_strict strict offers lowest]

end Sys2Proof.Machine

namespace Sys2Proof.Machine

/-! A pending switch of a gate list at its time, before its time, and cancelled. -/

/-! #### The switch -/

/-- A direction of the gate lists whose admin list has taken over, with its length and cycle (R241). -/
def Gate.taken (g : Gate) (len cyc : Nat) : Gate :=
  { g with oper := g.admin, operLen := len, operCyc := cyc, valid := true, origin := g.switchT, pending := false }

section
variable (h : Hub) (d : DirIx)

/-- The switch is its own direction's. -/
theorem Hub.gateTake_gate : (h.gateTake d).gate d = (h.gate d).taken (h.adminLen d) (h.adminCycle d) :=
  h.modGate_gate d fun g => g.taken (h.adminLen d) (h.adminCycle d)

theorem Hub.gateTake_gate_ne {e : DirIx} (other : e ≠ d) : (h.gateTake d).gate e = h.gate e :=
  h.modGate_gate_ne (fun g => g.taken (h.adminLen d) (h.adminCycle d)) other.symm

/-- SWITCHED is set (R241). -/
theorem Hub.gateTake_switched : ((h.gateTake d).evtWord (0x48030 + 0x40 * d.val)).getLsbD 1 = true := by
  have word : (h.gateTake d).evtWord (0x48030 + 0x40 * d.val) = h.evtWord (0x48030 + 0x40 * d.val) ||| BitVec.twoPow 32 1 :=
    (h.evtWord_evt (0x48030 + 0x40 * d.val) 1 (0x48030 + 0x40 * d.val)).trans (if_pos rfl)
  rw [word, BitVec.getLsbD_or, BitVec.getLsbD_twoPow]
  simp

/-- The switch is journaled, once (R241). -/
theorem Hub.gateTake_raised : ∃ r : Rec, r.code = 0x5110 ∧ (h.gateTake d).nvm.raised.Perm (r :: h.nvm.raised) := by
  obtain ⟨r, code, -, -, raised⟩ := Hub.raise_raised
    (((h.modGate d fun g => g.taken (h.adminLen d) (h.adminCycle d)).gateEvt d 1).bump (cntMap (9 + 4 * d.val))) srcGate 0x5110 1
    ([d.val, h.adminLen d, h.adminCycle d, if (h.gate d).adjusted then 1 else 0] ++ le32 (h.gate d).adjK)
  exact ⟨r, code, raised⟩

/-- The switch touches no packet, no domain, no access and no outlet. -/
theorem Hub.gateTake_frame : (h.gateTake d).sched = h.sched ∧ (h.gateTake d).doms = h.doms ∧ (h.gateTake d).seq = h.seq ∧
    (h.gateTake d).outlets = h.outlets :=
  ⟨rfl, rfl, rfl, rfl⟩

end

section
variable {h : Hub} {d : DirIx}

/-- At its time or after it a pending switch takes place (R241). -/
theorem Hub.gateSettle_due (pending : (h.gate d).pending = true) (due : (h.gate d).switchT.toNat ≤ h.tb.toNat) :
    h.gateSettle d = h.gateTake d := by
  simp [Hub.gateSettle, pending, due]

/-- Without a switch that is due nothing changes. -/
theorem Hub.gateSettle_waits (waits : (h.gate d).pending = false ∨ h.tb.toNat < (h.gate d).switchT.toNat) : h.gateSettle d = h := by
  refine if_neg fun takes => ?_
  obtain ⟨pending, due⟩ := Bool.and_eq_true_iff.mp takes
  rcases waits with none | early
  · exact Bool.false_ne_true (none.symm.trans pending)
  · exact early.not_ge (of_decide_eq_true due)

/-! #### CANCEL -/

/-- The end of a parity fault keeps what neither the faults nor the response of the fault's own block hold (R314). -/
theorem Hub.parWritten_keeps {α : Type} (part : Hub → α) {off : Nat} (ofNvm : ∀ g f, part (Hub.modNvm g f) = part g)
    (ofBlock : ∀ g, part (Hub.safeEnd g (blockOf off)) = part g) : part (h.parWritten off false) = part h := by
  refine List.foldlRecOn (motive := fun g : Hub => part g = part h) _ _ (ofNvm _ _) fun g kept b blocks => ?_
  obtain ⟨f, ended, isBlock⟩ := List.any_eq_true.mp (List.mem_filter.mp blocks).2
  have at_off : f.off = off := by simpa using (List.mem_filter.mp ended).2
  rw [← eq_of_beq isBlock, at_off, ofBlock, kept]

/-- The gate lists' block leaves its safe response without an effect on the lists (R313, R314). -/
theorem Hub.safeEnd_gate_gates (h : Hub) : (h.safeEnd 29).gates = h.gates := by
  unfold Hub.safeEnd
  split
  · rfl
  · split <;> rfl

/-- The command registers of the gate lists lie in the gate lists' block (R422). -/
theorem blockOf_gateCmd : ∀ d : DirIx, blockOf (0x48010 + 0x40 * d.val) = 29 := by
  decide

/-- The write of a command bit in the gate lists' block changes no list before the command acts (R408). -/
theorem Hub.written_gate {off : Nat} (ofGates : blockOf off = 29) (h : Hub) (d : DirIx) : (h.written off).gate d = h.gate d := by
  have parity (g : Hub) : (g.parWritten off false).gates = g.gates :=
    Hub.parWritten_keeps Hub.gates (fun _ _ => rfl) fun k => by rw [ofGates, k.safeEnd_gate_gates]
  have unspoilt (g : Hub) (w : Word) : (g.unspoil off w).gates = g.gates := by
    unfold Hub.unspoil
    split <;> rfl
  have command (g : Hub) : (g.cmdWritten off).gates = g.gates := by
    unfold Hub.cmdWritten
    split
    · rfl
    · split
      · rw [parity, unspoilt]
      · exact unspoilt _ _
  rw [Hub.gate, Hub.written, command]
  exact h.laneReached_gate off d

/-- CANCEL ends a pending switch, and CANCELLED is set (R241). -/
theorem Hub.gateCancel_pending (pending : (h.gate d).pending = true) :
    h.gateCancel d = (h.modGate d fun g => { g with pending := false }).gateEvt d 2 :=
  if_pos pending

/-- With no switch pending CANCEL has no effect (R241). -/
theorem Hub.gateCancel_none (none : (h.gate d).pending = false) : h.gateCancel d = h := by
  simp [Hub.gateCancel, none]

end

/-- Settles O31: a switch that is due is `gateTake`, and CANCEL finds the lists as they stood before its register was written. -/
theorem gateSwitchTakesList : Obligations.GateSwitchTakesList := by
  refine ⟨fun h d => ⟨fun pending due => ?switched, Hub.gateSettle_waits⟩, fun s m d takes => ?cancel⟩
  case switched =>
    rw [Hub.gateSettle_due pending due, h.gateTake_gate d]
    exact ⟨rfl, rfl, rfl, rfl, rfl, rfl, h.gateTake_switched d, h.gateTake_raised d, fun e => h.gateTake_gate_ne d,
      (h.gateTake_frame d).1⟩
  case cancel =>
    have stands : ((s.hub.quiet.written (0x48010 + 0x40 * d.val)).gate d).pending = (s.hub.gate d).pending :=
      congrArg Gate.pending (Hub.written_gate (blockOf_gateCmd d) s.hub.quiet d)
    exact ⟨fun pending => masterCommand_acts takes (Hub.gateCancel_pending (stands.trans pending)),
      fun none => masterCommand_acts takes (Hub.gateCancel_none (stands.trans none))⟩

end Sys2Proof.Machine

namespace Sys2Proof.Machine

/-! A tick with no command waiting: the clocks move, and what hardware does of itself at a tick finds nothing to do. -/

/-! #### The clocks -/

/-- A pending switch changes no domain, no access that is held and no outlet. -/
theorem Hub.gateSettle_frame (h : Hub) (d : DirIx) :
    (h.gateSettle d).doms = h.doms ∧ (h.gateSettle d).seq = h.seq ∧ (h.gateSettle d).outlets = h.outlets := by
  unfold Hub.gateSettle
  split
  · exact (h.gateTake_frame d).2
  · exact ⟨rfl, rfl, rfl⟩

/-- Nor does a tick of the timebase. -/
theorem Hub.tbTick_frame (h : Hub) :
    h.tbTick.doms = h.doms ∧ h.tbTick.seq = h.seq ∧ h.tbTick.outlets = h.outlets := by
  unfold Hub.tbTick
  split
  · simp only [Hub.gatesSettle, Hub.gateSettle_frame]
    exact ⟨rfl, rfl, rfl⟩
  · exact ⟨rfl, rfl, rfl⟩

theorem Hub.tbTick_entryBusy (h : Hub) : h.tbTick.entryBusy = h.entryBusy := by
  simp only [Hub.entryBusy, Hub.tbTick_frame]

theorem Hub.tbTick_outlet (h : Hub) (o : OutIx) : h.tbTick.outlet o = h.outlet o := by
  simp only [Hub.outlet, Hub.tbTick_frame]

section
variable {h : Hub}

/-- PE's clock off, the timebase stands (R233). -/
theorem Hub.tbTick_stopped (stopped : h.tbRuns = false) : h.tbTick = h := by
  simp [Hub.tbTick, stopped]

/-- With no switch pending, both directions stand. -/
theorem Hub.gatesSettle_none (none : ∀ d, (h.gate d).pending = false) : h.gatesSettle = h := by
  rw [Hub.gatesSettle, Hub.gateSettle_waits (.inl (none 0)), Hub.gateSettle_waits (.inl (none 1))]

/-- At trim 0 and with no fraction carried the timebase advances by one (R233). -/
theorem Hub.tbTick_untrimmed (runs : h.tbRuns = true) (trim : h.timing.trim = 0) (frac : h.timing.frac = 0)
    (none : ∀ d, (h.gate d).pending = false) :
    h.tbTick = { h with tb := h.tb + 1 }.modTiming fun t => { t with frac := 0 } := by
  simp only [Hub.tbTick, if_pos runs, trim, frac]
  exact Hub.gatesSettle_none none

/-! #### What hardware does of itself -/

/-- An outlet that missed nothing has nothing to look at again (R134). -/
theorem Hub.outletCatch_none {o : OutIx} (calm : (h.outlet o).missed = false) : h.outletCatch o = h := by
  simp [Hub.outletCatch, calm]

/-- With no access held none is carried out (R334). -/
theorem Hub.accRelease_none (none : h.seq.heldAcc = []) : h.accRelease = h := by
  simp [Hub.accRelease, none]

/-- With no entry under way, no access held and no outlet to look at again, hardware does nothing of itself. -/
theorem Hub.settle_calm (noEntry : h.entryBusy = false) (noAccess : h.seq.heldAcc = [])
    (calm : ∀ o, (h.outlet o).missed = false) : h.settle = h := by
  have outlets : (List.finRange 4).foldl (fun h o => h.outletCatch o) h = h :=
    List.foldlRecOn (motive := fun g : Hub => g = h) _ _ rfl fun g same o _ => by rw [same, Hub.outletCatch_none (calm o)]
  simp [Hub.settle, noEntry, outlets, Hub.accRelease_none noAccess]

end

/-! #### The tick -/

/-- A device held in reset has no PE clock, so that a tick is the timebase's and the block's clock's either way (R233). -/
theorem State.tick_eq (s : State) : s.tick = s.put { s.hub.quiet.tbTick with clk := s.hub.clk + 1 } := by
  unfold State.tick
  split
  · rfl
  · next held => rw [Hub.tbTick_stopped (by simp [Hub.tbRuns, Hub.quiet, held])]

/-- With nothing to do of itself hardware leaves the tick as it is. -/
theorem State.idle_calm {s : State} (noEntry : s.hub.entryBusy = false) (noAccess : s.hub.seq.heldAcc = [])
    (calm : ∀ o, (s.hub.outlet o).missed = false) : s.idle = s.tick := by
  have settled : s.tick.hub.settle = s.tick.hub := by
    rw [State.tick_eq]
    refine Hub.settle_calm ?noEntry ?noAccess fun o => ?calm
    case noEntry => exact s.hub.quiet.tbTick_entryBusy.trans noEntry
    case noAccess =>
      obtain ⟨-, seq, -⟩ := s.hub.quiet.tbTick_frame
      exact (congrArg Seq.heldAcc seq).trans noAccess
    case calm => exact (congrArg Outlet.missed (s.hub.quiet.tbTick_outlet o)).trans (calm o)
  unfold State.idle
  rw [settled]
  split <;> rfl

/-- A tick lets no command come and no reset begin or end. -/
theorem State.idle_frame (s : State) : s.idle.pending = s.pending ∧ s.idle.hub.held = s.hub.held := by
  unfold State.idle
  split <;> exact ⟨rfl, rfl⟩

/-- Settles O32: with nothing to do of itself hardware leaves the clocks' tick as it is. -/
theorem idleTick : Obligations.IdleTick := by
  intro s noCommand
  obtain ⟨pending, held⟩ := s.idle_frame
  refine ⟨s.idle, step_nil noCommand, pending.trans noCommand, held, fun noEntry noAccess calm => ?_⟩
  rw [State.idle_calm noEntry noAccess calm, State.tick_eq]
  refine ⟨rfl, fun runs trim frac none => ?runs, fun stopped => ?stopped⟩
  case runs =>
    rw [Hub.tbTick_untrimmed (h := s.hub.quiet) runs trim frac none]
    exact ⟨rfl, rfl, rfl, rfl, rfl⟩
  case stopped =>
    rw [Hub.tbTick_stopped (h := s.hub.quiet) stopped]
    rfl

end Sys2Proof.Machine

namespace Sys2Proof.Machine

/-! The manager's targets. Each pass of R265 hands out part of what is left, so every pass keeps the workers, their maxima and the
sum of what was given and what is left. -/

/-- What a pass of R265 keeps from one allocation, with what is left, to the next. -/
structure Hub.Shares (h : Hub) (before after : List Share × Nat) : Prop where
  workers : after.1.map Share.w = before.1.map Share.w
  spent : sumBy Share.t after.1 + after.2 = sumBy Share.t before.1 + before.2
  capped : (∀ x ∈ before.1, x.t ≤ h.wMax x.w) → ∀ x ∈ after.1, x.t ≤ h.wMax x.w

section
variable {h : Hub}

theorem Hub.Shares.refl (s : List Share × Nat) : h.Shares s s := ⟨rfl, rfl, id⟩

theorem Hub.Shares.trans {a b c : List Share × Nat} (ab : h.Shares a b) (bc : h.Shares b c) : h.Shares a c :=
  ⟨bc.workers.trans ab.workers, bc.spent.trans ab.spent, fun capped => bc.capped (ab.capped capped)⟩

/-- The first worker gets `add` of what is left, the others share the rest. -/
theorem Hub.Shares.cons {x y : Share} {xs : List Share} {av add : Nat} {r : List Share × Nat} (rest : h.Shares (xs, av - add) r)
    (same : y.w = x.w) (given : y.t = x.t + add) (there : add ≤ av) (capped : x.t ≤ h.wMax x.w → y.t ≤ h.wMax x.w) :
    h.Shares (x :: xs, av) (y :: r.1, r.2) := by
  obtain ⟨workers, spent, cappedRest⟩ := rest
  refine ⟨by simp [same, workers], ?_, fun all => ?_⟩
  · simp only [sumBy_cons, given] at spent ⊢
    omega
  · obtain ⟨first, others⟩ := List.forall_mem_cons.mp all
    exact List.forall_mem_cons.mpr ⟨same ▸ capped first, cappedRest others⟩

theorem Hub.shareClass_shares (c : Fin 8) (xs : List Share) (av : Nat) : h.Shares (xs, av) (h.shareClass c xs av) := by
  induction xs generalizing av with
  | nil => exact .refl _
  | cons x xs ih =>
    let room := min (x.cum + (h.worker x.w).demand[c] - x.t) (h.wMax x.w - x.t)
    have inRoom : min room av ≤ h.wMax x.w - x.t := le_trans (min_le_left _ _) (min_le_right _ _)
    exact .cons (add := min room av) (ih _) rfl rfl (min_le_right _ _) fun below => by
      show x.t + min room av ≤ h.wMax x.w
      omega

theorem Hub.shareRound_shares (xs : List Share) (av : Nat) : h.Shares (xs, av) (h.shareRound xs av) := by
  induction xs generalizing av with
  | nil => exact .refl _
  | cons x xs ih =>
    unfold Hub.shareRound
    split
    · next gets =>
      obtain ⟨below, left⟩ : x.t < h.wMax x.w ∧ 0 < av := by simpa using gets
      exact .cons (ih _) rfl rfl left fun _ => below
    · exact .cons (add := 0) (ih _) rfl rfl (Nat.zero_le _) id

/-- The rounds hand out no more than what is left. -/
theorem Hub.shareRest_shares (fuel : Nat) (xs : List Share) (av : Nat) :
    ∃ left, h.Shares (xs, av) (h.shareRest fuel xs av, left) := by
  induction fuel generalizing xs av with
  | zero => exact ⟨av, .refl _⟩
  | succ fuel ih =>
    unfold Hub.shareRest
    split
    · exact ⟨av, .refl _⟩
    · obtain ⟨left, more⟩ := ih (h.shareRound xs av).1 (h.shareRound xs av).2
      exact ⟨left, (h.shareRound_shares xs av).trans more⟩

theorem Hub.shareClasses_shares (cs : List (Fin 8)) (s : List Share × Nat) :
    h.Shares s (cs.foldl (fun s c => h.shareClass c s.1 s.2) s) := by
  induction cs generalizing s with
  | nil => exact .refl s
  | cons c cs ih => exact (h.shareClass_shares c s.1 s.2).trans (ih _)

theorem Hub.shareMins_workers (ws : List HubId) (av : Nat) : (h.shareMins ws av).1.map Share.w = ws := by
  induction ws generalizing av with
  | nil => rfl
  | cons w ws ih => exact congrArg (w :: ·) (ih _)

theorem Hub.shareMins_capped (ws : List HubId) (av : Nat) : ∀ x ∈ (h.shareMins ws av).1, x.t ≤ h.wMax x.w := by
  induction ws generalizing av with
  | nil => exact List.forall_mem_nil _
  | cons w ws ih =>
    exact List.forall_mem_cons.mpr ⟨le_trans (min_le_left _ _) (min_le_right (h.wMin w) (h.wMax w)), ih _⟩

end

/-- What is left after the classes goes out in rounds. -/
theorem Hub.sharePasses_shares (h : Hub) (cs : List (Fin 8)) (s : List Share × Nat) :
    let s1 := cs.foldl (fun s c => h.shareClass c s.1 s.2) s
    ∃ left, h.Shares s (h.shareRest (s1.2 + 1) s1.1 s1.2, left) := by
  intro s1
  obtain ⟨left, rest⟩ := h.shareRest_shares (s1.2 + 1) s1.1 s1.2
  exact ⟨left, (h.shareClasses_shares cs s).trans rest⟩

/-- Settles O33: the minimums are within the bounds, and every further pass keeps within them. -/
theorem cascadeTargets : Obligations.CascadeTargets := by
  intro h
  unfold Hub.csbTargets
  dsimp only
  -- What the passes keep does not depend on how many classes there are.
  generalize List.finRange 8 = cs
  obtain ⟨left, workers, spent, capped⟩ := h.sharePasses_shares cs (h.shareMins h.csbGranted
    (h.sysBudget - sumBy (fun v => if h.csbGranted.contains v then 0 else (h.worker v).held) workerIds))
  rw [h.shareMins_sum] at spent
  exact ⟨workers.trans (h.shareMins_workers _ _), capped (h.shareMins_capped _ _), Nat.le.intro spent⟩

end Sys2Proof.Machine

namespace Sys2Proof.Machine

/-! The frames that come down to a worker. -/

/-! #### How a frame ends -/

section
variable {s : State} {p : PodIx} {hd : CsbHdr} {b : CsbBody} {f : Hub → Hub} {k : Hub} {r : Bool}

/-- A frame ends in the block its meaning makes of the hub that has seen its header, once the turn is answered; `r`: its type is
reliable. -/
theorem frameAt_acts (hs : s.frameAt p) (order : r = true → (s.hub.clink p).inOrder hd.seq = true)
    (made : f (s.hub.quiet.csbSeen p hd r) = k) (kind : b.reliable = r := by rfl) :
    (onCsb s fun h => h.csbRx p hd b f) = .next (s.put (k.csbTurn p hd)) := by
  subst kind
  rw [frameAt_run hs order, made]

/-- A frame without the turn hands none on. -/
theorem frame_acts (hs : s.frameAt p) (noTurn : hd.turn = false) (order : r = true → (s.hub.clink p).inOrder hd.seq = true)
    (made : f (s.hub.quiet.csbSeen p hd r) = k) (kind : b.reliable = r := by rfl) :
    (onCsb s fun h => h.csbRx p hd b f) = .next (s.put k) := by
  rw [frameAt_acts hs order made kind, Hub.csbTurn_none _ _ noTurn]

/-- A frame that travels down acts in the worker it names. -/
theorem toWorker_acts (hs : s.toWorker p hd) (order : r = true → (s.hub.clink p).inOrder hd.seq = true)
    (made : f (s.hub.quiet.csbSeen p hd r) = k) (kind : b.reliable = r := by rfl) :
    (onCsb s fun h => h.csbRx p hd b fun h => h.csbDownward p hd b f) = .next (s.put k) := by
  obtain ⟨arrives, noTurn, -⟩ := id hs
  exact frame_acts arrives noTurn order ((toWorker_run hs f r).trans made) kind

end

/-! #### What each frame does -/

section
variable {h : Hub} {p : PodIx}

/-- Of the worker's loading a frame's header changes at most that the report of the running version was told. -/
theorem Hub.csbSeen_load (h : Hub) (p : PodIx) (hd : CsbHdr) (reliable : Bool) :
    let k := h.csbSeen p hd reliable
    k.csb.load.offer = h.csb.load.offer ∧ k.csb.load.verifying = h.csb.load.verifying ∧
    k.csb.load.activating = h.csb.load.activating ∧ k.csb.load.got = h.csb.load.got := by
  obtain ⟨-, -, -, -, -, -, -, load, -⟩ := h.csbSeen_frame p hd reliable
  intro k
  rw [show k.csb.load = _ from load]
  exact ⟨rfl, rfl, rfl, rfl⟩

@[simp] theorem Hub.drawn_clink : h.drawn.clink p = h.clink p := rfl

@[simp] theorem Hub.bump_clink (slot : Nat) : (h.bump slot).clink p = h.clink p := rfl

/-- The turn is answered with a frame of the child's own (R257). -/
theorem Hub.csbTurn_answers {hd : CsbHdr} (turn : hd.turn = true) (child : (h.clink p).isParent = false)
    (up : (h.clink p).up = true) : h.csbTurn p hd = h.csbSend p false := by
  simp [Hub.csbTurn, turn, child, up]

/-- SYNC over the primary link: both times are noted, and DELAY_REQ waits for the next turn (R263). -/
theorem Hub.csbSync_primary {t1 : Nat} (child : (h.clink p).isParent = false) (primary : (h.clink p).state = 1) :
    h.csbSync p t1 = (((h.modClink p fun l => { l with t1 := t1, t2 := h.tbNs }).drawn).bump (cntCsb 0)).csbQueue p
      { dst := 0x7E, src := h.csbSrc, body := .delayReq } := by
  simp only [Hub.csbSync, child, Hub.bump_clink, Hub.drawn_clink, Hub.modClink_clink, primary]
  rfl

/-- DELAY_RESP over the standby link gives the delay and leaves the timebase (R261, R263). -/
theorem Hub.csbDelayResp_standby {t4 : Nat} (child : (h.clink p).isParent = false) (standby : (h.clink p).state = 2) :
    h.csbDelayResp p t4 = h.modClink p fun l =>
      { l with delay := (clampInt 0 65535 ((((l.t2 : Int) - l.t1) + ((t4 : Int) - l.t3)) / 2)).toNat } := by
  simp only [Hub.csbDelayResp, child, standby]
  refine Eq.trans (if_neg Bool.false_ne_true) ((if_neg (by decide)).trans ?_)
  exact h.modClink_congr rfl

/-- A block that the worker has already is counted only (R269). -/
theorem Hub.csbFwBlock_again {o : FwOffer} {block : Nat} {data : List Byte} (offered : h.csb.load.offer = some o)
    (loading : h.csb.load.verifying = false) (inactive : h.csb.load.activating = false) (within : block < offerBlocks o)
    (got : h.csb.load.got.contains block = true) : h.csbFwBlock o.tag block data = h.bump (cntCsb 7) := by
  have got' : (h.bump (cntCsb 7)).csb.load.got.contains block = true := got
  simp only [Hub.csbFwBlock, offered, loading, inactive, Nat.not_le.mpr within, got']
  simp

/-- An ASSIGN for this hub, from above (R260). -/
theorem Hub.csbAssign_own {a : Assign} (child : (h.clink p).isParent = false) (own : a.uid = Config.dieUid) :
    h.csbAssign p a = h.assignedOver p a := by
  simp [Hub.csbAssign, child, own]

theorem podUp_of_not_isD (up : isD p = false) : ∃ u, podUp p = some u :=
  ⟨_, dif_pos (by simpa [isD] using up)⟩

/-- Only a primary assignment that succeeds makes a link the primary one (R271). -/
theorem Hub.assignedOver_keeps {a : Assign} (up : isD p = false) (keeps : (a.result = 0 && !a.standby) = false) :
    h.assignedOver p a = h.assigned a := by
  obtain ⟨u, pod⟩ := podUp_of_not_isD up
  simp only [Hub.assignedOver, pod, keeps]
  rfl

/-- A primary HELLO of this hub is refused (R260). -/
theorem Hub.csbAssign_refused {a : Assign} (child : (h.clink p).isParent = false) (up : isD p = false)
    (own : a.uid = Config.dieUid) (primary : a.standby = false) (refused : a.result ≠ 0) :
    h.csbAssign p a =
      ((h.modCsb fun c => { c with joined := false }).csbEvt 1).raise srcCsb 0x9003 2 [a.result, 0] := by
  rw [Hub.csbAssign_own child own, Hub.assignedOver_keeps up (by simp [refused])]
  simp [Hub.assigned, primary, refused]

/-- A standby HELLO of this hub is accepted (R261). -/
theorem Hub.csbAssign_standby {a : Assign} (child : (h.clink p).isParent = false) (up : isD p = false)
    (own : a.uid = Config.dieUid) (standby : a.standby = true) (ok : a.result = 0) :
    h.csbAssign p a = h.modCsb fun c => { c with stby := 2, stbyLevel := a.level } := by
  rw [Hub.csbAssign_own child own, Hub.assignedOver_keeps up (by simp [standby])]
  simp [Hub.assigned, standby, ok]

/-- GRANT of the same value, while the manager is not lost (R267). -/
theorem Hub.csbGrant_same {w : Nat} (managed : h.csb.mgrLost = false) (same : h.bud.grant = w) :
    h.csbGrant w = (((((h.modBud fun b => { b with grant := w, grantValid := true, holding := false, floored := false }).modCsb
      fun c => { c with ackDue := true }).budNewB).budOverdraft).grantAckCheck) := by
  simp [Hub.csbGrant, managed, same]

/-- JOURNAL_ACK of the frame that waits for it moves the collection on (R268). -/
theorem Hub.csbJournalAck_only {n : Nat} {r : Rec} (sent : h.csb.jcolSent = [(n, r)]) :
    h.csbJournalAck n = h.modCsb fun c => { c with jcolSent := [], jcolPos := n + 1 } := by
  simp [Hub.csbJournalAck, sent, lastOf]

/-- JOURNAL_ACK while no frame waits for one (R268). -/
theorem Hub.csbJournalAck_none {last : Nat} (none : h.csb.jcolSent = []) : h.csbJournalAck last = h := by
  simp [Hub.csbJournalAck, none]

/-- FW_OFFER of an image that is new to the worker clears its idle bank (R269). -/
theorem Hub.csbFwOffer_new {o : FwOffer} (other : o.version ≠ h.sec.runVersion) (none : h.csb.load.offer = none) :
    h.csbFwOffer o = (h.fwClear o).fwReport o := by
  simp [Hub.csbFwOffer, other, none]

/-- FW_ACTIVATE of a verified bank stores its name (R269, R321). -/
theorem Hub.csbFwActivate_verified {idle : Bank} (bank : h.nvm.idle = idle) (verified : (h.nvm.bank idle).state = .verified) :
    h.csbFwActivate = (h.modCsb fun c => { c with load := { c.load with activating := true } }).pageStore
      (.config (.activeBank idle 2)) := by
  subst bank
  exact if_pos verified

end

/-- Settles O34: each frame where its conditions hold, then each as the operation it names. A SYNC is counted at both ends
(log 57). -/
theorem workerFrames : Obligations.WorkerFrames := by
  refine ⟨fun s p hd hs => ?named, fun s p hd hs => ⟨?nulls, ?polls, ?syncs, ?delayResps, ?fwBlocks, fun order =>
    ⟨?assigns, ?grants, ?journalAcks, ?fwOffers, ?fwActivates, ?mbxs⟩⟩⟩
  case named =>
    obtain ⟨arrives, noTurn, child, -⟩ := id hs
    have childOf (r : Bool) : ((s.hub.quiet.csbSeen p hd r).clink p).isParent = false := by simp [Hub.csbSeen_frame, child]
    have stateOf (r : Bool) : ((s.hub.quiet.csbSeen p hd r).clink p).state = (s.hub.clink p).state := by
      simp [Hub.csbSeen_frame]
    refine ⟨?null, ?poll, ?sync, ?delayResp, ?fwBlock, fun order => ⟨?refused, ?standby, ?grant, ?mbx, ?ackNone, ?ackOne,
      ?offerOld, ?offerNew, ?activate⟩⟩
    case null => exact frame_acts (r := false) arrives noTurn nofun rfl
    case poll =>
      have up : ((s.hub.quiet.csbSeen p hd false).clink p).up = true := by simpa [CsbLink.up, stateOf] using arrives.2
      exact (frameAt_acts (r := false) (hd := { hd with turn := true }) arrives nofun rfl).trans
        (congrArg (fun h => Host.Outcome.next (s.put h)) (Hub.csbTurn_answers rfl (childOf false) up))
    case sync =>
      exact fun t1 primary =>
        frame_acts (r := false) arrives noTurn nofun (Hub.csbSync_primary (childOf _) ((stateOf _).trans primary))
    case delayResp =>
      exact fun t4 standby =>
        frame_acts (r := false) arrives noTurn nofun (Hub.csbDelayResp_standby (childOf _) ((stateOf _).trans standby))
    case fwBlock =>
      intro o b data offered loading inactive within got
      obtain ⟨offer, verifying, activating, blocks⟩ := s.hub.quiet.csbSeen_load p hd false
      exact toWorker_acts (r := false) hs nofun (Hub.csbFwBlock_again (offer.trans offered) (verifying.trans loading)
        (activating.trans inactive) within ((congrArg (·.contains b) blocks).trans got))
    case refused =>
      exact fun a up own primary refused =>
        frame_acts (r := true) arrives noTurn (fun _ => order) (Hub.csbAssign_refused (childOf _) up own primary refused)
    case standby =>
      exact fun a up own standby ok =>
        frame_acts (r := true) arrives noTurn (fun _ => order) (Hub.csbAssign_standby (childOf _) up own standby ok)
    case grant =>
      exact fun w managed same => toWorker_acts (r := true) hs (fun _ => order)
        (Hub.csbGrant_same (by simp [Hub.csbSeen_frame, managed]) (by simp [Hub.csbSeen_frame, same]))
    case mbx =>
      exact fun bytes manager => frame_acts (r := true) arrives noTurn (fun _ => order)
        ((if_neg (by simp [childOf])).trans ((toWorker_run hs _ true).trans (if_pos manager)))
    case ackNone =>
      exact fun last none => toWorker_acts (r := true) hs (fun _ => order)
        (Hub.csbJournalAck_none (by simp [Hub.csbSeen_frame, none]))
    case ackOne =>
      rintro last n r sent rfl
      exact toWorker_acts (r := true) hs (fun _ => order)
        (Hub.csbJournalAck_only (r := r) (by simp [Hub.csbSeen_frame, sent]))
    case offerOld =>
      exact fun o runs => toWorker_acts (r := true) hs (fun _ => order) (if_pos (by simp [Hub.csbSeen_frame, runs]))
    case offerNew =>
      exact fun o other none => toWorker_acts (r := true) hs (fun _ => order)
        (Hub.csbFwOffer_new (by simpa [Hub.csbSeen_frame] using other) ((s.hub.quiet.csbSeen_load p hd true).1.trans none))
    case activate =>
      exact fun verified => toWorker_acts (r := true) hs (fun _ => order)
        (Hub.csbFwActivate_verified (by simp [Hub.csbSeen_frame]) (by simpa [Hub.csbSeen_frame] using verified))
  case nulls => exact frameAt_acts (r := false) hs nofun rfl
  case polls => exact frameAt_acts (r := false) hs nofun rfl
  case syncs => exact fun _ => frameAt_acts (r := false) hs nofun rfl
  case delayResps => exact fun _ => frameAt_acts (r := false) hs nofun rfl
  case fwBlocks => exact fun _ _ _ => frameAt_acts (r := false) hs nofun rfl
  case assigns => exact fun _ => frameAt_acts (r := true) hs (fun _ => order) rfl
  case grants => exact fun _ => frameAt_acts (r := true) hs (fun _ => order) rfl
  case journalAcks => exact fun _ => frameAt_acts (r := true) hs (fun _ => order) rfl
  case fwOffers => exact fun _ => frameAt_acts (r := true) hs (fun _ => order) rfl
  case fwActivates => exact frameAt_acts (r := true) hs (fun _ => order) rfl
  case mbxs =>
    exact fun bs child => frameAt_acts (r := true) hs (fun _ => order) (if_neg (by simp [Hub.csbSeen_frame, child]))

end Sys2Proof.Machine

namespace Sys2Proof.Machine

/-! The frames that come up to the manager. -/

/-- A frame that travels up acts at the manager. -/
theorem toManager_acts {s : State} {p : PodIx} {hd : CsbHdr} {b : CsbBody} {f : Hub → Hub} {k : Hub} {r : Bool}
    (hs : s.toManager p hd) (order : r = true → (s.hub.clink p).inOrder hd.seq = true)
    (made : f (s.hub.quiet.csbSeen p hd r) = k) (kind : b.reliable = r := by rfl) :
    (onCsb s fun h => h.csbRx p hd b fun h => h.csbUpward p hd b f) = .next (s.put k) := by
  obtain ⟨arrives, noTurn, -⟩ := id hs
  exact frame_acts arrives noTurn order ((toManager_run hs f r).trans made) kind

section
variable {h : Hub} {p : PodIx} {hd : CsbHdr} {b : CsbBody} {f : Hub → Hub}

/-- The manager takes what comes up to it (R262). -/
theorem Hub.csbUpward_manager (parent : (h.clink p).isParent = true) (manager : h.csb.role = 2) (dst : hd.dst = 0) :
    h.csbUpward p hd b f = f h := by
  simp [Hub.csbUpward, parent, manager, dst]

/-- A bad frame on a link that is up is counted, and ends a child's turn (R255, R257). -/
theorem Hub.csbBad_up (up : (h.clink p).up = true) : h.csbBad p = ((h.csbEvt 9).bump (cntCsbLink p 2)).csbTurnOver p :=
  if_pos up

/-- DELAY_REQ at the parent end: its delay is noted, and DELAY_RESP follows (R263). -/
theorem Hub.csbDelayReq_parent (parent : (h.clink p).isParent = true) :
    h.csbDelayReq p = ((h.modClink p fun l => { l with delay := Config.peerDelay h.freeCtr % 65536 }).drawn).csbQueue p
      { dst := 0x7E, src := h.csbSrc, body := .delayResp h.tbNs } :=
  if_pos parent

theorem Hub.modClink_same : (h.modClink p fun l => l) = h := by
  simp [Hub.modClink, Hub.modCsb]

/-- A primary HELLO that a relay brings: the way of its answer is noted, and the manager takes it (R260). -/
theorem Hub.csbHello_relayed {x : Hello} (parent : (h.clink p).isParent = true) (manager : h.csb.role = 2) (dst : hd.dst = 0)
    (primary : x.standby = false) (relayed : x.parent ≠ 0x7E) :
    h.csbHello p hd x = (((h.modCsb fun c =>
      { c with links := c.links.map fun l => { l with uids := l.uids.filter fun u => u != (x.uid, false) } }).modClink p fun l =>
        { l with uids := l.uids ++ [(x.uid, false)] }).helloPrimary x) := by
  have still : (((h.modCsb fun c =>
      { c with links := c.links.map fun l => { l with uids := l.uids.filter fun u => u != (x.uid, false) } }).modClink p fun l =>
        { l with uids := l.uids ++ [(x.uid, false)] }).clink p).isParent = true := by
    rw [Hub.modClink_clink]
    simpa [Hub.clink] using parent
  simp only [Hub.csbHello, relayed, primary, decide_false, Bool.false_and, Bool.false_eq_true, if_false, Hub.modClink_same]
  exact Hub.csbUpward_manager still manager dst

/-- LINK of a lost child, from the hub that is its parent or from another one (R271). -/
theorem Hub.csbLinkNote_lost {child : Nat} (parent : (h.clink p).isParent = true) (manager : h.csb.role = 2) (dst : hd.dst = 0) :
    h.csbLinkNote p hd (.lost child) = if (h.worker (workerIx child)).parent = hd.src then h.subtreeLost child else h :=
  Hub.csbUpward_manager parent manager dst

/-- A JOURNAL frame of one record that was not yet taken: the record is stored, and its acknowledgement waits (R268). -/
theorem Hub.csbJournal_one {w first : Nat} {r : Rec}
    (new : (h.csb.jcolAcks.any fun a => a.1 == w && a.2.1 == lastOf first 1) = false) :
    let x := { r with devId := if r.devId = 0 then w else r.devId, flags := r.flags ||| 4 }
    h.csbJournal w first [r] =
      (h.modCsb fun c => { c with jcolAcks := c.jcolAcks ++ [(w, lastOf first 1, [x])] }).recordStore x := by
  exact if_neg fun taken => Bool.false_ne_true (new.symm.trans taken)

section
variable {w : HubId} (named : (h.worker w).named = true) (loading : h.csb.dist.phase = 1)
include named loading

/-- A named worker reports its image FAILED: the distribution halts (R270). -/
theorem Hub.csbFwStatus_failed : h.csbFwStatus w .failed = (h.modWorker w fun x => { x with fw := 4 }).fwHalt w 1 := by
  simp [Hub.csbFwStatus, named, loading]

/-- A named worker reports its image READY (R269). -/
theorem Hub.csbFwStatus_ready : h.csbFwStatus w .ready = (h.modWorker w fun x => { x with fw := 2 }).fwAdvance := by
  simp [Hub.csbFwStatus, named, loading]

end

/-- What a frame's header leaves of the workers (R256). -/
@[simp] theorem Hub.csbSeen_worker (r : Bool) (w : HubId) : (h.csbSeen p hd r).worker w = h.worker w := by
  simp [Hub.worker, Hub.csbSeen_frame]

end

/-- Settles O35: each frame where its conditions hold, then each as the operation it names. PEER_DELAY of a DELAY_REQ is a free
value (log 101), what is HELD follows its acknowledgement (log 57). -/
theorem managerFrames : Obligations.ManagerFrames := by
  refine ⟨fun s p hd hs => ?named, fun s p hd hs => ⟨?delayReqs, fun order =>
    ⟨?hellos, ?links, ?demands, ?grantAcks, ?journals, ?fwStatuses, ?mbxs⟩⟩⟩
  case named =>
    obtain ⟨arrives, noTurn, parent, manager, dst⟩ := id hs
    have parentOf (r : Bool) : ((s.hub.quiet.csbSeen p hd r).clink p).isParent = true := by simp [Hub.csbSeen_frame, parent]
    have managerOf (r : Bool) : (s.hub.quiet.csbSeen p hd r).csb.role = 2 := by simp [Hub.csbSeen_frame, manager]
    refine ⟨?badFrame, ?delayReq, fun order => ⟨?hello, ?lost, ?notLost, ?demand, ?grantAck, ?mbx, ?journal, ?fwStatus⟩⟩
    case badFrame =>
      exact (onCsb_run arrives.1 _).trans
        (congrArg (fun h => Host.Outcome.next (s.put h)) (Hub.csbBad_up (h := s.hub.quiet) arrives.2))
    case delayReq => exact frame_acts (r := false) arrives noTurn nofun (Hub.csbDelayReq_parent (parentOf _))
    case hello =>
      exact fun x primary relayed => frame_acts (r := true) arrives noTurn (fun _ => order)
        (Hub.csbHello_relayed (parentOf _) (managerOf _) dst primary relayed)
    case lost =>
      exact fun child isParent => frame_acts (r := true) arrives noTurn (fun _ => order)
        ((Hub.csbLinkNote_lost (parentOf _) (managerOf _) dst).trans (if_pos (by simpa using isParent)))
    case notLost =>
      exact fun child other => frame_acts (r := true) arrives noTurn (fun _ => order)
        ((Hub.csbLinkNote_lost (parentOf _) (managerOf _) dst).trans (if_neg (by simpa using other)))
    case demand =>
      exact fun d joined => toManager_acts (r := true) hs (fun _ => order) (if_pos (by simpa using joined))
    case grantAck =>
      exact fun c joined => toManager_acts (r := true) hs (fun _ => order) (if_pos (by simpa using joined))
    case mbx =>
      exact fun bytes => frame_acts (r := true) arrives noTurn (fun _ => order)
        ((if_pos (parentOf _)).trans (toManager_run hs _ true))
    case journal =>
      rintro first r x new rfl
      exact toManager_acts (r := true) hs (fun _ => order) (Hub.csbJournal_one (by simpa [Hub.csbSeen_frame] using new))
    case fwStatus =>
      intro named loading
      have phase : (s.hub.quiet.csbSeen p hd true).csb.dist.phase = 1 := by simp [Hub.csbSeen_frame, loading]
      exact ⟨toManager_acts (r := true) hs (fun _ => order) (Hub.csbFwStatus_failed (by simpa using named) phase),
        toManager_acts (r := true) hs (fun _ => order) (Hub.csbFwStatus_ready (by simpa using named) phase)⟩
  case delayReqs => exact frameAt_acts (r := false) hs nofun rfl
  case hellos => exact fun _ => frameAt_acts (r := true) hs (fun _ => order) rfl
  case links => exact fun _ => frameAt_acts (r := true) hs (fun _ => order) rfl
  case demands => exact fun _ => frameAt_acts (r := true) hs (fun _ => order) rfl
  case grantAcks => exact fun _ => frameAt_acts (r := true) hs (fun _ => order) rfl
  case journals => exact fun _ _ => frameAt_acts (r := true) hs (fun _ => order) rfl
  case fwStatuses => exact fun _ => frameAt_acts (r := true) hs (fun _ => order) rfl
  case mbxs =>
    exact fun bs parent => frameAt_acts (r := true) hs (fun _ => order) (if_pos (by simp [Hub.csbSeen_frame, parent]))

end Sys2Proof.Machine

namespace Sys2Proof.Machine

/-! The cascade's own timers. -/

/-- A command of the cascade ends in the block its operation makes (R333). -/
theorem onCsb_acts {s : State} {f : Hub → Hub} {k : Hub} (hs : s.works domCsb) (made : f s.hub.quiet = k) :
    onCsb s f = .next (s.put k) := by
  rw [onCsb_run hs, made]

section
variable {h : Hub} {p : PodIx} {w : HubId}

/-! #### Links -/

/-- The oldest unacknowledged frame is repeated (R256). -/
theorem Hub.csbUnacked_repeats {x : CsbSent} {rest : List CsbSent} (sent : (h.clink p).sent = x :: rest) (few : x.repeats < 3) :
    h.csbUnacked p = h.modClink p fun l => { l with sent := rest, again := l.again ++ [x] } := by
  simp [Hub.csbUnacked, sent, Nat.not_le.mpr few]

/-- On an upstream pod a lost link is the cascade's alone (R93, R271). -/
theorem Hub.csbLossAll_upstream (up : isD p = false) (cause : Nat) : h.csbLossAll p cause = h.csbLoss p cause := by
  simp [Hub.csbLossAll, up]

/-- After three repeats the link is lost (R256, R271). -/
theorem Hub.csbUnacked_lost {x : CsbSent} {rest : List CsbSent} (sent : (h.clink p).sent = x :: rest) (many : 3 ≤ x.repeats)
    (up : isD p = false) : h.csbUnacked p = h.csbLoss p 3 := by
  simp [Hub.csbUnacked, sent, many, Hub.csbLossAll_upstream up]

/-- Only the manager broadcasts firmware (R269). -/
theorem Hub.fwPump_worker (worker : h.csb.role ≠ 2) : h.fwPump p = h := by
  simp [Hub.fwPump, worker]

/-- A worker that has not joined says HELLO again over its primary link (R260). -/
theorem Hub.helloAgain_unjoined (worker : h.csb.role = 1) (unjoined : h.csb.joined = false) (up : h.csb.parentUp = true) :
    h.helloAgain = h.helloSend h.csb.parentPod false := by
  simp [Hub.helloAgain, worker, unjoined, up]

/-! #### Demand and journal collection -/

/-- The first DEMAND of a joined worker (R264). -/
theorem Hub.demandSend_first (joined : h.csb.joined = true) (up : h.csb.parentUp = true) (first : h.csb.demandAt = none) :
    h.demandSend = (h.modCsb fun c => { c with demandAt := some h.clk, demandDue := false }).csbUp (.demand h.demandNow) := by
  simp [Hub.demandSend, joined, up, first]

/-- The frame of the unacknowledged records carries the number of the first (R268). -/
theorem Hub.jcolFrame_sent {xs : List (Nat × Rec)} (sent : h.csb.jcolSent = xs) (some : xs ≠ []) :
    h.jcolFrame = h.csbUp (.journal ((xs.head?.map Prod.fst).getD 0) (xs.map Prod.snd)) := by
  subst sent
  unfold Hub.jcolFrame
  split
  · next none => exact absurd none some
  · next n r rest sent => simp [sent]

/-- The records that may go within the running second's rate are sent (R268). -/
theorem Hub.jcolForward_sends {xs : List (Nat × Rec)} (joined : h.csb.joined = true) (up : h.csb.parentUp = true)
    (managed : h.csb.mgrLost = false) (on : h.jcolEn = true) (acked : h.csb.jcolSent = []) (none : h.jcolOverrun = h)
    (inSecond : h.clk < h.csb.jcolSince + ticksPerSecond)
    (eligible : h.jcolEligible.take (min 8 (h.jcolRate - h.csb.jcolRate)) = xs) (some : xs ≠ []) :
    h.jcolForward = (((h.modCsb fun c => { c with jcolSent := xs, jcolRate := c.jcolRate + xs.length }).bumpBy (cntCsb 5)
      xs.length).csbUp (.journal ((xs.head?.map Prod.fst).getD 0) (xs.map Prod.snd))) := by
  have waits : xs.isEmpty = false := by simpa using some
  simp only [Hub.jcolForward, joined, up, managed, on, acked, none, Nat.not_le.mpr inSecond, eligible, waits, if_false]
  exact Hub.jcolFrame_sent rfl some

/-- The frame that was not acknowledged goes again (R268). -/
theorem Hub.jcolRepeat_one {n : Nat} {r : Rec} (joined : h.csb.joined = true) (up : h.csb.parentUp = true)
    (managed : h.csb.mgrLost = false) (sent : h.csb.jcolSent = [(n, r)]) : h.jcolRepeat = h.csbUp (.journal n [r]) := by
  simp [Hub.jcolRepeat, joined, up, managed, Hub.jcolFrame, sent]

/-! #### Loss of the manager -/

/-- A worker loses its manager while its timebase is not synchronised: there is no holdover to begin (R236, R271). -/
theorem Hub.managerLost_unsync (worker : h.csb.role = 1) (joined : h.csb.joined = true) (managed : h.csb.mgrLost = false)
    (unsync : h.timing.unsync = true) :
    h.managerLost = ((((((h.modCsb fun c => { c with mgrLost := true, lossAt := h.clk, ackDue := false }).csbEvt 5).bump
      (cntCsb 3)).raise srcCsb 0x9007 3 (le16 h.bud.grant)).modBud fun b =>
        { b with grantValid := false, holding := h.bud.grantValid }).budNewB) := by
  simp only [Hub.managerLost, worker, joined, managed]
  refine (if_pos rfl).trans (congrArg Hub.budNewB (if_neg ?_))
  simp [Hub.csbEvt, unsync]

end

/-- Settles O36: each timer where its wait is under way, then each as the operation it names. A SYNC is counted as it is queued
(log 57). -/
theorem cascadeTimers : Obligations.CascadeTimers := by
  refine ⟨fun s p w hs => ⟨?autoWait, ?again, ?lost, ?turn, ?lapse, ?hello, ?sync, ?demand, ?refresh, ?ack, ?forward, ?resend,
    ?activate, ?silence, ?manager, ?hold, ?worker, ?workerHold⟩, fun s hs => ?general⟩
  case autoWait => exact fun auto => onCsb_acts hs (if_pos auto)
  case again => exact fun x rest sent few => onCsb_acts hs (Hub.csbUnacked_repeats (h := s.hub.quiet) sent few)
  case lost => exact fun x rest sent many up => onCsb_acts hs (Hub.csbUnacked_lost (h := s.hub.quiet) sent many up)
  case turn =>
    intro parent up free worker
    refine onCsb_acts hs ((if_pos (by simp [parent, up, free])).trans ?_)
    rw [Hub.fwPump_worker (h := s.hub.quiet) worker]
  case lapse => exact onCsb_acts hs rfl
  case hello => exact fun worker unjoined up => onCsb_acts hs (Hub.helloAgain_unjoined (h := s.hub.quiet) worker unjoined up)
  case sync => exact fun parent up => onCsb_acts hs (if_pos (by simp [parent, up]))
  case demand => exact fun joined up first => onCsb_acts hs (Hub.demandSend_first (h := s.hub.quiet) joined up first)
  case refresh => exact fun manager => onCsb_acts hs (if_pos manager)
  case ack => exact fun manager waits => onCsb_acts hs (if_pos (by simp [manager, waits]))
  case forward =>
    exact fun joined up managed on acked none inSecond some =>
      onCsb_acts hs (Hub.jcolForward_sends (h := s.hub.quiet) joined up managed on acked none inSecond rfl some)
  case resend =>
    exact fun n r joined up managed sent => onCsb_acts hs (Hub.jcolRepeat_one (h := s.hub.quiet) joined up managed sent)
  case activate => exact fun phase activated ready => onCsb_acts hs (if_pos (by simp [phase, activated, ready]))
  case silence =>
    exact fun up pod => onCsb_acts hs ((if_pos up).trans (Hub.csbLossAll_upstream pod 2))
  case manager =>
    exact fun worker joined managed unsync =>
      onCsb_acts hs (Hub.managerLost_unsync (h := s.hub.quiet) worker joined managed unsync)
  case hold => exact fun lost holding => onCsb_acts hs (if_pos (by simp [lost, holding]))
  case worker => exact fun manager => onCsb_acts hs (if_pos manager)
  case workerHold => exact fun manager lost => onCsb_acts hs ((if_pos manager).trans (if_pos lost))
  case general =>
    exact ⟨fun _ => onCsb_acts hs rfl, fun _ => onCsb_acts hs rfl, fun _ => onCsb_acts hs rfl, onCsb_acts hs rfl,
      onCsb_acts hs rfl, onCsb_acts hs rfl, onCsb_acts hs rfl, onCsb_acts hs rfl, onCsb_acts hs rfl, onCsb_acts hs rfl⟩

end Sys2Proof.Machine

namespace Sys2Proof.Machine

/-! A store that finishes, where the ring has wrapped: the record it overwrites may not have been collected yet (R268). -/

/-- A worker with the registers of reset, by which its journal is collected: the Seedbank has wrapped, no record of the last round
has gone to the manager, and the store of a record that overwrites the oldest one runs. -/
def wrappedWorker : State :=
  State.reset.put ((State.reset.hub.modCsb fun c => { c with role := 1 }).modNvm fun n =>
    { n with ring := [(0, { sev := 4 })], ringFull := true, wraps := 1
             inStore := [{ store := .record { sev := 3 }, since := 0 }] })

theorem wrappedWorker_works : wrappedWorker.works domNvm := ⟨rfl, rfl⟩

/-- In the NVM domain a finished store is the next one's start (R315). -/
theorem exec_mramStoreComplete {s : State} (hs : s.works domNvm) :
    exec .mramStoreComplete s = .next (s.put s.hub.quiet.storeNext) := by
  obtain ⟨out, works⟩ := hs
  exact perform_acts out (Hub.inDom_run (h := s.hub.quiet) works Hub.storeNext)

/-- The record that is overwritten counts as lost to the collection (R268). -/
theorem wrappedWorker_lost : wrappedWorker.hub.quiet.storeNext.csb.jcolLost = 1 := by decide

/-- Refutes O40: where the ring has wrapped, a finished store overwrites a record; on a worker that has not forwarded that record
the store also counts it as lost to the collection (R268), which the clause for a record's store leaves out. -/
theorem not_journalStores : ¬ Obligations.JournalStores := by
  rintro ⟨clauses, -⟩
  obtain ⟨-, -, record, -⟩ := clauses wrappedWorker 1 { sev := 3 } [] { store := .record { sev := 3 }, since := 0 } [] 0 0
  have same := (record wrappedWorker_works rfl rfl rfl (by decide)).symm.trans (exec_mramStoreComplete wrappedWorker_works)
  have uncounted : 0 = wrappedWorker.hub.quiet.storeNext.csb.jcolLost :=
    congrArg (fun t : State => t.hub.csb.jcolLost) (Host.Outcome.next.inj same)
  exact absurd (uncounted.trans wrappedWorker_lost) (by decide)

end Sys2Proof.Machine

namespace Sys2Proof.Machine

/-! Reset, start-up and boot: what a reset keeps, what a start-up finds, and what a verified bank does. -/

/-! #### What stores and the boot ROM leave as it stands -/

/-- What a start-up gives that the boot ROM leaves alone: the domains and their sequencer, the pods' connections, the straps, the
Seedbank. -/
def Hub.started (h : Hub) : Vector Dom 24 × Seq × Vector Tc 16 × Nat × List (Nat × Rec) :=
  (h.doms, h.seq, h.tcs, h.csb.strap, h.nvm.ring)

section
variable (h : Hub)

theorem foldl_started {α : Type} {f : Hub → α → Hub} (keeps : ∀ g a, (f g a).started = g.started) (l : List α) :
    (l.foldl f h).started = h.started :=
  List.foldlRecOn (motive := fun g : Hub => g.started = h.started) l f rfl fun g kept a _ => (keeps g a).trans kept

@[simp] theorem storeDefer_started (s : Store) : (h.storeDefer s).started = h.started := rfl

@[simp] theorem recordLost_started (r : Rec) : (h.recordLost r).started = h.started := rfl

@[simp] theorem pageNoRoom_started (c : StoreClass) : (h.pageNoRoom c).started = h.started := by
  unfold Hub.pageNoRoom
  split <;> rfl

@[simp] theorem pageDefer_started (s : Store) : (h.pageDefer s).started = h.started := by
  unfold Hub.pageDefer
  split <;> simp

@[simp] theorem recordDefer_started (r : Rec) : (h.recordDefer r).started = h.started := by
  unfold Hub.recordDefer
  split
  · simp
  · split
    · simp
    · split
      · simp
      · next old q displaced =>
        exact (storeDefer_started _ _).trans (recordLost_started (h.modNvm fun n => { n with deferQ := q }) old)

theorem lineDefer_started (d : Deferred) : (h.lineDefer d).started = h.started := by
  unfold Hub.lineDefer
  split
  · rfl
  · split <;> simp

theorem gapRecord_started : h.gapRecord.started = h.started := by
  unfold Hub.gapRecord
  dsimp only
  split
  · rfl
  · split <;> rfl

/-- The next store's start moves stores and records between the line and the deferral queue (R318, R319). -/
theorem lineStart_started : h.lineStart.started = h.started := by
  unfold Hub.lineStart
  dsimp only
  rw [gapRecord_started, foldl_started _ lineDefer_started]
  exact foldl_started (h.modNvm fun n => { n with inStore := n.inStore.filter fun d => !h.toActive d.store })
    (f := fun h (d : Deferred) => h.activeRefused d.store) (fun _ _ => rfl) _

theorem linePut_started (d : Deferred) : (h.linePut d).started = h.started := by
  unfold Hub.linePut
  dsimp only
  split
  · exact lineStart_started (h.modNvm fun n => { n with inStore := n.inStore ++ [d] })
  · rfl

theorem pageStore_started (s : Store) : (h.pageStore s).started = h.started := by
  unfold Hub.pageStore
  split
  · rfl
  · split
    · simp
    · split
      · simp
      · exact linePut_started _ _

theorem eraseStore_started (step : Nat) : (h.eraseStore step).started = h.started :=
  pageStore_started (h.modSec fun c => { c with eraseStep := step }) _

theorem eraseKeys_started : h.eraseKeys.started = h.started :=
  eraseStore_started (h.modSec fun c => { c with keys := Vector.replicate 32 none, publics := [], erasePage := 0 }) 3

/-- The boot ROM begins, where it must, with the erase that was under way (R299). -/
theorem bootStart_started : h.bootStart.started = h.started := by
  unfold Hub.bootStart
  dsimp only
  split
  · exact (eraseKeys_started _).trans rfl
  · rfl

theorem holdoverOn_started : h.holdoverOn.started = h.started := by
  unfold Hub.holdoverOn
  split <;> rfl

/-- The stored configuration loads register words and nothing else (R461). -/
theorem Hub.loadStored_words : ∃ act shd, h.loadStored = { h with active := act, shadow := shd } :=
  List.foldlRecOn (motive := fun g : Hub => ∃ act shd, g = { h with active := act, shadow := shd }) _ _ ⟨_, _, rfl⟩ <| by
    rintro _ ⟨act, shd, rfl⟩ x -
    exact ⟨_, _, rfl⟩

theorem Hub.loadStored_nvm : h.loadStored.nvm = h.nvm := by
  obtain ⟨act, shd, loaded⟩ := h.loadStored_words
  rw [loaded]

theorem loadStored_started : h.loadStored.started = h.started := by
  obtain ⟨act, shd, loaded⟩ := h.loadStored_words
  rw [loaded]
  rfl

/-! #### Reset and start-up -/

/-- The block at its reset values (R424, R463). -/
theorem resetCore_started : h.resetCore.started =
    (Hub.reset.doms, { fallback := h.seq.fallback }, Hub.reset.tcs, h.csb.strap, h.nvm.ring) :=
  loadStored_started _

/-- After start-up everything stands as a reset leaves it, with the straps, REFCLK's absence and the Seedbank kept (R461). -/
theorem startUp_started : h.startUp.started =
    (Hub.reset.doms, { fallback := h.seq.fallback }, Hub.reset.tcs, h.csb.strap, h.nvm.ring) := by
  have clocks : (if h.resetCore.seq.fallback then h.resetCore.holdoverOn else h.resetCore).started = h.resetCore.started := by
    split
    · exact holdoverOn_started _
    · rfl
  exact (bootStart_started _).trans (clocks.trans (resetCore_started h))

end

section
variable {h : Hub}

/-- MRAM keeps the Seedbank and the stored configuration through a reset (R463). -/
theorem Hub.resetHold_mram : h.resetHold.nvm = h.storesFinish.nvm.mram :=
  Hub.loadStored_nvm _

theorem Hub.holdReset_first (out : h.held = .none) (f : Held → Held) : h.holdReset f = { h.resetHold with held := f .none } := by
  simp [Hub.holdReset, out]

/-- The end of the one cause that holds the device starts it (R461). -/
theorem Hub.release_last {f : Held → Held} (held : h.held ≠ .none) (last : f h.held = .none) :
    h.release f = { h with held := .none }.startUp := by
  simp [Hub.release, held, last]

/-- RST_N rises, and nothing else holds the device: its edge samples the straps and REFCLK (R251, R461, R465). -/
theorem Hub.rstRise_starts (low : h.held = { rstLow := true }) (r1 r0 ref : Bool) :
    h.rstRise r1 r0 ref = { ((h.modCsb fun c => { c with strap := strapOf r1 r0 }).modSeq fun q => { q with fallback := !ref }) with
      held := .none }.startUp := by
  refine (if_pos (by rw [low])).trans (Hub.release_last ?_ ?_)
  · show h.held ≠ .none
    rw [low]
    decide
  · show (fun k : Held => { k with rstLow := false }) h.held = .none
    rw [low]
    rfl

/-- The die has cooled, and nothing else holds the device (R464). -/
theorem Hub.cooled_starts (hot : h.held = { overTemp := true }) :
    (if h.held.overTemp then h.release fun k => { k with overTemp := false } else h) = { h with held := .none }.startUp := by
  refine (if_pos (by rw [hot])).trans (Hub.release_last ?_ ?_)
  · rw [hot]
    decide
  · rw [hot]
    rfl

/-! #### Boot -/

theorem Hub.pllStart_frame : h.pllStart.sec = h.sec ∧ h.pllStart.nvm = h.nvm := by
  unfold Hub.pllStart
  split <;> exact ⟨rfl, rfl⟩

theorem Hub.eccCount_frame (mem : Fin 5) (word : Nat) :
    (h.eccCount mem word).sec = h.sec ∧ (h.eccCount mem word).nvm.active = h.nvm.active := by
  unfold Hub.eccCount Hub.eccSummary
  dsimp only
  split
  · split <;> exact ⟨rfl, rfl⟩
  · exact ⟨rfl, rfl⟩

theorem Hub.eccCe_frame (mem : Fin 5) (word : Nat) (hard : Bool) :
    (h.eccCe mem word hard).sec = h.sec ∧ (h.eccCe mem word hard).nvm.active = h.nvm.active := by
  have counted := Hub.eccCount_frame (h := (h.eccEvt mem.val).bump (cntNvm (2 * mem.val))) mem word
  unfold Hub.eccCe
  generalize Hub.eccCount _ mem word = k at counted ⊢
  split <;> exact counted

/-- What a read of MRAM showed changes neither the security unit nor the active bank (R307). -/
theorem Hub.mramRead_frame (x : MramRead) : (h.mramRead x).sec = h.sec ∧ (h.mramRead x).nvm.active = h.nvm.active := by
  unfold Hub.mramRead
  split
  · exact ⟨rfl, rfl⟩
  · exact h.eccCe_frame _ _ _
  · exact ⟨rfl, rfl⟩

/-- A bank passes steps 2 and 3 of R294: its signature, its reading, its security version. -/
def Hub.bankPasses (h : Hub) (r : BootResult) : Bool := r.ok && !isUe r.mram.read && decide (h.sec.secVerMin ≤ r.secVer)

section
variable {r : BootResult}

theorem Hub.bankPasses_true (ok : r.ok = true) (read : isUe r.mram.read = false) (version : h.sec.secVerMin ≤ r.secVer) :
    h.bankPasses r = true := by
  simp [Hub.bankPasses, ok, read, version]

theorem Hub.bankPasses_false (fails : r.ok = false ∨ isUe r.mram.read = true ∨ r.secVer < h.sec.secVerMin) :
    h.bankPasses r = false := by
  rcases fails with bad | unread | old
  · simp [Hub.bankPasses, bad]
  · simp [Hub.bankPasses, unread]
  · simp [Hub.bankPasses, old]

variable (noErase : h.sec.eraseAtBoot = false)
include noErase

/-- The active bank is verified first; if it fails, the other one is next (R294). -/
theorem Hub.bootVerified_active (first : h.sec.boot = .verify) :
    let read := h.pllStart.mramRead r.mram
    h.bootVerified r =
      if h.bankPasses r then read.bootRun h.nvm.active false r else read.modSec fun c => { c with boot := .second } := by
  simp [Hub.bootVerified, noErase, Hub.pllStart_frame, Hub.mramRead_frame, first, Hub.bankPasses]

/-- If the other bank fails too, the MP stays in the boot ROM (R294). -/
theorem Hub.bootVerified_stuck (second : h.sec.boot = .second) (fails : h.bankPasses r = false) :
    h.bootVerified r = (h.pllStart.mramRead r.mram).bootStuck := by
  have fails' : (r.ok && !isUe r.mram.read && decide (h.sec.secVerMin ≤ r.secVer)) = false := fails
  simp [Hub.bootVerified, noErase, Hub.pllStart_frame, Hub.mramRead_frame, second, fails']

end

/-- Umuri is in service again after a restart, with no image to report (R322). -/
theorem Hub.umuriStart_again (starts : h.sec.boot = .start) (warm : h.sec.coldBoot = false)
    (unreported : h.csb.load.activating = false) :
    h.umuriStart = (((h.modSec fun c => { c with boot := .done, coldBoot := false }).modMbx fun x =>
      { x with umuriUp := true, restarting := false }).modNvm fun n => { n with inRestart := false }) := by
  simp [Hub.umuriStart, starts, warm, Hub.reportRunning, unreported]

end

/-- In a domain that works a command ends in the block its operation makes (R333). -/
theorem inDom_acts {s : State} {n : DomIx} {f : Hub → Hub} {k : Hub} (hs : s.works n) (made : f s.hub.quiet = k) :
    (perform s fun h => h.inDom n f) = .next (s.put k) := by
  obtain ⟨out, works⟩ := hs
  exact perform_acts out ((Hub.inDom_run (h := s.hub.quiet) works f).trans made)

/-- A command that acts in reset as well ends in the block its operation makes (R460). -/
theorem performAlways_acts {s : State} {f : Hub → Hub} {k : Hub} (made : f s.hub.quiet = k) :
    performAlways s f = .next { s with hub := k } := by
  rw [performAlways, made]

/-- A cause of a reset, which until then nothing held: the device is shut, and MRAM keeps the Seedbank and the stored configuration
(R463). -/
theorem exec_resetBegins {s : State} {c : Instr} {g : Hub} {k : Held} (acts : exec c s = .next { s with hub := g }) (held : g.held = k)
    (shut : g.shut) (kept : g.nvm = s.hub.quiet.storesFinish.nvm.mram) :
    ∃ t, exec c s = .next t ∧ t.hub.held = k ∧ t.hub.shut ∧ t.hub.nvm.ring = s.hub.quiet.storesFinish.nvm.ring ∧
      t.hub.nvm.stored = s.hub.quiet.storesFinish.nvm.stored ∧ t.pending = s.pending :=
  ⟨_, acts, held, shut, (congrArg Nvm.ring kept).trans rfl, (congrArg Nvm.stored kept).trans rfl, rfl⟩

/-- The start-up that RST_N's rise brings: every domain is ON, the pods are unattached, the straps and REFCLK are those of the edge,
and the Seedbank is kept (R251, R461, R465). -/
theorem Hub.rstRise_started {h : Hub} (low : h.held = { rstLow := true }) (r1 r0 ref : Bool) :
    (h.rstRise r1 r0 ref).started =
      (Hub.reset.doms, { fallback := !ref }, Hub.reset.tcs, strapOf r1 r0, h.nvm.ring) := by
  rw [Hub.rstRise_starts low]
  exact startUp_started _

/-- Settles O56: each command where its conditions hold, then each as the operation it names. Causes of a reset that combine are
log 8, what MRAM keeps log 10, the lock of the PLL at the first verified bank log 13, one BOOT_VERIFY_DONE for each bank log 14. -/
theorem resetCommands : Obligations.ResetCommands := by
  refine ⟨fun s r1 r0 ref rail res => ⟨?begins, ?rises, ?stays, ?cools, ?supply, ?verify, ?serves⟩,
    fun s => ⟨?always, ?rail, ?boot⟩⟩
  case begins =>
    intro out
    have shut (f : Held → Held) : (s.hub.quiet.holdReset f).shut := Hub.holdReset_shut (h := s.hub.quiet) (absurd out) f
    have kept (f : Held → Held) : (s.hub.quiet.holdReset f).nvm = s.hub.quiet.storesFinish.nvm.mram := by
      rw [Hub.holdReset_first (h := s.hub.quiet) out]
      exact Hub.resetHold_mram
    have held (f : Held → Held) : f s.hub.quiet.held = f .none := congrArg f out
    intro c k cause
    simp only [List.mem_cons, Prod.mk.injEq, List.not_mem_nil, or_false] at cause
    rcases cause with ⟨rfl, rfl⟩ | ⟨rfl, rfl⟩ | ⟨rfl, rfl⟩ | ⟨rfl, rfl⟩
    · exact exec_resetBegins rfl (held fun k => { k with rstLow := true }) (shut _) (kept _)
    · exact exec_resetBegins rfl (held fun k => { k with overTemp := true }) (shut _) (kept _)
    · exact exec_resetBegins rfl (held fun k => { k with powerOn := true }) (shut _) (kept _)
    · exact exec_resetBegins rfl (held fun k => { k with powerOn := false, rstLow := true }) (shut fun k => { k with rstLow := true })
        (kept fun k => { k with rstLow := true })
  case rises =>
    intro low
    have started := Hub.rstRise_started (h := s.hub.quiet) low r1 r0 ref
    simp only [Hub.started, Prod.mk.injEq] at started
    obtain ⟨doms, seq, tcs, strap, ring⟩ := started
    refine ⟨_, rfl, ?_, strap, congrArg Seq.fallback seq, fun n => ?_, fun p => ?_, ring, rfl⟩
    · exact congrArg Hub.held (Hub.rstRise_starts (h := s.hub.quiet) low r1 r0 ref)
    · simp [Hub.dom, doms, Hub.reset]
    · exact congrArg (fun v : Vector Tc 16 => v[p]) tcs
  case stays => exact fun high => performAlways_acts (if_neg (ne_true_of_eq_false high))
  case cools =>
    exact fun hot => performAlways_acts (Hub.cooled_starts (h := s.hub.quiet) hot)
  case supply =>
    exact fun out => ⟨fun matters => perform_acts out (if_pos matters),
      fun spared => perform_acts out (if_neg (ne_true_of_eq_false spared))⟩
  case verify =>
    intro hs noErase
    have fails := Hub.bankPasses_false (h := s.hub.quiet) (r := res)
    refine ⟨fun first ok read version => ?_, fun first bad => ?_, fun second bad => ?_⟩
    · have passes := Hub.bankPasses_true (h := s.hub.quiet) ok read version
      exact inDom_acts hs ((Hub.bootVerified_active (h := s.hub.quiet) noErase first).trans (if_pos passes))
    · exact inDom_acts hs ((Hub.bootVerified_active (h := s.hub.quiet) noErase first).trans
        (if_neg (ne_true_of_eq_false (fails bad))))
    · exact inDom_acts hs (Hub.bootVerified_stuck (h := s.hub.quiet) noErase second (fails bad))
  case serves =>
    exact fun hs starts warm unreported => inDom_acts hs (Hub.umuriStart_again (h := s.hub.quiet) starts warm unreported)
  case always =>
    exact ⟨rfl, rfl, rfl, rfl, fun _ _ _ => rfl, fun hot => performAlways_acts (if_pos hot),
      fun cool => performAlways_acts (if_neg (ne_true_of_eq_false cool))⟩
  case rail => exact fun out _ => perform_acts out rfl
  case boot => exact fun hs => ⟨fun _ => inDom_acts hs rfl, inDom_acts hs rfl⟩

end Sys2Proof.Machine

namespace Sys2Proof.Machine

/-! The security unit: the exchange with a device, the responder, the signature engine's answers, the guarded word of a pod. -/

section
variable {h : Hub} {p : PodIx}

/-! #### The initiator -/

/-- At every step that awaits an answer, ERROR fails the authentication with error 2 (R284, R286). -/
theorem Hub.authAnswer_error (awaits : h.authAwaits p = true) : h.authAnswer p .error = h.authOver p .failed 2 0 := by
  simp [Hub.authAnswer, awaits]

/-- An answer to another request than that of a certificate fails the authentication with error 3 (R284, R286). -/
theorem Hub.authAnswer_unexpected (awaits : h.authAwaits p = true) (step : (h.fwl p).step = .certificate) :
    h.authAnswer p .challengeAuth = h.authOver p .failed 3 0 := by
  simp [Hub.authAnswer, awaits, step]

/-- T_AUTH ends a running exchange (R286). -/
theorem Hub.authLate_running (running : (h.fwl p).auth = .running) (uncut : (h.fwl p).restart = false) :
    h.authLate p = ((h.authFree p).modPde p fun e => { e with pendAuth := false }).authOver p .timeout 0 0 :=
  if_pos (by simp [running, uncut])

/-- REAUTH outside PDE.READY leaves the new exchange to the next PDE.READY (R286, R303). -/
theorem Hub.fwlReauth_waits (d : isD p = true) (secure : h.securePort p = true) (busy : (h.pde p).state ≠ .ready) :
    h.fwlReauth p =
      ((h.authFree p).modFwl p fun f => { f with step := .idle, keep := false }).modFwl p fun f => { f with restart := true } := by
  have busy' : ((h.pde p).state == .ready) = false := beq_false_of_ne busy
  have kept : ∀ k, ((h.authFree p).modFwl p k).pde p = h.pde p := fun _ => rfl
  simp [Hub.fwlReauth, d, secure, kept, busy']

/-! #### The responder -/

/-- While a CHALLENGE is under way every request is answered Busy (R289). -/
theorem Hub.responder_busy {d via : RespTo} (busy : h.sec.respBusy = some d) (q : AuthRequest) :
    h.responder via q = (h.bump (cntSec 1)).respError via 3 := by
  simp [Hub.responder, busy]

/-- The chain of slot 0 is the part's own: its CHALLENGE goes to the signature engine (R289). -/
theorem Hub.responder_challenge (free : h.sec.respBusy = none) (via : RespTo) (nonce : List Word) :
    h.responder via (.challenge 0 nonce) = (h.bump (cntSec 0)).modSec fun c =>
      { c with respBusy := some via, engine := c.engine ++ [.respond via 0 nonce] } := by
  simp [Hub.responder, free, Hub.chainOf]

/-- A SETUP packet counted leaves the security unit (R204). -/
theorem countSetup_sec (h : Hub) : h.countSetup.sec = h.sec := by
  unfold Hub.countSetup Hub.countHostRx Hub.countRx
  split <;> rfl

/-! #### The signature engine -/

/-- The engine's oldest request is a debug token that fails: it is recorded, and nothing opens (R298, R305). -/
theorem Hub.sigDone_badToken {scope : Nat} {rest : List SigJob} {r : SigResult}
    (oldest : h.sec.engine = .token none scope :: rest) (bad : r.ok = false) :
    h.sigDone r = (((h.modSec fun c => { c with engine := rest, nonceNo := c.nonceNo + 1 }).secEvt 1).bump (cntSec 4)).raise srcSec
      0x6005 4 [2, 1] := by
  simp only [Hub.sigDone, oldest, Hub.tokenDone, bad]
  rfl

/-- The engine's oldest request is a CHALLENGE_AUTH that holds: the device has passed (R284, R286). -/
theorem Hub.sigDone_passed {rest : List SigJob} {r : SigResult} (oldest : h.sec.engine = .challenge p :: rest)
    (step : (h.fwl p).step = .verifySignature) (ok : r.ok = true) :
    h.sigDone r = ((h.modSec fun c => { c with engine := rest }).modFwl p fun f => { f with verified := some f.digest }).authOver p
      .passed 0 (h.fwl p).root := by
  have kept : ∀ k, (h.modSec k).fwl p = h.fwl p := fun _ => rfl
  simp [Hub.sigDone, oldest, Hub.challengeDone, kept, step, ok]

end

/-! #### Where the commands act -/

/-- A D pod is no upstream pod. -/
theorem podUp_of_isD {p : PodIx} (d : isD p = true) : podUp p = none :=
  dif_neg (Nat.not_lt.mpr (of_decide_eq_true d))

theorem isD_of_podUp {p : PodIx} {u : UpIx} (up : podUp p = some u) : isD p = false := by
  cases d : isD p with
  | false => rfl
  | true => simp [podUp_of_isD d] at up

section
variable {s : State} {p : PodIx} {f : PdFrame} {k : Hub}

/-- Under Revision 3 rules an upstream pod's request reaches the responder, where SEC runs (R289, R333). -/
theorem exec_securityRequestReceived_responds {u : UpIx} {q : AuthRequest} (hs : s.hears p) (up : podUp p = some u)
    (r3 : ((s.hub.quiet.pdRx p f false).pde p).r3 = true) (runs : (s.hub.quiet.pdRx p f false).domRuns domSec = true)
    (made : (s.hub.quiet.pdRx p f false).responder (.pd u) q = k) :
    exec (.securityRequestReceived p f q) s = .next (s.put k) :=
  hears_acts hs (by simp only [up, r3, if_true, Hub.inDom_run runs, made])

/-- A request of the host reaches the responder, counted as its SETUP packet (R204, R289). -/
theorem exec_mfAuthRequest_responds {q : AuthRequest} (hs : s.works domSec) (up : s.hub.upstreamUp = true)
    (noCredit : s.hub.sched.credit = none) (made : s.hub.quiet.countSetup.responder .mf q = k) :
    exec (.mfAuthRequest q) s = .next (s.put k) := by
  have taken : (s.hub.quiet.upstreamUp && s.hub.quiet.takesHeaders) = true :=
    Bool.and_eq_true_iff.mpr ⟨up, Option.isNone_iff_eq_none.mpr noCredit⟩
  exact inDom_acts hs ((if_pos taken).trans made)

/-- Without an upstream connection, or while a credit is held, a request of the host does not come in (R178). -/
theorem exec_mfAuthRequest_lost (hs : s.works domSec) (shut : s.hub.upstreamUp = false ∨ s.hub.sched.credit ≠ none)
    (q : AuthRequest) : exec (.mfAuthRequest q) s = .next (s.put s.hub.quiet) := by
  have lost : ¬(s.hub.quiet.upstreamUp && s.hub.quiet.takesHeaders) = true := fun taken => by
    obtain ⟨up, free⟩ := Bool.and_eq_true_iff.mp taken
    exact shut.elim (ne_false_of_eq_true up) (absurd (Option.isNone_iff_eq_none.mp free))
  exact inDom_acts hs (if_neg lost)

/-- EXTEST is put out with whether every sequencer is in VB.OFF, where it takes effect (R297). -/
theorem exec_extest (out : s.hub.held = .none) :
    exec .extest s = .next (s.put (s.hub.quiet.emit (.extest (s.hub.vbs.toList.all fun e => e.state == .off)))) :=
  perform_run out fun h => h.emit (.extest (h.vbs.toList.all fun e => e.state == .off))

/-- A guarded command bit that the master does not reach is a denied access, whether its domain is being entered or not (R296,
R334, R417). -/
theorem masterCommand_denied {m : Master} {off bit : Nat} {g : Hub → Hub} (out : s.hub.held = .none)
    (may : s.hub.mayAccess m = true) (other : s.hub.secure m = false) :
    (perform s fun h => h.masterCommand m off bit true g) = .next (s.put (s.hub.quiet.denyAcc m off true)) := by
  have notHeld : ¬(s.hub.quiet.accHeld m off 2 && (!true || s.hub.quiet.secure m)) = true := by
    simp [show s.hub.quiet.secure m = false from other]
  exact perform_acts out ((if_neg notHeld).trans (Hub.cmdBit_denied (by exact may) (by exact other) _))

end

/-- Settles O37: each command where its conditions hold, then each as the operation it names. The SETUP of an MF request counts 8
bytes (log 94); T_AUTH runs with the pod's domain, without SEC's (log 88). -/
theorem securityCommands : Obligations.SecurityCommands := by
  refine ⟨fun s p f m => ⟨?answers, ?busy, ?challenge, ?debug, ?badToken, ?passed, ?late, ?release, ?reauth, ?extest, ?denied⟩,
    fun s => ⟨?messages, ?engine, ?timeout, ?guarded, ?board, ?host⟩⟩
  case answers =>
    intro hs d awaits step
    exact ⟨hears_acts hs ((if_pos d).trans (Hub.authAnswer_error awaits)),
      hears_acts hs ((if_pos d).trans (Hub.authAnswer_unexpected awaits step))⟩
  case busy =>
    exact fun u d hs up r3 runs busy q => exec_securityRequestReceived_responds hs up r3 runs (Hub.responder_busy busy q)
  case challenge =>
    intro nonce hs up noCredit free
    have free' : s.hub.quiet.countSetup.sec.respBusy = none := by rw [countSetup_sec]; exact free
    exact exec_mfAuthRequest_responds hs up noCredit (Hub.responder_challenge free' .mf nonce)
  case debug => exact fun scope token hs => inDom_acts hs rfl
  case badToken => exact fun scope rest r hs oldest bad => inDom_acts hs (Hub.sigDone_badToken oldest bad)
  case passed => exact fun rest r hs oldest step ok => inDom_acts hs (Hub.sigDone_passed oldest step ok)
  case late => exact fun hs running uncut => onPod_acts hs (Hub.authLate_running running uncut)
  case release => exact fun takes d => masterCommand_acts takes (if_pos d)
  case reauth => exact fun takes d secure busy => masterCommand_acts takes (Hub.fwlReauth_waits d secure busy)
  case extest | board => exact exec_extest
  case denied =>
    exact fun out may other => ⟨masterCommand_denied out may other, masterCommand_denied out may other,
      masterCommand_denied out may other⟩
  case messages =>
    refine fun p f hs => ⟨fun d q a => ⟨hears_acts hs (by simp only [podUp_of_isD d]), hears_acts hs (if_pos d)⟩,
      fun u up q a => ⟨fun r3 runs => exec_securityRequestReceived_responds hs up r3 runs rfl, fun r2 => ?_, ?_⟩⟩
    · exact hears_acts hs (by simp [up, r2])
    · exact hears_acts hs (if_neg (ne_true_of_eq_false (isD_of_podUp up)))
  case engine => exact fun hs => ⟨fun _ => inDom_acts hs rfl, fun _ _ => inDom_acts hs rfl⟩
  case timeout => exact fun p hs => onPod_acts hs rfl
  case guarded => exact fun m p takes => ⟨masterCommand_acts takes rfl, masterCommand_acts takes rfl⟩
  case host =>
    exact fun hs => ⟨fun up noCredit q => exec_mfAuthRequest_responds hs up noCredit rfl, exec_mfAuthRequest_lost hs⟩

end Sys2Proof.Machine

namespace Sys2Proof.Machine

/-! What every command answers, and the state a reset leaves. -/

theorem State.put_hub_quiet (s : State) : (s.put s.hub.quiet).hub = s.hub.quiet := rfl

/-- Settles O58: a command that does not act in reset goes through `State.put`; the others keep the queue as well. A row that cannot
happen in the present state has no effect (log 5). -/
theorem everyCommandAnswers : Obligations.EveryCommandAnswers := by
  intro c s
  cases acts : actsInReset c with
  | false =>
    obtain ⟨k, ends, same⟩ := exec_put acts s
    refine ⟨s.put k, ends, rfl, fun _ => rfl, fun _ held => ?_⟩
    rw [same held, s.put_hub_quiet]
  | true =>
    cases c with
    | powerOnReset | rstNRise | rstNFall | dieOvertemperature | vddHuskLoss | overtemperatureRelease =>
      exact ⟨_, rfl, rfl, nofun, nofun⟩
    | vbusBelow0v8 x =>
      by_cases out : s.hub.held = .none
      · exact ⟨_, if_pos out, rfl, nofun, nofun⟩
      · exact ⟨_, if_neg out, rfl, nofun, nofun⟩
    | _ => contradiction

/-- The machines of the pods right after reset are unattached (R59, R61). -/
theorem tcsReset_unattached : ∀ p : PodIx, (State.reset.hub.tc p).attached = false := by
  decide

/-- Settles O57: the block of reset lists no word, no event bit and no counter, so that each reads as its reset value. -/
theorem resetState : Obligations.ResetState :=
  ⟨rfl, absurd rfl, rfl, rfl, by decide, fun _ => ⟨rfl, rfl⟩, fun _ => ⟨rfl, rfl⟩, rfl,
    fun p => ⟨tcsReset_unattached p, by revert p; decide⟩, by decide⟩

end Sys2Proof.Machine

namespace Sys2Proof.Machine

/-! Each opcode's row: its command runs where it can start, and takes a slot otherwise. -/

/-- The meaning of an opcode, whatever ring, master, tag, payload and job its command has (R387 to R390). -/
def OpMeans (op : Nat) (f : Hub → OpCtx → OpRes) : Prop :=
  ∀ (h : Hub) (r : RingIx) (m : Master) (tag : BitVec 16) (p : List Byte) (j : Fin 8) (reads : List EccRead),
    let c : OpCtx := { r := r, m := m, opcode := op, tag := tag, p := p, j := j, reads := reads }
    opMeaning h c = f h c

section
variable {s : State} {r : RingIx} {op : Nat} {tag : BitVec 16} {arg : List Byte} {reads : List EccRead}

/-- A command runs with the meaning of its opcode (R382). -/
theorem OpMeans.ran {f : Hub → OpCtx → OpRes} (means : OpMeans op f) (h : Hub) :
    h.ran r op tag arg reads opMeaning = h.ran r op tag arg reads f := by
  unfold Hub.ran
  rw [means]

/-- A command that can start runs with the meaning of its opcode, and its response is stored (R365, R382). -/
theorem OpMeans.onRow_starts {f : Hub → OpCtx → OpRes} (means : OpMeans op f) (hs : s.startsOn r op tag arg) :
    onRow s r op tag arg reads = .next (s.put (s.hub.quiet.ran r op tag arg reads f)) := by
  rw [onRow_ran hs, means.ran]

/-- While the MBX block works a command is checked, and takes a slot (R362, R365). -/
theorem onRow_works (hs : s.works domBus) : onRow s r op tag arg reads = .next (s.put (s.hub.quiet.opRow r op tag arg reads)) :=
  inDom_acts hs rfl

end

/-- Settles O49: each row where its command can start, then each as it arrives. A row is a whole command that arrives on a ring (log
32). -/
theorem opcodesToGate : Obligations.OpcodesToGate := by
  refine ⟨fun s r tag arg => ?starts, fun s r tag arg works => ?arrives⟩
  case starts =>
    repeat' apply And.intro
    all_goals exact OpMeans.onRow_starts fun _ _ _ _ _ _ _ => rfl
  case arrives =>
    repeat' apply And.intro
    all_goals exact onRow_works works

/-- Settles O50: each row where its command can start, then each as it arrives. A row is a whole command that arrives on a ring (log
32). -/
theorem opcodesFromSec : Obligations.OpcodesFromSec := by
  refine ⟨fun s r tag arg reads => ?starts, fun s r tag arg reads works => ?arrives⟩
  case starts =>
    repeat' apply And.intro
    all_goals exact OpMeans.onRow_starts fun _ _ _ _ _ _ _ => rfl
  case arrives =>
    repeat' apply And.intro
    all_goals exact onRow_works works

end Sys2Proof.Machine

namespace Sys2Proof.Machine

/-! The deferral queue and the line of the stores (R318 to R321): no store takes the queue beyond its 64 KB. -/

/-! #### Sums over lists -/

section
variable {α : Type} (f : α → Nat)

theorem sumBy_eq_sum (l : List α) : sumBy f l = (l.map f).sum := by
  induction l with
  | nil => rfl
  | cons x l ih => rw [sumBy_cons, ih, List.map_cons, List.sum_cons]

theorem sumBy_append (l k : List α) : sumBy f (l ++ k) = sumBy f l + sumBy f k := by
  simp [sumBy_eq_sum]

theorem sumBy_perm {l k : List α} (perm : l.Perm k) : sumBy f l = sumBy f k := by
  simpa [sumBy_eq_sum] using (perm.map f).sum_eq

theorem sumBy_sublist {l k : List α} (sub : l.Sublist k) : sumBy f l ≤ sumBy f k := by
  simpa [sumBy_eq_sum] using (sub.map f).sum_le_sum fun _ _ => Nat.zero_le _

/-- A list falls into what satisfies a predicate and what does not. -/
theorem sumBy_filter_add (p : α → Bool) (l : List α) : sumBy f (l.filter p) + sumBy f (l.filter fun x => !p x) = sumBy f l := by
  rw [← sumBy_append, sumBy_perm f (List.filter_append_perm p l)]

end

/-! #### What an entry takes -/

theorem deferBytes_le (d : Deferred) : deferBytes d ≤ 264 := by
  unfold deferBytes
  split <;> omega

/-- A record that gives way frees its 40 bytes (R320). -/
theorem displace_bytes {sev : Nat} {old : Rec} {q : List Deferred} :
    ∀ {l : List Deferred}, displace sev l = some (old, q) → sumBy deferBytes l = 40 + sumBy deferBytes q
  | [], gives => by simp [displace] at gives
  | d :: rest, gives => by
    have later : ((displace sev rest).map fun x => (x.1, d :: x.2)) = some (old, q) →
        sumBy deferBytes (d :: rest) = 40 + sumBy deferBytes q := by
      intro found
      obtain ⟨⟨r, q'⟩, behind, same⟩ := Option.map_eq_some_iff.mp found
      obtain ⟨rfl, rfl⟩ := Prod.mk.inj same
      rw [sumBy_cons, sumBy_cons, displace_bytes behind, Nat.add_left_comm]
    rw [displace] at gives
    split at gives
    · next r isRecord =>
      split at gives
      · obtain ⟨rfl, rfl⟩ := Prod.mk.inj (Option.some.inj gives)
        rw [sumBy_cons, deferBytes, isRecord]
        rfl
      · exact later gives
    · exact later gives

section
variable (h : Hub)

@[simp] theorem Hub.recordLost_deferUsed (r : Rec) : (h.recordLost r).nvm.deferUsed = h.nvm.deferUsed := rfl

theorem Hub.storeDefer_deferUsed (s : Store) :
    (h.storeDefer s).nvm.deferUsed = h.nvm.deferUsed + deferBytes { store := s, since := h.clk } := by
  show sumBy deferBytes (h.nvm.deferQ ++ [_]) + sumBy deferBytes (h.nvm.inStore.filter Deferred.held) = _
  rw [sumBy_append, sumBy_cons, Nvm.deferUsed]
  show _ + (_ + 0) + _ = _
  omega

theorem Hub.pageNoRoom_deferUsed (c : StoreClass) : (h.pageNoRoom c).nvm.deferUsed = h.nvm.deferUsed := by
  unfold Hub.pageNoRoom
  split <;> rfl

@[simp] theorem Hub.activeRefused_nvm (s : Store) :
    ((h.activeRefused s).nvm.deferQ, (h.activeRefused s).nvm.inStore) = (h.nvm.deferQ, h.nvm.inStore) := rfl

theorem Hub.gapRecord_deferUsed : h.gapRecord.nvm.deferUsed = h.nvm.deferUsed := by
  unfold Hub.gapRecord
  dsimp only
  split
  · rfl
  · split <;> rfl

variable {h}

theorem Hub.deferFits_iff {n : Nat} : h.deferFits n = true ↔ h.nvm.deferUsed + n ≤ 65536 := by
  simp [Hub.deferFits]

/-- A record that fails the check fits, displaces another of its size, or is lost (R320). -/
theorem Hub.recordDefer_fits (fits : h.nvm.deferUsed ≤ 65536) (r : Rec) : (h.recordDefer r).nvm.deferUsed ≤ 65536 := by
  unfold Hub.recordDefer
  split
  · next room =>
    rw [Hub.storeDefer_deferUsed]
    exact Hub.deferFits_iff.mp room
  · split
    · exact fits
    · split
      · exact fits
      · next old q gives =>
        rw [Hub.storeDefer_deferUsed, Hub.recordLost_deferUsed]
        have freed := displace_bytes gives
        have was : h.nvm.deferUsed = sumBy deferBytes h.nvm.deferQ + sumBy deferBytes (h.nvm.inStore.filter Deferred.held) := rfl
        show sumBy deferBytes q + sumBy deferBytes (h.nvm.inStore.filter Deferred.held) + 40 ≤ 65536
        omega

theorem Hub.storeDefer_page (room : h.deferFits 264 = true) (s : Store) : (h.storeDefer s).nvm.deferUsed ≤ 65536 := by
  rw [Hub.storeDefer_deferUsed]
  have size := deferBytes_le { store := s, since := h.clk }
  have room' := Hub.deferFits_iff.mp room
  omega

theorem Hub.pageDefer_fits (fits : h.nvm.deferUsed ≤ 65536) (s : Store) : (h.pageDefer s).nvm.deferUsed ≤ 65536 := by
  unfold Hub.pageDefer
  split
  · next room => exact Hub.storeDefer_page room s
  · rw [Hub.pageNoRoom_deferUsed]
    exact fits

theorem Hub.lineDefer_fits (fits : h.nvm.deferUsed ≤ 65536) (d : Deferred) : (h.lineDefer d).nvm.deferUsed ≤ 65536 := by
  unfold Hub.lineDefer
  split
  · exact fits
  · split
    · exact Hub.recordDefer_fits fits _
    · exact Hub.pageDefer_fits fits _

/-- Refusals of stores to the active bank leave queue and line (R321). -/
theorem foldl_activeRefused (l : List Deferred) (h : Hub) :
    (l.foldl (fun g d => Hub.activeRefused g d.store) h).nvm.deferQ = h.nvm.deferQ ∧
      (l.foldl (fun g d => Hub.activeRefused g d.store) h).nvm.inStore = h.nvm.inStore :=
  List.foldlRecOn (motive := fun g : Hub => g.nvm.deferQ = h.nvm.deferQ ∧ g.nvm.inStore = h.nvm.inStore) l _ ⟨rfl, rfl⟩
    fun _ kept _ _ => kept

/-- An entry that goes back to its place in the queue takes the bytes it took in the line (R319, R320). -/
theorem deferBytes_back (line q : List Deferred) (away : Deferred → Bool) :
    sumBy deferBytes ((((line.filter away).filter Deferred.held).map fun d => { d with held := false }) ++ q) +
        sumBy deferBytes ((line.filter fun d => !away d).filter Deferred.held) =
      sumBy deferBytes q + sumBy deferBytes (line.filter Deferred.held) := by
  have same : sumBy deferBytes (((line.filter away).filter Deferred.held).map fun d => { d with held := false }) =
      sumBy deferBytes ((line.filter away).filter Deferred.held) := by
    simp only [sumBy_eq_sum, List.map_map]
    rfl
  rw [sumBy_append, same, List.filter_comm, List.filter_comm _ (fun d => !away d),
    ← sumBy_filter_add deferBytes away (line.filter Deferred.held)]
  omega

/-- The start of the next store: what fails the check and came from the queue goes back to its place, the rest is deferred as it
fits (R319, R320). -/
theorem Hub.lineStart_fits (fits : h.nvm.deferUsed ≤ 65536) : h.lineStart.nvm.deferUsed ≤ 65536 := by
  unfold Hub.lineStart
  dsimp only
  rw [Hub.gapRecord_deferUsed]
  refine List.foldlRecOn (motive := fun g : Hub => g.nvm.deferUsed ≤ 65536) _ _ ?_ fun g kept d _ => Hub.lineDefer_fits kept d
  obtain ⟨sameQ, sameLine⟩ := foldl_activeRefused (h.nvm.inStore.filter fun d => h.toActive d.store)
    (h.modNvm fun n => { n with inStore := n.inStore.filter fun d => !h.toActive d.store })
  have kept : sumBy deferBytes ((h.nvm.inStore.filter fun d => !h.toActive d.store).filter Deferred.held) ≤
      sumBy deferBytes (h.nvm.inStore.filter Deferred.held) :=
    sumBy_sublist deferBytes (List.filter_sublist.filter _)
  generalize List.foldl _ _ _ = k at sameQ sameLine ⊢
  simp only [Hub.modNvm_nvm, Nvm.deferUsed, deferBytes_back, sameQ, sameLine]
  exact (Nat.add_le_add_left kept _).trans fits

/-- A store joins the line (R318). -/
theorem Hub.linePut_fits (fits : h.nvm.deferUsed ≤ 65536) {d : Deferred} (fresh : d.held = false) :
    (h.linePut d).nvm.deferUsed ≤ 65536 := by
  have joined : (h.modNvm fun n => { n with inStore := n.inStore ++ [d] }).nvm.deferUsed = h.nvm.deferUsed := by
    simp [Nvm.deferUsed, fresh]
  unfold Hub.linePut
  dsimp only
  split
  · exact Hub.lineStart_fits (joined.trans_le fits)
  · exact joined.trans_le fits

theorem Hub.recordStore_fits (fits : h.nvm.deferUsed ≤ 65536) (r : Rec) : (h.recordStore r).nvm.deferUsed ≤ 65536 := by
  unfold Hub.recordStore
  split
  · exact fits
  · split
    · exact Hub.recordDefer_fits fits r
    · exact Hub.linePut_fits fits rfl

/-- A store behind a deferred one of its class is deferred only where it fits (R319, R320). -/
theorem Hub.deferFits_of_classDeferred {c : StoreClass} (behind : h.classDeferred c = true) (taken : h.pageRefused c = false) :
    h.deferFits 264 = true := by
  have behind' : (h.nvm.deferQ.any fun d => storeClass d.store == c) = true := behind
  simpa [Hub.pageRefused, Hub.storeOk, behind'] using taken

theorem Hub.pageStore_fits (fits : h.nvm.deferUsed ≤ 65536) (s : Store) : (h.pageStore s).nvm.deferUsed ≤ 65536 := by
  unfold Hub.pageStore
  split
  · exact fits
  · split
    · rw [Hub.pageNoRoom_deferUsed]
      exact fits
    · next taken =>
      split
      · next behind => exact Hub.storeDefer_page (Hub.deferFits_of_classDeferred behind (eq_false_of_ne_true taken)) s
      · exact Hub.linePut_fits fits rfl

/-- A record of a lower severity than 3 displaces none (R320). -/
theorem Hub.recordDefer_keeps {r : Rec} (low : r.sev < 3) : ∀ d ∈ h.nvm.deferQ, d ∈ (h.recordDefer r).nvm.deferQ := by
  intro d waits
  unfold Hub.recordDefer
  split
  · exact List.mem_append_left _ waits
  · exact waits

/-! #### A page that starts or waits its turn -/

/-- A store whose class passes the check is not refused, and no earlier one of its class is deferred (R318, R319). -/
theorem Hub.storeOk_passes {c : StoreClass} (ok : h.storeOk c = true) :
    h.energyFor c = true ∧ h.classDeferred c = false ∧ h.pageRefused c = false := by
  obtain ⟨energy, first⟩ := Bool.and_eq_true_iff.mp ok
  exact ⟨energy, by simpa [Hub.classDeferred] using first, by simp [Hub.pageRefused, ok]⟩

/-- The hold-up check asks neither the line nor the queue of the stores (R318). -/
theorem Hub.energyFor_line (line : Nvm → List Deferred) (c : StoreClass) :
    (h.modNvm fun n => { n with inStore := line n }).energyFor c = h.energyFor c := rfl

/-- A gap record comes ahead of a record alone (R320). -/
theorem Hub.gapRecord_page {d : Deferred} {line : List Deferred} (first : h.nvm.inStore = d :: line)
    (page : storeClass d.store ≠ .journal) : h.gapRecord = h := by
  simp [Hub.gapRecord, first, page]

/-- The one store of the line, a page whose energy is covered, starts (R318). -/
theorem Hub.lineStart_one {d : Deferred} (one : h.nvm.inStore = [d]) (other : h.toActive d.store = false)
    (energy : h.energyFor (storeClass d.store) = true) (page : storeClass d.store ≠ .journal) :
    h.lineStart.nvm.inStore = [d] ∧ h.lineStart.nvm.deferQ = h.nvm.deferQ := by
  unfold Hub.lineStart
  dsimp only
  rw [Hub.gapRecord_page (d := d) (line := []) _ page] <;>
    simp [one, other, Hub.energyFor_line, energy]

/-- A page that passes the check takes its place in the line. -/
theorem Hub.pageStore_joins {st : Store} (ok : h.storeOk (storeClass st) = true) (page : storeClass st ≠ .journal)
    (other : h.toActive st = false) :
    (h.pageStore st).nvm.inStore = h.nvm.inStore ++ [{ store := st, since := h.clk }] ∧ (h.pageStore st).nvm.deferQ = h.nvm.deferQ := by
  obtain ⟨energy, first, taken⟩ := Hub.storeOk_passes ok
  simp only [Hub.pageStore, other, taken, first, Bool.false_eq_true, if_false, Hub.linePut]
  split
  · next free =>
    have none : h.nvm.inStore = [] := List.isEmpty_iff.mp free
    have one : (h.modNvm fun n => { n with inStore := n.inStore ++ [{ store := st, since := h.clk }] }).nvm.inStore =
        [{ store := st, since := h.clk }] := by simp [none]
    rw [none]
    exact Hub.lineStart_one one other energy page
  · exact ⟨rfl, rfl⟩

end

/-- Settles O38: the queue's bytes through each way a store takes; a store of the line that starts is log 108, as the check at its
arrival is. -/
theorem deferralBound : Obligations.DeferralBound := by
  refine fun h r st fits => ⟨Hub.recordStore_fits fits r, Hub.pageStore_fits fits st, fun n => Nat.le_add_right _ _,
    Hub.recordDefer_keeps, ?refused, fun ok page other => Hub.pageStore_joins ok page ?_⟩
  case refused =>
    rintro k page bytes m rfl
    exact if_pos (beq_self_eq_true _)
  cases st with
  | firmware k page' bytes m => exact beq_false_of_ne (other k page' bytes m rfl)
  | record | config | erase => rfl

end Sys2Proof.Machine

namespace Sys2Proof.Machine

/-! What refuses a domain entry, and what a refusal leaves (R332, R335). -/

section
variable {h : Hub} {n d : DomIx}

/-- HUSK refuses every entry (R335). -/
theorem Hub.domReason_husk (t : DomTgt) :
    h.domReason domHusk t = some (6, domOwner ((h.dependent domHusk).getD domBus), ((h.dependent domHusk).getD domBus).val) :=
  if_pos rfl

/-- A domain that another one requires is refused for that first of all (R335). -/
theorem Hub.domReason_dependent (other : n ≠ domHusk) (needed : h.dependent n = some d) (t : DomTgt) :
    h.domReason n t = some (6, domOwner d, d.val) := by
  simp [Hub.domReason, other, needed]

/-- A search through all indices ends at the first that is wanted, at or before any that is. -/
theorem finRange_find?_le {k : Nat} {wanted : Fin k → Bool} {d : Fin k} (one : wanted d = true) :
    ∃ e ≤ d, (List.finRange k).find? wanted = some e := by
  obtain ⟨e, found⟩ := Option.isSome_iff_exists.mp (List.find?_isSome.mpr ⟨d, List.mem_finRange d, one⟩)
  obtain ⟨-, i, inside, atI, before⟩ := List.find?_eq_some_iff_getElem.mp found
  refine ⟨e, ?_, found⟩
  by_contra later
  have early : d.val < i := by
    rw [List.getElem_finRange] at atI
    have same : i = e.val := congrArg Fin.val atI
    omega
  have unwanted := before d.val early
  rw [List.getElem_finRange] at unwanted
  simp [one] at unwanted

/-- Of the domains that require one and are neither RET nor OFF the lowest is named (R335). -/
theorem Hub.dependent_lowest (requires : (domRequires d).contains n = true) (ret : (h.dom d).state ≠ .ret)
    (off : (h.dom d).state ≠ .off) : ∃ e ≤ d, h.dependent n = some e :=
  finRange_find?_le (by simp only [requires, bne_iff_ne.mpr ret, bne_iff_ne.mpr off, Bool.and_self])

/-! #### A refusal -/

/-- Before its commit point an entry from ON ends in ON (R333). -/
theorem Hub.domBack_on (fromOn : (h.dom n).fromRet = false) (nvm : n ≠ domNvm) (bus : n ≠ domBus) (src : Nat) :
    h.domBack n src = h.modDom n fun x =>
      { x with target := .none, committed := false
               state := if x.state = .draining ∨ x.state = .entering then .on else x.state } := by
  unfold Hub.domBack
  dsimp only
  split
  · next enters =>
    rw [if_neg (ne_true_of_eq_false fromOn), Hub.modDom_modDom]
    exact h.modDom_congr (by simp only [if_pos enters])
  · next stays => exact h.modDom_congr (by simp only [if_neg stays])

/-- The refusal word shows code, owner and detail under a new number (R335, R355). -/
def Dom.noted (x : Dom) (code owner detail : Nat) : Dom :=
  { x with planned := false, refCode := code, refOwner := owner, refDetail := detail, refSeq := (x.refSeq + 1) % 65536 }

/-- Where no plan and no job waits for it, a refusal changes the refusal word alone of the domains (R355). -/
theorem Hub.refuseNote_doms (alone : (h.dom n).planned = false) (noJob : h.seq.jobs = []) (code owner detail : Nat) :
    (h.refuseNote n code owner detail).doms = (h.modDom n fun x => x.noted code owner detail).doms := by
  simp [Hub.refuseNote, alone, Hub.domJobsEnd, noJob, Dom.noted, Hub.domEvt]

end

/-- Settles O42: HUSK, a domain that another one requires, and the refusal of a domain on its way out. That the lowest such domain is
named is the model's reading of the first reason found. -/
theorem entryRefusals : Obligations.EntryRefusals := by
  refine ⟨fun h t => ⟨_, _, Hub.domReason_husk t⟩, fun h n d t other requires ret off => ?named,
    fun h n code owner detail noJob nvm bus fromOn alone => ?refused⟩
  case named =>
    obtain ⟨e, lowest, needed⟩ := Hub.dependent_lowest requires ret off
    exact ⟨e, lowest, Hub.domReason_dependent other needed t⟩
  case refused =>
    have doms : (h.domRefuse n code owner detail).doms = (h.modDom n fun x => Dom.noted
        { x with target := .none, committed := false
                 state := if x.state = .draining ∨ x.state = .entering then .on else x.state } code owner detail).doms := by
      rw [Hub.domRefuse, Hub.domBack_on fromOn nvm bus]
      exact (Hub.refuseNote_doms ((congrArg Dom.planned (h.modDom_dom n _)).trans alone) noJob code owner detail).trans
        (congrArg Hub.doms (h.modDom_modDom n _ _))
    have dom (d : DomIx) := congrArg (fun v : Vector Dom 24 => v[d]) doms
    have own : (h.domRefuse n code owner detail).dom n = _ := (dom n).trans (h.modDom_dom n _)
    rw [own]
    exact ⟨rfl, rfl, rfl, rfl, rfl, fun d other => (dom d).trans (h.modDom_dom_ne _ (Ne.symm other))⟩

end Sys2Proof.Machine

namespace Sys2Proof.Machine

/-! What some commands answer: their arguments are checked first. -/

section
variable {h : Hub} {c : OpCtx}

/-- A payload of another length than the command's is BAD_ARG with 0xFFFF (R386). -/
theorem opArgs_length {p : List Byte} {len : Nat} (wrong : p.length ≠ len) (fields : List (Nat × Nat × Bool)) (f : Hub → OpRes) :
    opArgs h p len fields f = { h := h, o := { status := 2, detail := 0xFFFF } } := by
  simp [opArgs, argBad, wrong, opBad]

/-- A command without arguments takes no payload (R386). -/
theorem opArgs_none {p : List Byte} (some : p ≠ []) (f : Hub → OpRes) :
    opArgs h p 0 [] f = { h := h, o := { status := 2, detail := 0xFFFF } } :=
  opArgs_length (fun none => some (List.eq_nil_of_length_eq_zero none)) [] f

/-- Arguments with nothing bad in them are taken. -/
theorem opArgs_good {p : List Byte} {len : Nat} {fields : List (Nat × Nat × Bool)} (good : argBad p len fields = none)
    (f : Hub → OpRes) : opArgs h p len fields f = f h := by
  rw [opArgs, good]

/-- ECHO returns a payload that fits a response (R387). -/
theorem opEcho_fits (fits : c.p.length ≤ 236) : opEcho h c = { h := h, o := { status := 0, data := c.p } } :=
  if_neg fits.not_gt

/-- FORWARD has a class, so an opcode that no table lists is not FORWARD (R379, R391). -/
theorem cmdClass_unlisted {op : Nat} (unlisted : opClass op = none) (p : List Byte) : cmdClass op p = none := by
  have other : op ≠ 0x0E02 := fun forward => by simp [forward, opClass] at unlisted
  rw [cmdClass, if_neg other, unlisted]

/-- Under a running image an opcode that no table lists is UNSUPPORTED (R363, R379). -/
theorem opGate_unlisted (unlisted : opClass c.opcode = none) (image : h.mbx.bootRomOnly = false) (f : Hub → OpRes) :
    opGate h c f = { h := h, o := { status := 3, detail := 1 } } := by
  simp [opGate, image, cmdClass_unlisted unlisted, opUnsup]

/-- A class that is not permitted to the ring is denied, counted and recorded (R379, R397). -/
theorem opGate_denied {cls : Nat} (cmd : cmdClass c.opcode c.p = some cls) (image : h.mbx.bootRomOnly = false)
    (denied : (h.classes c.r).testBit cls = false) (f : Hub → OpRes) : opGate h c f = opPrivDenied h c cls := by
  simp [opGate, image, cmd, denied]

/-! #### Arguments that name a pod or a domain -/

/-- A pod as the only argument. -/
theorem podArgument (p : PodIx) : argPod (byteAt [BitVec.ofNat 8 p.val] 0) = p ∧
    argBad [BitVec.ofNat 8 p.val] 1 [(0, 1, byteAt [BitVec.ofNat 8 p.val] 0 < 16)] = none := by
  revert p
  decide

/-- PORT.ENABLE's arguments: a pod, and 1. -/
theorem podEnableArguments (p : PodIx) : argPod (byteAt [BitVec.ofNat 8 p.val, 1] 0) = p ∧
    argBad [BitVec.ofNat 8 p.val, 1] 2
      [(0, 1, byteAt [BitVec.ofNat 8 p.val, 1] 0 < 16), (1, 1, byteAt [BitVec.ofNat 8 p.val, 1] 1 < 2)] = none := by
  revert p
  decide

/-- DOM.REQUEST's arguments: a domain, RET, and HOLD. -/
theorem domHoldArguments (n : DomIx) : argDom (byteAt [BitVec.ofNat 8 n.val, 1, 1] 0) = n ∧ argBad [BitVec.ofNat 8 n.val, 1, 1] 3
    [(0, 1, byteAt [BitVec.ofNat 8 n.val, 1, 1] 0 < 24), (1, 1, byteAt [BitVec.ofNat 8 n.val, 1, 1] 1 < 3),
      (2, 1, byteAt [BitVec.ofNat 8 n.val, 1, 1] 2 < 2)] = none := by
  revert n
  decide

/-- PORT.STATUS of a pod whose domain is not ON is refused (R386). -/
theorem opPortStatus_off {p : PodIx} (named : c.p = [BitVec.ofNat 8 p.val]) (off : h.domOn (podDom p) = false) :
    opPortStatus h c = { h := h, o := { status := 6, detail := p.val } } := by
  obtain ⟨pod, good⟩ := podArgument p
  rw [opPortStatus, named, opArgs_good good, pod, opOn, off]
  rfl

/-- PORT.ENABLE while the pod's group is pending is rejected (R386). -/
theorem opPortEnable_pending {p : PodIx} (named : c.p = [BitVec.ofNat 8 p.val, 1])
    (pending : h.glob.pending.getLsbD (h.groupOf (podBase p)) = true) :
    opPortEnable h c = { h := h, o := { status := 5, detail := 4096 + h.groupOf (podBase p) } } := by
  obtain ⟨pod, good⟩ := podEnableArguments p
  rw [opPortEnable, named, opArgs_good good, pod]
  exact if_pos pending

/-- PORT.REBASE writes the pod's command bit (R388). -/
theorem opRebase_pod {p : PodIx} (named : c.p = [BitVec.ofNat 8 p.val]) :
    opRebase h c = { h := h.command c.m (podBase p + 0x10) false fun k => k.rebase p, o := { status := 0 } } := by
  obtain ⟨pod, good⟩ := podArgument p
  rw [opRebase, opPodBit, named, opArgs_good good, pod]
  rfl

/-- DOM.REQUEST with HOLD starts no job: it writes the request, and answers with the domain's status word (R390). -/
theorem opDomRequest_hold {n : DomIx} (named : c.p = [BitVec.ofNat 8 n.val, 1, 1]) :
    let k := h.busWrite32 c.m (0x2100 + 0x10 * n.val) 2 (argWord 5)
    opDomRequest h c = opOk k (wordBytes (k.stDom n)) := by
  obtain ⟨dom, good⟩ := domHoldArguments n
  rw [opDomRequest, named, opArgs_good good, dom]
  exact if_pos (.inl rfl)

end

/-- Settles O51: each answer where its condition holds. The detail of a denied class is log 27, the order of the checks log 26. -/
theorem commandAnswers : Obligations.CommandAnswers := by
  intro h c
  refine ⟨opEcho_fits, fun long => if_pos long, fun args => ⟨opArgs_none args _, opArgs_none args _, opArgs_none args _⟩,
    fun f unlisted image => opGate_unlisted unlisted image f, fun f cls cmd image denied => opGate_denied cmd image denied f,
    fun p => opPortStatus_off, fun p => opPortEnable_pending, fun p => opRebase_pod, fun n named => ?_⟩
  rw [opDomRequest_hold named]
  exact ⟨rfl, rfl⟩

end Sys2Proof.Machine

namespace Sys2Proof.Machine

/-! The command slots of the rings (R364, R365). -/

section
variable (h : Hub) (r k : RingIx)

/-! #### What leaves the commands in their slots -/

/-- A change of a ring beside its commands. -/
theorem Hub.modRing_cmds {f : Ring → Ring} (same : ∀ g, (f g).cmds = g.cmds) : ((h.modRing r f).ring k).cmds = (h.ring k).cmds := by
  by_cases own : r = k
  · subst own
    rw [Hub.modRing_ring, same]
  · rw [Hub.modRing_ring_ne h f own]

@[simp] theorem Hub.stallEval_cmds : ((h.stallEval r).ring k).cmds = (h.ring k).cmds := by
  unfold Hub.stallEval
  dsimp only
  split
  · exact h.modRing_cmds r k fun _ => rfl
  · split
    · exact (h.bumpBy _ _).modRing_cmds r k fun _ => rfl
    · rfl

@[simp] theorem Hub.mfReady_ring : (h.mfReady r).ring k = h.ring k := by
  unfold Hub.mfReady
  split
  · rw [Hub.ring, mfSay_mbx]
    rfl
  · rfl

/-- Slots that become free are told to the MF (R370). -/
theorem Hub.freeSlots_ring (f : Hub → Hub) : (h.freeSlots r f).ring k = (f h).ring k := by
  unfold Hub.freeSlots
  split
  · exact Hub.mfReady_ring _ _ _
  · rfl

theorem Hub.raise_ring (src code sev : Nat) (data : List Nat) : (h.raise src code sev data).ring k = h.ring k := rfl

theorem Hub.storeResp_cmds (op : Nat) (tag : BitVec 16) (completion : Bool) (status detail : Nat) (data : List Byte) (job : Nat) :
    ((h.storeResp r op tag completion status detail data job).ring k).cmds = (h.ring k).cmds := by
  unfold Hub.storeResp
  dsimp only
  split
  · have numbered : (((h.bump (cntRing r 1)).modRing r fun g => { g with nextSeq := (g.nextSeq + 1) % 2 ^ 32 }).ring k).cmds =
        (h.ring k).cmds := (h.bump _).modRing_cmds r k fun _ => rfl
    split
    · rwa [Hub.mbxRaise, Hub.raise_ring]
    · exact numbered
  · rw [Hub.stallEval_cmds, Hub.mfReady_ring]
    exact (h.bump _).modRing_cmds r k fun _ => rfl

theorem Hub.busyRestart_cmds (op : Nat) (tag : BitVec 16) (completion : Bool) (detail job : Nat) :
    ((h.busyRestart r op tag completion detail job).ring k).cmds = (h.ring k).cmds := by
  unfold Hub.busyRestart
  dsimp only
  split
  · exact Hub.storeResp_cmds _ _ _ _ _ _ _ _ _ _
  · rfl

theorem Hub.respFreeIf_cmds (q : Resp → Bool) : ((h.respFreeIf r q).ring k).cmds = (h.ring k).cmds := by
  unfold Hub.respFreeIf
  rw [Hub.stallEval_cmds]
  exact h.modRing_cmds r k fun _ => rfl

/-- Acknowledgements free responses, not commands (R366). -/
theorem Hub.respAck_cmds (p : List Byte) : ((h.respAck r p).ring k).cmds = (h.ring k).cmds := by
  unfold Hub.respAck
  dsimp only
  split
  · rfl
  · split
    · rfl
    · split
      · exact Hub.respFreeIf_cmds _ _ _ _
      · split
        · exact Hub.respFreeIf_cmds _ _ _ _
        · rfl

theorem Hub.countHostRx_ring (bytes : Nat) : (h.countHostRx bytes).ring k = h.ring k := by
  unfold Hub.countHostRx Hub.countRx
  split <;> rfl

end

section
variable {h : Hub} {r k : RingIx}

/-! #### Slots are taken one at a time -/

/-- A command that finds a slot free takes it, unless it is answered at once (R365, R383). -/
theorem Hub.cmdStore_cmds (slots : (h.ring k).cmds.length ≤ 8) (free : ¬ h.cmdFull r) (m : Msg) :
    ((h.cmdStore r m).ring k).cmds.length ≤ 8 := by
  unfold Hub.cmdStore
  dsimp only
  split
  · rw [Hub.busyRestart_cmds]
    exact slots
  · rw [mpWanted_ring, Hub.stallEval_cmds]
    by_cases own : r = k
    · subst own
      have room : (h.ring r).cmds.length < 8 := by simpa [Hub.cmdFull] using free
      rw [Hub.modRing_ring, List.length_append]
      exact room
    · rw [Hub.modRing_ring_ne _ _ own]
      exact slots

/-- A message that is not discarded acknowledges responses, finds the slots full, or takes one (R362). -/
theorem Hub.commandCheck_cmds (slots : (h.ring k).cmds.length ≤ 8) (bytes : List Byte) :
    ((h.commandCheck r bytes).ring k).cmds.length ≤ 8 := by
  unfold Hub.commandCheck
  dsimp only
  split
  · exact slots
  · split
    · exact slots
    · split
      · exact slots
      · split
        · exact slots
        · split
          · rw [Hub.respAck_cmds]
            exact slots
          · split
            · exact slots
            · next free => exact Hub.cmdStore_cmds slots free _

/-- A full ring of the MF answers busy (R370). -/
theorem Hub.mfCommand_cmds (slots : (h.ring k).cmds.length ≤ 8) (bytes : List Byte) :
    ((h.mfCommand r bytes).ring k).cmds.length ≤ 8 := by
  have slots' : ((h.countHostRx bytes.length).ring k).cmds.length ≤ 8 := by rwa [Hub.countHostRx_ring]
  unfold Hub.mfCommand Hub.mfTakes
  split
  · dsimp only
    split
    · rwa [Hub.ring, mfSay_mbx]
    · exact Hub.commandCheck_cmds slots' bytes
  · exact slots

/-- A ring clear empties the slots of its ring (R369). -/
theorem Hub.ringClear_cmds (slots : (h.ring k).cmds.length ≤ 8) (cause : Nat) :
    ((h.ringClear r cause).ring k).cmds.length ≤ 8 := by
  have jobs (l : List (Fin 8)) (g : Hub) :
      (l.foldl (fun g j => g.modJob j fun x => x.map fun x => { x with drop := true }) g).ring k = g.ring k :=
    List.foldlRecOn (motive := fun x : Hub => x.ring k = g.ring k) l _ rfl fun _ kept _ _ => kept
  unfold Hub.ringClear
  dsimp only
  show ((List.foldl _ _ _ : Hub).ring k).cmds.length ≤ 8
  rw [jobs, Hub.freeSlots_ring, Hub.stallEval_cmds]
  by_cases own : r = k
  · subst own
    rw [Hub.modRing_ring]
    exact Nat.zero_le _
  · rwa [Hub.modRing_ring_ne h _ own]

end

/-- Settles O48: the four operations of the mailbox that put commands into the slots or take them out. -/
theorem eightSlots : Obligations.EightSlots :=
  fun _ _ _ bytes _ _ _ slots => ⟨Hub.commandCheck_cmds slots bytes, Hub.mfCommand_cmds slots bytes, Hub.ringClear_cmds slots 2,
    fun free => Hub.cmdStore_cmds slots free _⟩

end Sys2Proof.Machine

namespace Sys2Proof.Machine

/-! A job's completion beside an older one of its tag. -/

/-- Umuri serves; ring 0 holds the completion of a job 3, and job 0 of the same ring and tag has ended. -/
def twoCompletions : State :=
  State.reset.put (((State.reset.hub.modMbx fun m => { m with umuriUp := true }).modRing 0 fun g =>
    { g with resps := [{ opcode := 0x0D03, tag := 7, seq := 0, completion := true, job := 3 }], nextSeq := 1 }).modJob 0 fun _ =>
      some { ring := 0, opcode := 0x0D03, tag := 7, done := some { status := 0 } })

theorem twoCompletions_works : twoCompletions.works domBus := ⟨rfl, rfl⟩

/-- The job numbers that the responses of ring 0 tell of (R387). -/
def Hub.toldJobs (h : Hub) : List Nat := (h.ring 0).resps.map Resp.job

/-- Storing the completion of job 0 leaves the number of the older one (R387). -/
theorem twoCompletions_told : twoCompletions.hub.quiet.jobComplete.toldJobs = [3, 0] := rfl

theorem exec_jobCompletion {s : State} (hs : s.works domBus) (runs : s.hub.umuriRuns = true) :
    exec .jobCompletion s = .next (s.put s.hub.quiet.jobComplete) :=
  inDom_acts hs (if_pos runs)

/-- Refutes O47: the clause for JOB_COMPLETION gives job 0's number to every completion of the ring with its tag; the
model gives it to the one it stores, so where the ring holds another one of that tag, the older keeps its own number (R387). -/
theorem not_ringService : ¬ Obligations.RingService := by
  rintro ⟨clauses, -⟩
  obtain ⟨-, -, -, completion, -⟩ := clauses twoCompletions 1 0 0 []
  have same := (completion _ _ twoCompletions_works rfl rfl rfl rfl rfl).symm.trans (exec_jobCompletion twoCompletions_works rfl)
  have told : [0, 0] = twoCompletions.hub.quiet.jobComplete.toldJobs :=
    congrArg (fun t : State => t.hub.toldJobs) (Host.Outcome.next.inj same)
  exact absurd (told.trans twoCompletions_told) (by decide)

end Sys2Proof.Machine

namespace Sys2Proof.Machine

/-! A request of a domain that ends DOM's safe response: what waited for it runs before the request. -/

/-- The hub as a target was written into a domain's request register (R343). -/
def Hub.requested (h : Hub) (n : DomIx) (v : Nat) : Hub :=
  ((h.laneReached (0x2100 + 0x10 * n.val)).setAct (0x2100 + 0x10 * n.val) (BitVec.ofNat 32 v)).parWritten (0x2100 + 0x10 * n.val) false

/-- A target that its register takes is requested (R343, R355). -/
theorem exec_tgt {s : State} {m : Master} {n : DomIx} {t : Fin 4} (takes : s.takes m (0x2100 + 0x10 * n.val) false)
    (target : t ≠ 3) (hold : Bool) :
    exec (.tgt m n t hold) s =
      .next (s.put ((s.hub.quiet.requested n (t.val + if hold then 4 else 0)).domRequest n (tgtOf t.val) hold)) := by
  obtain ⟨out, may, guarded, lit, -⟩ := takes
  have row : exec (.tgt m n t hold) s = perform s fun h => h.cmdBit m (0x2100 + 0x10 * n.val) false fun h =>
      let h := (h.setAct (0x2100 + 0x10 * n.val) (BitVec.ofNat 32 (t.val + if hold then 4 else 0))).parWritten
        (0x2100 + 0x10 * n.val) false
      if t = 3 then h else h.domRequest n (tgtOf t.val) hold := rfl
  refine row.trans (perform_acts out ?_)
  rw [Hub.cmdBit_run (by exact may) (by exact guarded) (by exact lit)]
  exact if_neg target

/-- Pod 0's domain is OFF, its request for RET waits, as DOM is in its safe response for a fault of DOM_0_REQ (R313, R334). -/
def requestInSafe : State :=
  State.reset.put (((State.reset.hub.modDom 0 fun d => { d with state := .off, queued := .ret }).modSeq fun q =>
    { q with waiting := [0] }).modNvm fun n =>
      { n with faults := [{ off := 0x2100, copy := 0, safe := true, since := 0 }], safeAt := [(2, 0)] })

theorem requestInSafe_takes : requestInSafe.takes 1 0x2100 false := ⟨rfl, rfl, nofun, rfl, rfl⟩

theorem requestInSafe_off : (requestInSafe.hub.dom 0).state = .off := rfl

set_option maxRecDepth 20000 in
/-- The write ends DOM's safe response, so the waiting request starts the exit that RET needs (R314, R353). -/
theorem requestInSafe_exits : ((requestInSafe.hub.quiet.requested 0 2).dom 0).state = .exiting := rfl

set_option maxRecDepth 20000 in
/-- The request for OFF, which the register now asks for, waits for the end of that exit (R353). -/
theorem requestInSafe_waits :
    (((requestInSafe.hub.quiet.requested 0 2).domRequest 0 .off false).dom 0).queued = .off := rfl

/-- The end of the jobs that wait for a domain or a plan changes no domain (R390). -/
theorem Hub.jobsEnd_doms (h : Hub) (n : DomIx) (ok : Bool) :
    (h.domJobsEnd n ok).doms = h.doms ∧ h.planJobsEnd.doms = h.doms :=
  ⟨List.foldlRecOn (motive := fun g : Hub => g.doms = h.doms) _ _ rfl fun _ kept _ _ => kept,
    List.foldlRecOn (motive := fun g : Hub => g.doms = h.doms) _ _ rfl fun _ kept _ _ => kept⟩

/-- A request that is done at once leaves none waiting (R353). -/
theorem Hub.requestDone_queued (h : Hub) (n : DomIx) :
    let k := ((h.reqDrop n).modDom n fun d => { d with pend := .none, hold := false, planned := false }).domJobsEnd n true
    ((if k.seq.plan.isEmpty && !k.entryWait then k.planJobsEnd else k).dom n).queued = .none := by
  intro k
  have doms : (if k.seq.plan.isEmpty && !k.entryWait then k.planJobsEnd else k).doms = k.doms := by
    split
    · exact (k.jobsEnd_doms n true).2
    · rfl
  have own : k.dom n = _ := (congrArg (fun v : Vector Dom 24 => v[n]) (Hub.jobsEnd_doms _ n true).1).trans (Hub.modDom_dom _ n _)
  rw [Hub.dom, doms]
  refine (congrArg Dom.queued own).trans ?_
  exact congrArg Dom.queued (Hub.modDom_dom _ n _)

theorem dom_of_put {s : State} {h k : Hub} (same : s.put h = s.put k) (n : DomIx) : h.dom n = k.dom n :=
  congrArg (fun t : State => t.hub.dom n) same

/-- What the clause for a domain that is OFF says of the request: none waits after it. -/
theorem none_waits_of_entrySteps (holds : Obligations.EntrySteps) {s : State} {m : Master} {n : DomIx}
    (takes : s.takes m (0x2100 + 0x10 * n.val) false) (off : (s.hub.dom n).state = .off) (other : n ≠ domHusk) :
    (((s.hub.quiet.requested n 2).domRequest n .off false).dom n).queued = .none := by
  obtain ⟨-, done, -⟩ := holds.1 s m n false
  have same := (exec_tgt (t := 2) takes (by decide) false).symm.trans (done takes off other)
  refine (congrArg Dom.queued (dom_of_put (Host.Outcome.next.inj same) n)).trans ?_
  exact (s.hub.quiet.requested n 2).requestDone_queued n

/-- Refutes O43: the clause for a request of OFF for a domain that is OFF has it done at once. Where the write of the register ends
DOM's safe response, a request for RET that waited starts the domain's exit before, and the one for OFF waits (R314, R353). -/
theorem not_entrySteps : ¬ Obligations.EntrySteps := by
  intro holds
  have none := none_waits_of_entrySteps holds (n := 0) requestInSafe_takes requestInSafe_off (by decide)
  exact absurd (none.symm.trans requestInSafe_waits) (by decide)

end Sys2Proof.Machine

namespace Sys2Proof.Machine

/-! Misaligned accesses (R415): what ACC_FAULT's hub is, and that each form of access ends in it. -/

/-- ACC_FAULT stands, and no other event bit differs (R406, R415). -/
theorem Hub.accFault_evts (h : Hub) (m : Master) (addr size : Nat) (wr : Bool) (y : Nat) :
    (h.accFault m addr size wr).evtWord y = if y = 0x60 then h.evtWord 0x60 ||| BitVec.twoPow 32 1 else h.evtWord y := by
  have global : ∀ g : Hub, g.evts = h.evts → ((g.globEvt 1).bump cntAcc).evtWord y = _ := fun g same => by
    refine (g.evtWord_evt 0x60 1 y).trans ?_
    simp only [Hub.evtWord, same]
    rfl
  exact global _ (by split <;> rfl)

/-- The access is counted, and no other counter moves (R415, R419). -/
theorem Hub.accFault_cnt (h : Hub) (m : Master) (addr size : Nat) (wr : Bool) (k : Nat) :
    (h.accFault m addr size wr).cnt k = if k = cntAcc then (h.cnt cntAcc + 1) % 2 ^ 64 else h.cnt k := by
  have counted : ∀ g : Hub, g.counters = h.counters → ((g.globEvt 1).bump cntAcc).cnt k = _ := fun g same => by
    refine ((g.globEvt 1).cnt_bump cntAcc k).trans ?_
    simp only [Hub.cnt, Hub.globEvt, Hub.evt, Hub.setEvts, same]
    rfl
  exact counted _ (by split <;> rfl)

/-- The capture is made while ACC_FAULT was clear (R415). -/
theorem Hub.accFault_glob (h : Hub) (m : Master) (addr size : Nat) (wr : Bool) :
    (h.accFault m addr size wr).glob =
      { h.glob with
        accCap := if (h.evtWord 0x60).getLsbD 1 then h.glob.accCap
                  else some { addr := addr, master := m.val, size := size, write := wr } } := by
  unfold Hub.accFault
  split <;> rfl

/-- ACC_FAULT, its count and its capture are all that a misaligned access changes (R415). -/
theorem Hub.accFault_rest (h : Hub) (m : Master) (addr size : Nat) (wr : Bool) :
    h.accFault m addr size wr =
      { h with
        evts := (h.accFault m addr size wr).evts
        counters := (h.accFault m addr size wr).counters
        glob := (h.accFault m addr size wr).glob } := by
  unfold Hub.accFault
  split <;> rfl

/-- A misaligned access is never held: it goes to no register (R415). -/
theorem Hub.accHeld_misaligned (h : Hub) (m : Master) {addr size : Nat} (off : addr % 2 ^ size ≠ 0) : h.accHeld m addr size = false := by
  simp [Hub.accHeld, off]

/-- With no mismatch on its edge a read is as it stands (R311). -/
theorem Hub.edgeFinds_nil (h before : Hub) : h.edgeFinds before [] = h := if_pos rfl

theorem Hub.readFinds_nil (h : Hub) (m : Master) (addr size : Nat) : h.readFinds m addr size [] = h := ite_self h

/-- A read without mismatches that is not held is the plain read (R311, R334). -/
theorem Hub.busReadChecked_plain {h : Hub} {m : Master} {addr : Nat} {size : Fin 4} (now : h.accHeld m addr size.val = false) :
    h.busReadChecked m addr { size := size } = h.busRead m addr size.val := by
  simp [Hub.busReadChecked, now, Hub.readFinds_nil, Hub.edgeFinds_nil]

/-- A register read without mismatches that is not held ends in the plain read (R311, R334). -/
theorem exec_registerRead_plain {s : State} {m : Master} {addr : Nat} {size : Fin 4} {h : Hub} (out : s.hub.held = .none)
    (now : s.hub.accHeld m addr size.val = false) (made : s.hub.quiet.busRead m addr size.val = h) :
    exec (.registerRead m addr { size := size }) s = .next (s.put h) :=
  perform_acts (f := fun k => k.busReadChecked m addr { size := size }) out
    ((Hub.busReadChecked_plain (h := s.hub.quiet) now).trans made)

/-- The access is to a register of the map, or of 64 bits (R399). -/
def mapped (addr : Nat) (size : Fin 4) : Prop :=
  size.val = 3 ∨ (addr < 0x500000 ∧ regInfo (addr % 0x100000 - addr % 0x100000 % 4) ≠ none)

/-- In one register of the map, a misaligned write and a misaligned read end in ACC_FAULT, and the read is zero (R415). -/
theorem Hub.bus32_misaligned {h : Hub} {m : Master} {addr size : Nat} (off : addr % 2 ^ size ≠ 0) (short : size ≤ 2)
    (low : addr < 0x500000) (listed : regInfo (addr % 0x100000 - addr % 0x100000 % 4) ≠ none) (v : Word) :
    h.busWrite32 m addr size v = h.accFault m addr size true ∧ h.busRead32 m addr size = (h.accFault m addr size false, 0) := by
  obtain ⟨i, info⟩ := Option.ne_none_iff_exists'.mp listed
  have view : ¬ 4 < addr / 0x100000 := by omega
  rw [← Nat.min_eq_left short] at off
  constructor
  · simp only [Hub.busWrite32, info]
    exact (if_neg view).trans (if_pos off)
  · simp only [Hub.busRead32, info]
    exact (if_neg view).trans (if_pos off)

/-- A misaligned write (R415). -/
theorem Hub.busWrite_misaligned {h : Hub} {m : Master} {addr : Nat} {size : Fin 4} (may : h.mayAccess m = true)
    (off : addr % 2 ^ size.val ≠ 0) (there : mapped addr size) (v : BitVec 64) :
    h.busWrite m addr size.val v = h.accFault m addr size.val true := by
  refine (if_neg (by simp [may])).trans ?_
  by_cases long : size.val = 3
  · rw [long] at off ⊢
    exact (if_pos rfl).trans (if_pos off)
  · obtain ⟨low, listed⟩ := there.resolve_left long
    exact (if_neg long).trans (Hub.bus32_misaligned off (by omega) low listed _).1

/-- A misaligned read reads zero, a 64-bit read in both halves (R415). -/
theorem Hub.busRead_misaligned {h : Hub} {m : Master} {addr : Nat} {size : Fin 4} (may : h.mayAccess m = true)
    (off : addr % 2 ^ size.val ≠ 0) (there : mapped addr size) :
    h.busRead m addr size.val = if size.val = 3 then ((h.accFault m addr 3 false).emit (.read 0)).emit (.read 0)
      else (h.accFault m addr size.val false).emit (.read 0) := by
  refine (if_neg (by simp [may])).trans ?_
  by_cases long : size.val = 3
  · rw [if_pos long, if_pos long]
    rw [long] at off
    exact if_pos off
  · obtain ⟨low, listed⟩ := there.resolve_left long
    rw [if_neg long, if_neg long, Hub.readOut, (Hub.bus32_misaligned off (by omega) low listed 0).2]

/-- Both forms of a misaligned access: ACC_FAULT's hub, with the zeros that a read puts out. -/
theorem exec_misaligned {s : State} {m : Master} {addr : Nat} {size : Fin 4} (out : s.hub.held = .none) (may : s.hub.mayAccess m = true)
    (off : addr % 2 ^ size.val ≠ 0) (there : mapped addr size) (v : BitVec 64) (wr : Bool) :
    exec (if wr then .registerWrite m addr size v else .registerRead m addr { size := size }) s =
      .next (s.put { s.hub.quiet.accFault m addr size.val wr with
        out := if wr then [] else if size.val = 3 then [.read 0, .read 0] else [.read 0] }) := by
  have now := Hub.accHeld_misaligned s.hub.quiet m off
  cases wr with
  | true =>
    refine perform_acts (f := fun h => h.busAccess { m := m, addr := addr, size := size.val, word := some v }) out ?_
    rw [Hub.busAccess_now now]
    refine (Hub.busWrite_misaligned (by exact may) off there v).trans ?_
    rw [Hub.accFault_rest]
    rfl
  | false =>
    refine exec_registerRead_plain out now ?_
    rw [Hub.busRead_misaligned (by exact may) off there]
    by_cases long : size.val = 3
    · rw [if_pos long, long, Hub.accFault_rest]
      rfl
    · rw [if_neg long, Hub.accFault_rest]
      simp only [if_neg long]
      rfl

/-- Settles O54: each form of the access ends in ACC_FAULT's hub. -/
theorem misalignedAccess : Obligations.MisalignedAccess := by
  intro s m addr size v out may off there wr
  have evts := s.hub.quiet.accFault_evts m addr size.val wr
  have cnts := s.hub.quiet.accFault_cnt m addr size.val wr
  refine ⟨_, exec_misaligned out may off there v wr, rfl, ?_, ?_, ?_, ?_, ?_, ?_, ?_⟩
  · refine (congrArg (fun w : Word => w.getLsbD 1) ((evts 0x60).trans (if_pos rfl))).trans ?_
    simp
  · intro b other
    refine (congrArg (fun w : Word => w.getLsbD b) ((evts 0x60).trans (if_pos rfl))).trans ?_
    simp [BitVec.getLsbD_twoPow, other.symm, Hub.quiet, Hub.evtWord]
  · exact fun y other => (evts y).trans (if_neg other)
  · exact s.hub.quiet.accFault_glob m addr size.val wr
  · exact (cnts cntAcc).trans (if_pos rfl)
  · exact fun k other => (cnts k).trans (if_neg other)
  · rw [Hub.accFault_rest]
    rfl

end Sys2Proof.Machine

namespace Sys2Proof.Machine

/-! A write of a register whose writable bits are all buffered (R399, R403). -/

/-- The hub as a word was put into the shadow of a register's buffered bits, whose group waits for its commit (R403). -/
def Hub.buffered (h : Hub) (x : Nat) (bits w : Word) : Hub :=
  ((h.setShd x (mergeOp 0 (h.shd x) bits w)).modGlob fun g => { g with pending := g.pending ||| BitVec.twoPow 16 (h.groupOf x) }).parWritten x true

/-- The shadow of the register takes the word in the bits, and no other shadow moves (R403). -/
theorem Hub.buffered_shd (h : Hub) (x : Nat) (bits w : Word) (y : Nat) :
    (h.buffered x bits w).shd y = if y = x then (h.shd x &&& ~~~bits) ||| (w &&& bits) else h.shd y :=
  h.shd_setShd x y (mergeOp 0 (h.shd x) bits w)

theorem Hub.buffered_pending (h : Hub) (x : Nat) (bits w : Word) :
    (h.buffered x bits w).glob.pending = h.glob.pending ||| BitVec.twoPow 16 (h.groupOf x) := rfl

/-- Beside the shadow and the pending group, only the fault records of the register learn of the write (R314). -/
theorem Hub.buffered_rest (h : Hub) (x : Nat) (bits w : Word) :
    h.buffered x bits w =
      { h with
        shadow := (h.buffered x bits w).shadow
        glob := (h.buffered x bits w).glob
        nvm := { h.nvm with faults := (h.buffered x bits w).nvm.faults } } := rfl

/-- The group of a register waits once its bit is set (R403). -/
theorem Hub.groupPending_buffered (h : Hub) (x : Nat) (w : Word) :
    ((h.setShd x w).modGlob fun g => { g with pending := g.pending ||| BitVec.twoPow 16 (h.groupOf x) }).groupPending x = true := by
  have few : h.groupOf x < 16 := Nat.mod_lt _ (by decide)
  change (h.glob.pending ||| BitVec.twoPow 16 (h.groupOf x)).getLsbD (h.groupOf x) = true
  simp [few]

theorem and_allLanes (w : Word) : w &&& 0xFFFFFFFF#32 = w := BitVec.and_allOnes

/-- A whole word written to the active view of a register whose writable bits are all buffered stores to its shadow alone (R399, R403). -/
theorem Hub.storeFields_buffered {h : Hub} {bits g rc reset : Word} {o : RegOp} (any : bits ≠ 0) (view : o.view = 0) :
    h.storeFields { rwb := bits, rw := 0, sc := 0, g := g, rc := rc, reset := reset } o 0xFFFFFFFF = h.buffered o.reg bits o.w := by
  have waits := h.groupPending_buffered o.reg (mergeOp 0 (h.shd o.reg) bits o.w)
  have stores : bits ≠ 0#32 := any
  simp [Hub.storeFields, and_allLanes, stores, view, waits, Hub.buffered]

/-- The checks of R416 let such a write pass: nothing of it is guarded, dark, locked or a manager's alone. -/
theorem Hub.regPut_buffered {h : Hub} {bits rc reset : Word} {o : RegOp} (any : bits ≠ 0)
    (whole : o.mask = 0xFFFFFFFF) (view : o.view = 0) (lit : h.domDark (domOf o.reg) = false) (free : h.lockedBits o.m o.reg = 0)
    (own : h.mgrBits o.reg = 0) :
    h.regPut { rwb := bits, rw := 0, sc := 0, g := 0, rc := rc, reset := reset } o = h.buffered o.reg bits o.w := by
  have stored := h.storeFields_buffered (g := 0) (rc := rc) (reset := reset) any view
  simpa [Hub.regPut, own, whole, lit, free, Hub.cmdBits, and_allLanes] using stored

/-- Such a write over the interconnect (R399, R416). -/
theorem Hub.busWrite_buffered {h : Hub} {m : Master} {x : Nat} {i : RegInfo} {v : BitVec 64} (low : x < 0x100000) (aligned : x % 4 = 0)
    (noMap : ¬ (0x40000 ≤ x ∧ x < 0x48000)) (info : regInfo x = some i) (any : i.rwb ≠ 0) (plain : i.rw = 0) (cmd : i.sc = 0)
    (unguarded : i.g = 0) (may : h.mayAccess m = true) (lit : h.domDark (domOf x) = false) (free : h.lockedBits m x = 0)
    (own : h.mgrBits x = 0) : h.busWrite m x 2 v = h.buffered x i.rwb (v.setWidth 32) := by
  have view : x / 0x100000 = 0 := Nat.div_eq_of_lt low
  have offset : x % 0x100000 = x := Nat.mod_eq_of_lt low
  obtain ⟨bits, rw, sc, g, rc, reset⟩ := i
  obtain ⟨rfl, rfl, rfl⟩ : rw = 0 ∧ sc = 0 ∧ g = 0 := ⟨plain, cmd, unguarded⟩
  have put := h.regPut_buffered (o := { m := m, addr := x, view := 0, reg := x, mask := 0xFFFFFFFF, w := v.setWidth 32, size := 2 })
    (rc := rc) (reset := reset) any rfl rfl lit free own
  simpa [Hub.busWrite, may, Hub.busWrite32, view, offset, aligned, info, noMap, laneMask] using put

/-- Settles O53: the write ends in the buffered hub, and the fault records of the register are all it changes besides (R314). -/
theorem bufferedWrite : Obligations.BufferedWrite := by
  intro s m x i v low aligned noMap info any plain cmd unguarded takes free own
  obtain ⟨out, may, -, lit, now⟩ := takes
  have made : exec (.registerWrite m x 2 v) s = .next (s.put (s.hub.quiet.buffered x i.rwb (v.setWidth 32))) := by
    refine perform_acts (f := fun h => h.busAccess { m := m, addr := x, size := 2, word := _ }) out ?_
    rw [Hub.busAccess_now now]
    exact Hub.busWrite_buffered low aligned noMap info any plain cmd unguarded may lit free own
  have shadow := s.hub.quiet.buffered_shd x i.rwb (v.setWidth 32)
  refine ⟨_, made, (shadow x).trans (if_pos rfl), fun y other => (shadow y).trans (if_neg other), ?_, ?_⟩
  · exact s.hub.quiet.buffered_pending x i.rwb _
  · rw [Hub.buffered_rest]
    exact ⟨rfl, rfl, rfl, rfl, rfl, rfl, rfl, rfl, rfl, rfl, rfl, rfl, rfl⟩

end Sys2Proof.Machine

namespace Sys2Proof.Machine

/-! Peeks (R400): a read through another view than the active one, and the status commands (R386). -/

/-- The map's registers stand in the PE's domain (R422). -/
theorem domOf_map {x : Nat} (low : 0x40000 ≤ x) (high : x < 0x48000) : domOf (x - x % 4) = domPe := by
  have block : blockOf (x - x % 4) = 28 := by
    unfold blockOf
    repeat rw [if_neg (by omega)]
    exact if_pos (by omega)
  simp [domOf, block, blockDom, domPe]

/-- What a peek of one register asks of the hub: the register is listed, its fields are open to the master, and its domain answers. -/
structure Hub.Peeks (h : Hub) (m : Master) (x : Nat) (i : RegInfo) : Prop where
  info  : regInfo (x - x % 4) = some i
  fields : h.secure m = true ∨ i.g = 0
  map   : h.secure m = true ∨ ¬ (0x40000 ≤ x ∧ x < 0x48000)
  lit   : h.domDark (domOf (x - x % 4)) = false

section
variable {h : Hub} {m : Master} {x : Nat} {i : RegInfo}

/-- A register read through a view other than the active one changes nothing (R400). -/
theorem Hub.regGet_peek (peeks : h.Peeks m x i) {view : Nat} (passive : view ≠ 0) (addr : Nat) (mask : Word) (whole : Bool) :
    (h.regGet i m addr view (x - x % 4) mask whole).1 = h := by
  have granted : ¬ (h.secure m = false ∧ ¬ i.g &&& mask = 0#32) := by
    obtain mp | plain := peeks.fields
    · simp [mp]
    · simp [plain]
  simp [Hub.regGet, granted, peeks.lit, passive]

/-- A map entry read while the MP is secure and the PE answers changes nothing (R207). -/
theorem Hub.mapGet_peek (peeks : h.Peeks m x i) (there : 0x40000 ≤ x ∧ x < 0x48000) (addr : Nat) (mask : Word) :
    (h.mapGet m addr (x - x % 4) mask).1 = h := by
  have mp : h.secure m = true := peeks.map.resolve_right fun other => other there
  have lit : h.domDark domPe = false := domOf_map there.1 there.2 ▸ peeks.lit
  simp [Hub.mapGet, mp, lit]

/-- A read of one register through such a view changes nothing (R400). -/
theorem Hub.busRead32_peek {addr size : Nat} (peeks : h.Peeks m (addr % 0x100000) i) (passive : 0x100000 ≤ addr) (low : addr < 0x500000)
    (aligned : addr % 2 ^ min size 2 = 0) : (h.busRead32 m addr size).1 = h := by
  have view : ¬ 4 < addr / 0x100000 := by omega
  simp only [Hub.busRead32, peeks.info, view, aligned]
  by_cases there : 0x40000 ≤ addr % 0x100000 ∧ addr % 0x100000 < 0x48000
  · rw [if_pos there]
    exact Hub.mapGet_peek peeks there addr _
  · rw [if_neg there]
    exact Hub.regGet_peek peeks (by omega) addr _ _

/-- Such a read puts out one word (R399, R400). -/
theorem Hub.readOut_peek {addr size : Nat} (peeks : h.Peeks m (addr % 0x100000) i) (passive : 0x100000 ≤ addr) (low : addr < 0x500000)
    (aligned : addr % 2 ^ min size 2 = 0) : h.readOut m addr size = h.emit (.read (h.busRead32 m addr size).2) := by
  rw [Hub.readOut, Hub.busRead32_peek peeks passive low aligned]

end

/-- A read of 64 bits through such a view reads the two registers in turn (R399, R400). -/
theorem Hub.busRead_peekLong {h : Hub} {m : Master} {addr : Nat} {i j : RegInfo} (may : h.mayAccess m = true) (aligned : addr % 8 = 0)
    (passive : 0x100000 ≤ addr) (low : addr < 0x500000) (first : h.Peeks m (addr % 0x100000) i) (second : h.Peeks m ((addr + 4) % 0x100000) j) :
    ∃ a b, h.busRead m addr 3 = (h.emit (.read a)).emit (.read b) := by
  have out := Hub.readOut_peek (size := 3) first passive low (Nat.mod_mod_of_dvd addr (by decide : 4 ∣ 8) ▸ by rw [aligned])
  have next : ∀ o, (h.emit o).Peeks m ((addr + 4) % 0x100000) j := fun o => ⟨second.info, second.fields, second.map, second.lit⟩
  have words : (addr + 4) % 2 ^ min 3 2 = 0 := by change (addr + 4) % 4 = 0; omega
  have two := Hub.readOut_peek (size := 3) (next (.read (h.busRead32 m addr 3).2)) (by omega) (by omega) words
  have both : h.busRead m addr 3 = (h.readOut m addr 3).readOut m (addr + 4) 3 :=
    (if_neg (by simp [may])).trans ((if_pos rfl).trans (if_neg (by omega)))
  exact ⟨_, _, both.trans ((congrArg (fun g : Hub => g.readOut m (addr + 4) 3) out).trans two)⟩

section
variable {h : Hub} {f : Hub → OpRes}

/-! A status command answers from what stands (R386): arguments, domain and manager are checked, then its words are read. -/

theorem opArgs_keeps (kept : (f h).h = h) (p : List Byte) (len : Nat) (fields : List (Nat × Nat × Bool)) :
    (opArgs h p len fields f).h = h := by
  unfold opArgs
  split
  · rfl
  · exact kept

theorem opOn_keeps (kept : (f h).h = h) (n : DomIx) : (opOn h n f).h = h := by
  unfold opOn
  split
  · exact kept
  · rfl

theorem opManager_keeps (kept : (f h).h = h) : (opManager h f).h = h := by
  unfold opManager
  split
  · exact kept
  · rfl

end

/-- Settles O55. -/
theorem peeksChangeNothing : Obligations.PeeksChangeNothing := by
  refine ⟨fun s m addr size i out may passive low aligned info fields map now lit => ⟨fun short => ?_, fun j long info' fields' lit' => ?_⟩,
    fun h c => ?_⟩
  · have once := Hub.readOut_peek (h := s.hub.quiet) (size := size.val) ⟨info, fields, map, lit⟩ passive low
      ((Nat.min_eq_left (by omega : size.val ≤ 2)).symm ▸ aligned)
    have read : s.hub.quiet.busRead m addr size.val = s.hub.quiet.readOut m addr size.val :=
      (if_neg (by simp [show s.hub.quiet.mayAccess m = true from may])).trans (if_neg short)
    exact ⟨_, exec_registerRead_plain out now (read.trans once)⟩
  · rw [long] at aligned
    have next : (addr + 4) % 0x100000 = addr % 0x100000 + 4 := by omega
    have whole : (addr + 4) % 0x100000 - (addr + 4) % 0x100000 % 4 = addr % 0x100000 + 4 := by omega
    have second : s.hub.quiet.Peeks m ((addr + 4) % 0x100000) j :=
      ⟨whole ▸ info', fields', map.imp_right fun outside => by omega, whole ▸ lit'⟩
    obtain ⟨a, b, twice⟩ := Hub.busRead_peekLong (h := s.hub.quiet) may aligned passive low ⟨info, fields, map, lit⟩ second
    exact ⟨a, b, exec_registerRead_plain out now (by rw [long]; exact twice)⟩
  · exact ⟨opArgs_keeps (opOn_keeps rfl _) _ _ _, opArgs_keeps (opOn_keeps rfl _) _ _ _, opArgs_keeps (opOn_keeps rfl _) _ _ _,
      opArgs_keeps (opOn_keeps rfl _) _ _ _, opArgs_keeps (opOn_keeps rfl _) _ _ _, opArgs_keeps (opOn_keeps rfl _) _ _ _,
      opArgs_keeps rfl _ _ _, opArgs_keeps (opOn_keeps rfl _) _ _ _, opArgs_keeps (opOn_keeps rfl _) _ _ _,
      opArgs_keeps (opOn_keeps rfl _) _ _ _, opManager_keeps (opArgs_keeps (opOn_keeps rfl _) _ _ _), opArgs_keeps rfl _ _ _,
      opArgs_keeps rfl _ _ _⟩

end Sys2Proof.Machine

namespace Sys2Proof.Machine

/-! Wakes, the end of an exit, the SMBus matcher, and the Husk's FIFO and timer (R340, R345 to R347). -/

section
variable {h : Hub}

/-- A source that is enabled, and whose domains are not all ON, wakes them (R345). -/
theorem Hub.wakeSource_enabled {src : Nat} (real : src < 24) (enabled : h.wakeEn.testBit src = true)
    (asleep : (h.wakeSet src).all (fun d => h.domOn d) = false) :
    h.wakeSource src = (h.bump (cntHusk src)).wakeRun src (h.wakeSet src) 0x70 :=
  if_pos (by simp [real, enabled, asleep])

/-- A source that is masked wakes nothing (R345). -/
theorem Hub.wakeSource_masked {src : Nat} (masked : h.wakeEn.testBit src = false) : h.wakeSource src = h :=
  if_neg (by simp [masked])

/-- The row of a source other than a pod is that of the source (R345). -/
theorem Hub.wake_notPod {src : Nat} (other : 16 ≤ src) : h.wake src = h.wakeSource src := dif_neg (by omega)

theorem Hub.wake_masked {src : Nat} (masked : h.wakeEn.testBit src = false) : h.wake src = h := by
  unfold Hub.wake
  split
  · rw [Hub.wakeSource_masked masked, ite_self]
  · exact Hub.wakeSource_masked masked

/-- OUT left RET with nothing missed: its outlets have nothing to look at again (R134). -/
theorem Hub.domRestore_outCalm (calm : ∀ o, (h.outlet o).missed = false) (lrc : Nat) : h.domRestore domOut false lrc = h :=
  List.foldlRecOn (motive := fun g : Hub => g = h) _ _ rfl fun g same o _ => by rw [same, Hub.outletCatch_none (calm o)]

/-- The end of OUT's exit from RET, with nothing missed and no request that waits (R340). -/
theorem Hub.domExited_outCalm {lrc : Nat} (ready : h.exitReady domOut = true) (kept : (h.dom domOut).prev = .ret)
    (calm : ∀ o, (h.outlet o).missed = false) (idle : (h.dom domOut).queued = .none) :
    h.domExited domOut lrc =
      (((((h.modDom domOut fun d => { d with state := .on, failing := false }).domEvt 1).bump (cntDom domOut 1)).raise srcDom 0x7002 1
        ([domOut.val, 3, (h.dom domOut).source, 0] ++ le32 (h.dom domOut).stay ++ le32 h.huskTime)).domJobsEnd domOut true).domNext := by
  have restored := Hub.domRestore_outCalm calm lrc
  have noNext : ∀ b : Bool, (if b = true then DomTgt.none else (h.dom domOut).queued) = .none := by simp [idle]
  have fromRet : ((h.dom domOut).prev == .off) = false := by rw [kept]; rfl
  have code : (h.dom domOut).prev.code = 3 := by rw [kept]; rfl
  have time : ∀ f, (h.modDom domOut f).huskTime = h.huskTime := fun _ => rfl
  rw [Hub.domExited, if_pos ready]
  simp only [fromRet, restored, noNext, if_true, code, time]

/-- An exit that is not ready to end goes on (R340). -/
theorem Hub.domExited_notReady {n : DomIx} {lrc : Nat} (waits : h.exitReady n = false) : h.domExited n lrc = h :=
  if_neg (by simp [waits])

/-- An exit whose rails failed asks for them again (R340). -/
theorem Hub.exitRetry_failing {n : DomIx} (exiting : (h.dom n).state = .exiting) (failing : (h.dom n).failing = true) :
    h.exitRetry n = h.railsRequestOn n :=
  if_pos (by simp [exiting, failing])

/-- The SMBus matcher stretches the clock of a BUS that is not ON, and wakes (R346). -/
theorem Hub.smbMatch_asleep (enabled : h.smbMatchEn = true) (asleep : h.domOn domBus = false) :
    h.smbMatch = ((h.modSeq fun q => { q with stretch := true, stretchNak := false }).emit (.stretch true)).wakeSource 16 :=
  if_pos (by simp [enabled, asleep])

/-- A stretch that lasts too long ends with NAK (R346). -/
theorem Hub.stretchExpiry_asleep (stretch : h.seq.stretch = true) (asleep : h.domOn domBus = false) :
    h.stretchExpiry = ((((h.modSeq fun q => { q with stretch := false, stretchNak := true }).emit (.stretch false)).huskEvt 1).bump
      (cntHusk 24)).raise srcHusk 0x7007 2 [h.tStretch] :=
  if_pos (by simp [stretch, asleep])

theorem Hub.fifoPop_word {w : Word} {ws : List Word} {rest : List (List Word)} (next : h.seq.fifo = (w :: ws) :: rest) :
    h.fifoPop = (h.modSeq fun q => { q with fifo := if ws.isEmpty then rest else ws :: rest }, w) := by
  rw [Hub.fifoPop, next]

theorem Hub.fifoPop_empty (empty : h.seq.fifo = []) : h.fifoPop = (h, pip) := by
  rw [Hub.fifoPop, empty]

end

/-- A read of the FIFO's data register that may be made pops it and puts the word out (R347). -/
theorem exec_fifoRead {s : State} {m : Master} {r : Hub × Word} (takes : s.takes m 0x1018 false) (popped : s.hub.quiet.fifoPop = r) :
    exec (.huskFifoDataRead m) s = .next (s.put (r.1.emit (.read r.2))) := by
  obtain ⟨out, may, -, lit, -⟩ := takes
  refine perform_acts (f := fun h => h.readAcc m 0x1018 fun h => h.fifoPop.1.emit (.read h.fifoPop.2)) out ?_
  rw [← popped]
  refine (if_neg ?_).trans (if_neg ?_)
  · simp [show s.hub.quiet.mayAccess m = true from may]
  · simp [show s.hub.quiet.domDark (domOf 0x1018) = false from lit]

/-- A flush of the FIFO that its register takes (R347, R408). -/
theorem exec_fifoFlush {s : State} {m : Master} (takes : s.takes m 0x1020 false) (rest : Nat) :
    exec (.fifoFlush m rest) s = .next (s.put ((s.hub.quiet.written 0x1020).fifoFlush rest)) :=
  masterCommand_acts (bit := 0) (f := fun h => h.fifoFlush rest) takes rfl

/-- The rows of O44 that a unit's operation answers, each with that operation. -/
theorem exec_wakeRows {s : State} (out : s.hub.held = .none) :
    (∀ src, exec (.wake src) s = .next (s.put (s.hub.quiet.wake src.val))) ∧
    (∀ n lrc, exec (.domainExitComplete n lrc) s = .next (s.put (s.hub.quiet.domExited n lrc))) ∧
    (∀ n, exec (.exitRailRetry n) s = .next (s.put (s.hub.quiet.exitRetry n))) ∧
    exec .smbusWakeMatch s = .next (s.put s.hub.quiet.smbMatch) ∧
    exec .tStretchExpiry s = .next (s.put s.hub.quiet.stretchExpiry) ∧
    exec .huskTimer s = .next (s.put (if s.hub.tmrS = 0 then s.hub.quiet else s.hub.quiet.wakeSource 21)) :=
  ⟨fun src => perform_acts (f := fun h => h.wake src.val) out rfl, fun n lrc => perform_acts (f := fun h => h.domExited n lrc) out rfl,
    fun n => perform_acts (f := fun h => h.exitRetry n) out rfl, perform_acts (f := Hub.smbMatch) out rfl,
    perform_acts (f := Hub.stretchExpiry) out rfl, perform_acts (f := fun h => if h.tmrS = 0 then h else h.wakeSource 21) out rfl⟩

/-- A row ends in what its operation makes, where that is known. -/
theorem ends_in {s : State} {c : Instr} {h k : Hub} (ends : exec c s = .next (s.put h)) (made : h = k) : exec c s = .next (s.put k) :=
  made ▸ ends

/-- Settles O44: each row ends in its operation, whose case the conditions choose. -/
theorem wakesAndExits : Obligations.WakesAndExits := by
  refine ⟨fun s m n lrc out => ?_, fun s => ⟨fun m takes => exec_fifoRead takes rfl, fun out => ?_, fun m takes => exec_fifoFlush takes⟩⟩
  · obtain ⟨wakes, exits, retries, matched, expires, timer⟩ := exec_wakeRows out
    refine ⟨fun src other real enabled asleep => ?_, fun src masked => ?_, ?_, fun waits => ?_, fun exiting failing => ?_,
      fun enabled asleep => ?_, fun stretch asleep => ?_, fun off => ?_, fun on => ?_, fun w ws rest takes next => ?_,
      fun takes empty => ?_, fun takes => exec_fifoFlush takes 0⟩
    · exact ends_in (wakes src) ((Hub.wake_notPod other).trans (Hub.wakeSource_enabled real enabled asleep))
    · exact ends_in (wakes src) (Hub.wake_masked masked)
    · rintro rfl ready kept calm idle
      exact ends_in (exits domOut lrc) (Hub.domExited_outCalm ready kept calm idle)
    · exact ends_in (exits n lrc) (Hub.domExited_notReady waits)
    · exact ends_in (retries n) (Hub.exitRetry_failing exiting failing)
    · exact ends_in matched (Hub.smbMatch_asleep enabled asleep)
    · exact ends_in expires (Hub.stretchExpiry_asleep stretch asleep)
    · exact ends_in timer (if_pos off)
    · exact ends_in timer (if_neg on)
    · exact exec_fifoRead takes (Hub.fifoPop_word next)
    · exact exec_fifoRead takes (Hub.fifoPop_empty empty)
  · obtain ⟨wakes, exits, retries, matched, expires, -⟩ := exec_wakeRows out
    exact ⟨wakes, exits, retries, matched, expires⟩

end Sys2Proof.Machine

namespace Sys2Proof.Machine

/-! MP_CLK, the measurement of the clocks, the loss and return of the reference, and the loss of lock (R351, R352, R357). -/

section
variable {h : Hub}

/-- Without lock the MP does not leave FRC: the write is refused, and its register stands (R351, log 36). -/
theorem Hub.mpClock_unlocked (unlocked : h.seq.pllLock = false) : h.mpClock true = h.clkEvt 2 := if_pos (by simp [unlocked])

/-- FRC is always taken (R351). -/
theorem Hub.mpClock_frc :
    h.mpClock false = ((h.setAct 0x3004 0).modSeq fun q => { q with mpOnPll := false }).parWritten 0x3004 false := rfl

/-- With the PLL locked both clocks are measured against it (R352). -/
theorem Hub.clockMeasured_locked (locked : h.seq.pllLock = true) (frc lrc : Nat) :
    h.clockMeasured frc lrc = ((h.modSeq fun q =>
      { q with frcKhz := frc % 131072, lrcHz := lrc % 65536, clkSeq := (q.clkSeq + 1) % 128 }).evt 0x3010 31).evt 0x3014 31 :=
  if_pos locked

/-- A reference lost while it is watched falls back; a lock that BUS uses is reported lost too (R357). -/
theorem Hub.refLost_watched (watched : h.refMonEn = true) (was : h.seq.refOk = true) (first : h.seq.fallback = false) :
    let fallen := h.modSeq fun q => { q with fallback := true, refOk := false, pllLock := false, mpOnPll := false, lostAt := h.clk }
    h.refLost = ((((if h.seq.pllLock && h.domOn domBus then fallen.clkEvt 3 else fallen).clkEvt 0).bump (cntHusk 26)).raise srcClk 0x7006 3
      ([1, 0] ++ le32 0)).holdoverOn :=
  if_pos (by simp [watched, was, first])

/-- The lock of a BUS that is ON falls with the reference, and is an event of its own (R357). -/
theorem Hub.refLost_locked (watched : h.refMonEn = true) (was : h.seq.refOk = true) (first : h.seq.fallback = false)
    (locked : h.seq.pllLock = true) (on : h.domOn domBus = true) :
    h.refLost = (((((h.modSeq fun q =>
      { q with fallback := true, refOk := false, pllLock := false, mpOnPll := false, lostAt := h.clk }).clkEvt 3).clkEvt 0).bump
        (cntHusk 26)).raise srcClk 0x7006 3 ([1, 0] ++ le32 0)).holdoverOn := by
  simp only [Hub.refLost_watched watched was first, locked, on, Bool.and_self, if_true]

/-- Where there was no lock none falls (R357). -/
theorem Hub.refLost_unlocked (watched : h.refMonEn = true) (was : h.seq.refOk = true) (first : h.seq.fallback = false)
    (unlocked : h.seq.pllLock = false) :
    h.refLost = ((((h.modSeq fun q =>
      { q with fallback := true, refOk := false, mpOnPll := false, lostAt := h.clk }).clkEvt 0).bump
        (cntHusk 26)).raise srcClk 0x7006 3 ([1, 0] ++ le32 0)).holdoverOn := by
  have same : (h.modSeq fun q => { q with fallback := true, refOk := false, pllLock := false, mpOnPll := false, lostAt := h.clk }) =
      h.modSeq fun q => { q with fallback := true, refOk := false, mpOnPll := false, lostAt := h.clk } := by
    rw [Hub.modSeq, ← unlocked]
    rfl
  simp only [Hub.refLost_watched watched was first, same, unlocked, Bool.false_and, Bool.false_eq_true, if_false]

/-- The reference is back: the fallback ends with the PLL locked again (R357). An MP that does not run stays on FRC. -/
theorem Hub.refBack_fallen (runs : h.domRuns domBus = true) (fallen : h.seq.fallback = true) (stopped : h.domRuns domMp = false) :
    h.refBack = ((h.modSeq fun q => { q with refOk := true, pllLock := true, fallback := false }).clkEvt 1).raise srcClk 0x7006 3
      ([0, 0] ++ le32 ((h.clk - h.seq.lostAt) / 100)) := by
  simp [Hub.refBack, runs, fallen, stopped]

end

/-- A write of MP_CLK that its register takes (R351, R408). -/
theorem exec_mpClk {s : State} {m : Master} {h : Hub} (takes : s.takes m 0x3004 false) (pll : Bool)
    (made : (s.hub.quiet.laneReached 0x3004).mpClock pll = h) : exec (.mpClk m pll) s = .next (s.put h) := by
  obtain ⟨out, may, guarded, lit, -⟩ := takes
  have row : exec (.mpClk m pll) s = perform s fun h => h.cmdBit m 0x3004 false fun h => h.mpClock pll := rfl
  refine row.trans (perform_acts out ?_)
  rw [Hub.cmdBit_run (by exact may) (by exact guarded) (by exact lit), made]

/-- A loss of lock: the PLL loses it, and where BUS is ON that is an event (R357). -/
def Hub.lockLost (h : Hub) : Hub :=
  if h.seq.pllLock then
    if h.domOn domBus then (h.modSeq fun q => { q with pllLock := false }).clkEvt 3 else h.modSeq fun q => { q with pllLock := false }
  else h

/-- The rows of the clocks, each with its operation (R352, R357). -/
theorem exec_clockRows {s : State} (out : s.hub.held = .none) :
    (∀ frc lrc, exec (.clockMeasurement frc lrc) s = .next (s.put (s.hub.quiet.clockMeasured frc lrc))) ∧
    exec .refclkLost s = .next (s.put s.hub.quiet.refLost) ∧
    exec .refclkBack s = .next (s.put s.hub.quiet.refBack) ∧
    exec .pllUnlock s = .next (s.put s.hub.quiet.lockLost) :=
  ⟨fun frc lrc => perform_acts (f := fun h => h.clockMeasured frc lrc) out rfl, perform_acts (f := Hub.refLost) out rfl,
    perform_acts (f := Hub.refBack) out rfl, perform_acts (f := Hub.lockLost) out rfl⟩

/-- Settles O45: a refused MP_CLK leaves its register, and PLL_UNLOCK leaves MP_ON_PLL (log 36); without lock there is none to lose
(log 5). -/
theorem clocks : Obligations.Clocks := by
  refine ⟨fun s m frc lrc out => ?_, fun s => ⟨fun m takes pll => exec_mpClk takes pll rfl, fun out => ?_⟩⟩
  · obtain ⟨measures, loses, returns, unlocks⟩ := exec_clockRows out
    have lane := (s.hub.quiet.laneReached_frame 0x3004).2
    refine ⟨fun takes unlocked => exec_mpClk takes true (Hub.mpClock_unlocked ?_), fun takes => exec_mpClk takes false Hub.mpClock_frc,
      fun locked => ?_, fun watched was first unlocked => ?_, fun watched was first locked on => ?_, fun runs fallen stopped => ?_,
      fun locked on => ?_, fun locked off => ?_, fun unlocked => ?_⟩
    · obtain ⟨-, -, -, -, -, -, -, -, -, -, -, -, -, -, -, seq, -⟩ := lane
      rw [seq]
      exact unlocked
    · exact ends_in (measures frc lrc) (Hub.clockMeasured_locked (h := s.hub.quiet) locked frc lrc)
    · exact ends_in loses (Hub.refLost_unlocked (h := s.hub.quiet) watched was first unlocked)
    · exact ends_in loses (Hub.refLost_locked (h := s.hub.quiet) watched was first locked on)
    · exact ends_in returns (Hub.refBack_fallen runs fallen stopped)
    · exact ends_in unlocks ((if_pos locked).trans (if_pos on))
    · exact ends_in unlocks ((if_pos locked).trans (if_neg (by simp [off])))
    · exact ends_in unlocks (if_neg (by simp [unlocked]))
  · obtain ⟨measures, loses, returns, -⟩ := exec_clockRows out
    exact ⟨measures, loses, returns⟩

end Sys2Proof.Machine

namespace Sys2Proof.Machine

/-! The patrols and the parity scanner (R307 to R312, R326). -/

section
variable {h : Hub}

/-- A corrected error that recurs in no second read is counted, and changes no domain (R307). -/
theorem Hub.eccCe_doms (mem : Fin 5) (word : Nat) : (h.eccCe mem word false).doms = h.doms := by
  change (((h.eccEvt mem.val).bump (cntNvm (2 * mem.val))).eccCount mem word).doms = h.doms
  unfold Hub.eccCount Hub.eccSummary
  dsimp only
  split
  · split <;> rfl
  · rfl

/-- A memory has power only in a domain that is neither OFF nor exiting (R309). -/
theorem Hub.memPowered_state {n : DomIx} {bit : Nat} (powered : h.memPowered n bit = true) :
    ((h.dom n).state = .off || (h.dom n).state = .exiting) = false := by
  unfold Hub.memPowered at powered
  split at powered <;> simp_all

/-- The patrol of the cells moves from a powered cell before the last to the next, whatever it read there (R309). -/
theorem Hub.shellScrub_next {word : Fin 17} {r : EccRead} {k : Hub} (cell : word.val < 16) (low : h.nvm.scrubCell < 24575)
    (powered : h.memPowered domPe (h.nvm.scrubCell / 1536) = true) (read : h.cellScrub h.nvm.scrubCell word.val r = k)
    (doms : k.doms = h.doms) :
    h.shellScrub word r = k.modNvm fun n => { n with scrubCell := h.nvm.scrubCell + 1 } := by
  have lit : ((k.dom domPe).state = .off || (k.dom domPe).state = .exiting) = false := by
    rw [Hub.dom, doms]
    exact Hub.memPowered_state powered
  have next : (h.nvm.scrubCell + 1) % 24576 = h.nvm.scrubCell + 1 := Nat.mod_eq_of_lt (by omega)
  simp only [Hub.shellScrub, if_neg (Nat.ne_of_lt cell), powered, if_true, read, lit, Bool.false_eq_true, if_false, next,
    if_neg (Nat.ne_of_lt low)]

theorem Hub.cellScrub_clean (cell word : Nat) : h.cellScrub cell word .clean = h := rfl

/-- A corrected word of a cell is counted, with its address (R307, R308). -/
theorem Hub.cellScrub_corrected (cell word : Nat) : h.cellScrub cell word (.corrected false) = h.eccCe 0 (16 * cell + word) false := rfl

/-- The MP's patrol shows a corrected word, counts it and moves on (R310). -/
theorem Hub.mpScrub_corrected (low : h.nvm.mpScrub < 28672) (powered : h.memPowered domMp (h.nvm.mpScrub / 4096) = true) :
    h.mpScrub (.corrected false) = (h.eccCe 2 h.nvm.mpScrub false).modNvm fun n => { n with mpScrub := h.nvm.mpScrub + 1 } := by
  have first : h.nvm.mpScrub < 32768 := by omega
  have next : (h.nvm.mpScrub + 1) % 34816 = h.nvm.mpScrub + 1 := Nat.mod_eq_of_lt (by omega)
  have more : h.nvm.mpScrub ≠ 34815 := by omega
  simp [Hub.mpScrub, first, powered, next, more]

/-- An active copy that differs alone, its group not pending, is repaired, counted and recorded (R312). -/
theorem Hub.parFault_alone {x : ParityHit} (active : x.active &&& parBits x.off ≠ 0) (second : x.second &&& parBits x.off = 0)
    (none : h.nvm.faults = []) (settled : h.groupPending x.off = false) (outside : inPeMem x.off = false) :
    h.parFault x = (h.parNote x.off 0 1).bump (cntNvm 14) := by
  have differs : ¬ x.active &&& parBits x.off = 0#32 := active
  simp [Hub.parFault, none, settled, outside, second, differs]

end

/-- Settles O39: a row of PARITY_SCAN is a whole pass of the scanner (log 60). -/
theorem scrubAndParity : Obligations.ScrubAndParity := by
  have shell : ∀ {s : State} (word r), s.hub.held = .none → exec (.shellScrub word r) s = .next (s.put (s.hub.quiet.shellScrub word r)) :=
    fun word r out => perform_acts (f := fun h => h.shellScrub word r) out rfl
  have mp : ∀ {s : State} (r), s.hub.held = .none → exec (.mpScrub r) s = .next (s.put (s.hub.quiet.mpScrub r)) :=
    fun r out => perform_acts (f := fun h => h.mpScrub r) out rfl
  have scan : ∀ {s : State} (hits), s.works domNvm → exec (.parityScan hits) s = .next (s.put (s.hub.quiet.parityScan hits)) :=
    fun hits works => inDom_acts (f := fun h => h.parityScan hits) works rfl
  refine ⟨fun s word out => ⟨fun cell low powered => ?_, fun cell low powered => ?_, fun low powered => ?_, fun runs => ?_,
    fun x runs active second none settled outside => ?_⟩, fun s => ⟨fun out => ⟨fun word r => shell word r out, fun r => mp r out⟩,
    fun works hits => scan hits works⟩⟩
  · exact ends_in (shell word .clean out) (Hub.shellScrub_next (h := s.hub.quiet) cell low powered (Hub.cellScrub_clean _ _) rfl)
  · exact ends_in (shell word _ out)
      (Hub.shellScrub_next (h := s.hub.quiet) cell low powered (Hub.cellScrub_corrected _ _) (Hub.eccCe_doms _ _))
  · exact ends_in (mp _ out) (Hub.mpScrub_corrected (h := s.hub.quiet) low powered)
  · exact scan [] ⟨out, runs⟩
  · exact ends_in (scan [x] ⟨out, runs⟩) (congrArg (fun k : Hub => k.modNvm fun n => { n with scanPasses := (n.scanPasses + 1) % 65536 })
      (Hub.parFault_alone (h := s.hub.quiet) active second none settled outside))

end Sys2Proof.Machine

namespace Sys2Proof.Machine

/-! What restarts the MP, and when a restart rolls the firmware back (R322, R323, R328). -/

/-! #### What the answers to an abort and the stores leave as it stands -/

/-- What a restart reads and sets: the time, the words and faults of the configuration, the activation's window and its count, the
staged bank, the boot's finding, and whether Umuri is up. -/
def Hub.restartGround (h : Hub) :=
  (h.clk, h.active, h.nvm.faults, h.nvm.activatedAt, h.nvm.restartsInWin, h.sec.staging, h.sec.bootOk, h.mbx.umuriUp)

section
variable (h : Hub) (r : RingIx)

theorem foldl_restartGround {α : Type} {f : Hub → α → Hub} (keeps : ∀ g a, (f g a).restartGround = g.restartGround) (l : List α) :
    (l.foldl f h).restartGround = h.restartGround :=
  List.foldlRecOn (motive := fun g : Hub => g.restartGround = h.restartGround) l f rfl fun g kept a _ => (keeps g a).trans kept

theorem upWake_restartGround : h.upWake.restartGround = h.restartGround := by
  unfold Hub.upWake
  dsimp only
  split
  · rfl
  · split <;> rfl

theorem uq0Put_restartGround (x : UpPkt) : (h.uq0Put x).restartGround = h.restartGround := by
  have put : ∀ y, (h.upPut 0 y).restartGround = h.restartGround := fun y => (upWake_restartGround _).trans rfl
  unfold Hub.uq0Put Hub.notePool
  dsimp only
  split
  · exact put _
  · exact put _

/-- An answer of the MF goes up, or is put out where no upstream is ACTIVE (R173). -/
theorem answer_restartGround (src ep rank mx bytes : Nat) (o : Output) : (h.answer src ep rank mx bytes o).restartGround = h.restartGround := by
  unfold Hub.answer
  split
  · rfl
  · dsimp only
    split
    · exact foldl_restartGround h (fun g k => uq0Put_restartGround g _) _
    · exact uq0Put_restartGround h _

theorem mfReady_restartGround : (h.mfReady r).restartGround = h.restartGround := by
  unfold Hub.mfReady
  split
  · exact answer_restartGround ..
  · rfl

theorem stallEval_restartGround : (h.stallEval r).restartGround = h.restartGround := by
  unfold Hub.stallEval
  dsimp only
  split
  · rfl
  · split <;> rfl

/-- A response is stored, or for the policy's ring recorded (R366, R380). -/
theorem storeResp_restartGround (opcode : Nat) (tag : BitVec 16) (completion : Bool) (status detail : Nat) (data : List Byte) (job : Nat) :
    (h.storeResp r opcode tag completion status detail data job).restartGround = h.restartGround := by
  unfold Hub.storeResp
  dsimp only
  split
  · split <;> rfl
  · exact (stallEval_restartGround _ r).trans (mfReady_restartGround _ r)

theorem busyRestart_restartGround (opcode : Nat) (tag : BitVec 16) (completion : Bool) (detail job : Nat) :
    (h.busyRestart r opcode tag completion detail job).restartGround = h.restartGround := by
  unfold Hub.busyRestart
  dsimp only
  split
  · exact storeResp_restartGround (h.bump (cntMbx 4)) r ..
  · rfl

theorem abortCmds_restartGround (ms : List Msg) : (h.abortCmds r ms).restartGround = h.restartGround := by
  induction ms generalizing h with
  | nil => rfl
  | cons m ms ih => exact (ih _).trans (busyRestart_restartGround ..)

theorem abortJobs_restartGround (js : List (Fin 8)) : (h.abortJobs r js).restartGround = h.restartGround := by
  induction js generalizing h with
  | nil => rfl
  | cons j js ih =>
    unfold Hub.abortJobs
    split
    · exact ih h
    · refine (ih _).trans ?_
      split
      · rfl
      · exact busyRestart_restartGround ..

theorem freeSlots_restartGround {f : Hub → Hub} (keeps : (f h).restartGround = h.restartGround) :
    (h.freeSlots r f).restartGround = h.restartGround := by
  unfold Hub.freeSlots
  split
  · exact (mfReady_restartGround _ r).trans keeps
  · exact keeps

theorem ringAbort_restartGround : (h.ringAbort r).restartGround = h.restartGround := by
  have freed := freeSlots_restartGround h r
    (f := fun h => (h.modRing r fun g => { g with cmds := [], running := none, dropRun := false }).stallEval r) (stallEval_restartGround _ r)
  unfold Hub.ringAbort
  dsimp only
  rw [abortJobs_restartGround, abortCmds_restartGround, ← freed]
  split
  · rfl
  · split
    · rfl
    · exact busyRestart_restartGround ..

/-- What waits and runs in the mailbox is aborted and answered busy (R381). -/
theorem restartAbort_restartGround : h.restartAbort.restartGround = h.restartGround := by
  have noted : ∀ (g : Hub) (data : List Nat), ((g.mbxEvt 4).mbxRaise 0xA003 2 data).restartGround = g.restartGround := fun _ _ => rfl
  unfold Hub.restartAbort
  exact (noted _ _).trans ((foldl_restartGround _ ringAbort_restartGround _).trans rfl)

theorem pageNoRoom_restartGround (c : StoreClass) : (h.pageNoRoom c).restartGround = h.restartGround := by
  unfold Hub.pageNoRoom
  split <;> rfl

theorem activeRefused_restartGround (s : Store) : (h.activeRefused s).restartGround = h.restartGround := rfl

theorem storeDefer_restartGround (s : Store) : (h.storeDefer s).restartGround = h.restartGround := rfl

theorem recordLost_restartGround (x : Rec) : (h.recordLost x).restartGround = h.restartGround := rfl

theorem recordDefer_restartGround (x : Rec) : (h.recordDefer x).restartGround = h.restartGround := by
  unfold Hub.recordDefer
  split
  · exact storeDefer_restartGround h _
  · split
    · exact recordLost_restartGround h x
    · split
      · exact recordLost_restartGround h x
      · exact (storeDefer_restartGround _ _).trans ((recordLost_restartGround _ _).trans rfl)

theorem lineDefer_restartGround (d : Deferred) : (h.lineDefer d).restartGround = h.restartGround := by
  unfold Hub.lineDefer Hub.pageDefer
  split
  · rfl
  · split
    · exact recordDefer_restartGround h _
    · split
      · rfl
      · exact pageNoRoom_restartGround h _

theorem gapRecord_restartGround : h.gapRecord.restartGround = h.restartGround := by
  unfold Hub.gapRecord
  dsimp only
  split
  · rfl
  · split <;> rfl

theorem lineStart_restartGround : h.lineStart.restartGround = h.restartGround := by
  unfold Hub.lineStart
  dsimp only
  refine (gapRecord_restartGround _).trans ((foldl_restartGround _ lineDefer_restartGround _).trans ?_)
  exact (foldl_restartGround _ (fun g (d : Deferred) => activeRefused_restartGround g d.store) _).trans rfl

theorem pageStore_restartGround (s : Store) : (h.pageStore s).restartGround = h.restartGround := by
  unfold Hub.pageStore Hub.linePut
  dsimp only
  split
  · rfl
  · split
    · exact pageNoRoom_restartGround h _
    · split
      · rfl
      · split
        · exact (lineStart_restartGround _).trans rfl
        · rfl

theorem eraseKeys_restartGround : h.eraseKeys.restartGround = h.restartGround := (pageStore_restartGround _ _).trans rfl

/-- The boot ROM begins, where it must, with the erase that was under way (R299). -/
theorem bootStart_restartGround : h.bootStart.restartGround = h.restartGround := by
  unfold Hub.bootStart
  dsimp only
  split
  · exact (eraseKeys_restartGround _).trans rfl
  · rfl

end

/-! #### Restarts -/

section
variable {h : Hub}

/-- The count in the window follows from the time, the activation and the count before (R323). -/
theorem Hub.winCount_congr {k : Hub} (clk : k.clk = h.clk) (activated : k.nvm.activatedAt = h.nvm.activatedAt)
    (count : k.nvm.restartsInWin = h.nvm.restartsInWin) (cause : Nat) : k.winCount cause = h.winCount cause := by
  have inside : k.inWindow = h.inWindow := by simp only [Hub.inWindow, clk, activated]
  simp only [Hub.winCount, inside, count]

/-- The end of a restart: it is counted in the window, noted and recorded (R322, R323). -/
def Hub.restartNoted (h : Hub) (cause : Nat) : Hub :=
  let h := h.modNvm fun n => { n with inRestart := true, lastRestart := cause, restartsInWin := h.winCount cause }
  (h.bump (cntNvm 25)).raise srcNvm 0xA103 (if 3 ≤ cause ∧ cause ≤ 5 then 3 else 2)
    [cause, bankNo h.nvm.active, h.nvm.restartsInWin]

theorem Hub.restartNoted_ground (cause : Nat) :
    (h.restartNoted cause).restartGround =
      (h.clk, h.active, h.nvm.faults, h.nvm.activatedAt, h.winCount cause, h.sec.staging, h.sec.bootOk, h.mbx.umuriUp) := rfl

theorem Hub.restartNoted_cause (cause : Nat) :
    (h.restartNoted cause).nvm.inRestart = true ∧ (h.restartNoted cause).nvm.lastRestart = cause := ⟨rfl, rfl⟩

/-- The hub as Umuri is down, with nothing staged and no boot done (R322). -/
def Hub.umuriDown (h : Hub) : Hub :=
  (h.modMbx fun m => { m with umuriUp := false, restarting := true, bootRomOnly := false, halves := [] }).modSec
    fun c => { c with staging := [], bootOk := false }

theorem Hub.umuriDown_ground :
    h.umuriDown.restartGround = (h.clk, h.active, h.nvm.faults, h.nvm.activatedAt, h.nvm.restartsInWin, [], false, false) := rfl

/-- The hub as the boot ROM runs again (R322). -/
def Hub.rebooted (h : Hub) : Hub := h.restartAbort.umuriDown.bootStart

theorem Hub.mpReset_runs (runs : h.domRuns domMp = true) (cause : Nat) : h.mpReset cause = h.rebooted.restartNoted cause := by
  simp only [Hub.mpReset, runs, Hub.rebooted, Hub.umuriDown, Hub.restartNoted, Bool.not_true, Bool.false_eq_true, if_false]

theorem Hub.rebooted_ground :
    h.rebooted.restartGround = (h.clk, h.active, h.nvm.faults, h.nvm.activatedAt, h.nvm.restartsInWin, [], false, false) := by
  have aborted := restartAbort_restartGround h
  simp only [Hub.restartGround, Prod.mk.injEq] at aborted
  obtain ⟨clk, active, faults, activated, count, -⟩ := aborted
  rw [Hub.rebooted, bootStart_restartGround, Hub.umuriDown_ground, clk, active, faults, activated, count]

/-- What a restart leaves: the configuration and the window as they stood, its count in the window, and the boot to be done anew
(R322, R323). -/
theorem Hub.mpReset_ground (runs : h.domRuns domMp = true) (cause : Nat) :
    (h.mpReset cause).restartGround = (h.clk, h.active, h.nvm.faults, h.nvm.activatedAt, h.winCount cause, [], false, false) := by
  have ground := h.rebooted_ground
  simp only [Hub.restartGround, Prod.mk.injEq] at ground
  obtain ⟨clk, active, faults, activated, count, staging, bootOk, up⟩ := ground
  rw [Hub.mpReset_runs runs, Hub.restartNoted_ground, Hub.winCount_congr clk activated count, clk, active, faults, activated, staging,
    bootOk, up]

/-- Whether restarts roll back is configured: an active word, as its parity faults let it be read (R314, R323). -/
theorem Hub.rollbackEn_congr {k : Hub} (active : k.active = h.active) (faults : k.nvm.faults = h.nvm.faults) :
    k.rollbackEn = h.rollbackEn := by
  simp only [Hub.rollbackEn, Hub.flag, Hub.cfg, Hub.act, active, faults]

/-- A restart leaves whether restarts roll back. -/
theorem Hub.mpReset_rollbackEn (cause : Nat) : (h.mpReset cause).rollbackEn = h.rollbackEn := by
  by_cases runs : h.domRuns domMp = true
  · have ground := Hub.mpReset_ground runs cause
    simp only [Hub.restartGround, Prod.mk.injEq] at ground
    obtain ⟨-, active, faults, -⟩ := ground
    exact Hub.rollbackEn_congr active faults
  · rw [Hub.mpReset, if_pos (by simp [runs])]

/-- With rollback disabled a restart is a restart alone (R323). -/
theorem Hub.mpRestart_disabled (disabled : h.rollbackEn = false) (cause : Nat) : h.mpRestart cause = h.mpReset cause :=
  if_neg (by simp [Hub.mpReset_rollbackEn, disabled])

/-- A restart of a kind that does not count rolls nothing back (R323). -/
theorem Hub.mpRestart_uncounted {cause : Nat} (kind : ¬ (3 ≤ cause ∧ cause ≤ 5)) : h.mpRestart cause = h.mpReset cause :=
  if_neg (by simp [kind])

/-- The third restart that counts rolls the firmware back, where that is enabled (R323). -/
theorem Hub.mpRestart_third {cause : Nat} (kind : 3 ≤ cause ∧ cause ≤ 5) (third : (h.mpReset cause).nvm.restartsInWin = 3)
    (enabled : (h.mpReset cause).rollbackEn = true) : h.mpRestart cause = (h.mpReset cause).rollback :=
  if_pos (by simp [kind, third, enabled])

/-- A restart's window count, for a kind that counts (R323, log 62). -/
theorem Hub.winCount_counts {cause : Nat} (kind : 3 ≤ cause ∧ cause ≤ 5) :
    h.winCount cause = if h.inWindow then min 3 (h.nvm.restartsInWin + 1) else 0 := by
  cases inside : h.inWindow <;> simp [Hub.winCount, inside, kind]

/-- An error of the MP's memory is noted, which leaves whether restarts roll back (R328). -/
theorem Hub.mpEcc_rollbackEn (x : MpError) : (h.mpEcc x).rollbackEn = h.rollbackEn := by
  cases x <;> exact Hub.rollbackEn_congr rfl rfl

end

/-- The rows that restart the MP, each with its operation (R322, R328). -/
theorem exec_restartRows {s : State} (works : s.works domMp) :
    exec .mpWatchdogExpiry s = .next (s.put (s.hub.quiet.mpRestart 3)) ∧
    exec .mpException s = .next (s.put (s.hub.quiet.mpRestart 5)) ∧
    ∀ x, exec (.mpEccError x) s = .next (s.put ((s.hub.quiet.mpEcc x).mpRestart 4)) :=
  ⟨inDom_acts (f := fun h => h.mpRestart 3) works rfl, inDom_acts (f := fun h => h.mpRestart 5) works rfl,
    fun x => inDom_acts (f := fun h => (h.mpEcc x).mpRestart 4) works rfl⟩

/-- RESTART that its register takes (R322, R408). -/
theorem exec_restart {s : State} {m : Master} (takes : s.takes m 0x78088 true) :
    exec (.restart m) s = .next (s.put ((s.hub.quiet.written 0x78088).mpRestart 1)) :=
  masterCommand_acts (bit := 0) (f := fun h => h.mpRestart 1) takes rfl

/-- Settles O41: a restart outside the window starts the count anew (log 62). -/
theorem restartAndRollback : Obligations.RestartAndRollback := by
  refine ⟨fun s m x => ⟨fun works disabled => ?_, fun takes => ?_, fun h runs => ?_, fun h third enabled => ?_⟩,
    fun s => ⟨exec_restartRows, fun m takes => exec_restart takes⟩⟩
  · obtain ⟨watchdog, exception, memory⟩ := exec_restartRows works
    have disabled : s.hub.quiet.rollbackEn = false := disabled
    exact ⟨ends_in watchdog (Hub.mpRestart_disabled disabled 3), ends_in exception (Hub.mpRestart_disabled disabled 5),
      ends_in (memory x) (Hub.mpRestart_disabled ((Hub.mpEcc_rollbackEn x).trans disabled) 4)⟩
  · exact ends_in (exec_restart takes) (Hub.mpRestart_uncounted (by decide))
  · have ground := Hub.mpReset_ground runs 3
    obtain ⟨inRestart, last⟩ := Hub.mpReset_runs runs 3 ▸ h.rebooted.restartNoted_cause 3
    simp only [Hub.restartGround, Prod.mk.injEq] at ground
    obtain ⟨-, -, -, -, count, staging, bootOk, up⟩ := ground
    exact ⟨inRestart, last, up, bootOk, staging, count.trans (Hub.winCount_counts (by decide))⟩
  · exact Hub.mpRestart_third (by decide) third enabled

end Sys2Proof.Machine
